-- ==== Sys2Proof/Word.lean ====
section
/-! DEFINITION. The plainest types: bytes, wrapping counters, the numbered things of the part
(00_scope.md, Numbering), and a pair with one entry for each lane. -/

namespace Sys2Proof

/-- One byte on a wire or in the payload store. -/
abbrev Byte := BitVec 8

/-- Site time: milliseconds, 32 bits, wrapping (R16). -/
abbrev SiteTime := BitVec 32

/-- A lane's frame number: 16 bits, wrapping (R95). -/
abbrev FrameNo := BitVec 16

/-- An auditorium number, 0 to 23. -/
abbrev Aud := Fin 24

/-- A track number, 0 to 3. -/
abbrev Track := Fin 4

/-- A roster index, 0 to 511, which is also the receiver's short address (R135). -/
abbrev RxIdx := Fin 512

/-- The two radio lanes. -/
inductive LaneId where
  | A
  | B
deriving DecidableEq, Repr

/-- The lane that is not this one. -/
def LaneId.other : LaneId → LaneId
  | .A => .B
  | .B => .A

/-- One entry for each lane. -/
structure PerLane (α : Type) where
  a : α
  b : α
deriving DecidableEq, Repr

/-- The entry of one lane. -/
def PerLane.get {α : Type} (p : PerLane α) : LaneId → α
  | .A => p.a
  | .B => p.b

/-- The pair with one lane's entry replaced. -/
def PerLane.put {α : Type} (p : PerLane α) (l : LaneId) (x : α) : PerLane α :=
  match l with
  | .A => { p with a := x }
  | .B => { p with b := x }

/-- A fixed-length vector with one entry replaced. -/
def vput {α : Type} {n : Nat} (v : Vector α n) (i : Fin n) (x : α) : Vector α n :=
  v.set i.val x i.isLt

end Sys2Proof
end

