-- ==== Sys2Proof/Syntax.lean ====
section
/-! DEFINITION. The commands of the part: one constructor for each row of spec/opcode_table.json, in
the table's order. A row that is the taking of a request has no operand, because the request taken
is the oldest message of the inbox (R163; log entry 3). -/

namespace Sys2Proof

/-- What a READ_STATE command reads (R157, R158, R161). `firstByte`: CS_N falls, and the first port state
byte is sampled, whichever operation the transaction then names. `secondByte`: in a WRITE_MSG or READ_MSG
the byte after the operation byte begins, and the second port state byte is sampled. `whole n`: the
operation byte 0x30 has completed and the byte after it begins, `n` whole bytes following the operation
byte in all (log entry 8). -/
inductive PortRead where
  | firstByte
  | secondByte
  | whole (n : Nat)
deriving DecidableEq, Repr

inductive Instr where
  /-- SHOW_OPEN (R5): the Request Engine takes a SHOW_OPEN. -/
  | showOpen
  /-- SHOW_CLOSE (R13). -/
  | showClose
  /-- SHOW_WINDOW (R11). -/
  | showWindow
  /-- SYNC_MODE (R22). -/
  | syncMode
  /-- TIMELINE_REPORT (R27). -/
  | timelineReport
  /-- CUE_POST (R54). -/
  | cuePost
  /-- CUE_DATA (R57). -/
  | cueData
  /-- CUE_REVISE (R60). -/
  | cueRevise
  /-- CUE_WITHDRAW (R61). -/
  | cueWithdraw
  /-- CUE_QUERY in mode BY_CUE (R63). -/
  | cueQueryByCue
  /-- CUE_QUERY in mode BY_TRACK (R64). -/
  | cueQueryByTrack
  /-- RX_ISSUE (R140). -/
  | rxIssue
  /-- RX_MOVE (R142). -/
  | rxMove
  /-- RX_RETURN (R144). -/
  | rxReturn
  /-- RX_LOOKUP (R154). -/
  | rxLookup
  /-- RX_LIST (R155). -/
  | rxList
  /-- RX_COUNTS (R156). -/
  | rxCounts
  /-- LANE_START (R92). -/
  | laneStart
  /-- LANE_STOP (R93). -/
  | laneStop
  /-- SET (R167). -/
  | setSetting
  /-- GET (R168). -/
  | getSetting
  /-- STATUS (R177). -/
  | status
  /-- STATUS_CLEAR (R178). -/
  | statusClear
  /-- STATUS_FORCE (R179). -/
  | statusForce
  /-- COUNTERS (R180). -/
  | counters
  /-- IDENTIFY (R169). -/
  | identify
  /-- RESTART (R171). -/
  | restart
  /-- BAD_KIND (R164): a message shorter than its header, or of no request kind. -/
  | badKind
  /-- WRITE_MSG (R159): the operation byte 0x10 completes. -/
  | writeMsg
  /-- WRITE_MSG_END (R159): CS_N rises after `bytes` whole bytes followed the operation byte. -/
  | writeMsgEnd (bytes : List Byte)
  /-- READ_MSG (R160): the operation byte 0x20 completes. -/
  | readMsg
  /-- READ_MSG_END (R160): CS_N rises after `clocked` whole bytes followed the operation byte; the
  first of them carries the second port state byte, the others the response. -/
  | readMsgEnd (clocked : Nat)
  /-- READ_STATE (R158, R161): the port state is read. -/
  | readState (what : PortRead)
  /-- VOID_OPERATION (R157): the operation byte `op`, which names no operation, completes, and `clocked`
  whole bytes follow it. -/
  | voidOperation (op : Byte) (clocked : Nat)
  /-- PIN_RESET (R170): RESET_N goes low, or power comes on. -/
  | pinReset
  /-- LEAVE_RESET (R170): RESET_N rises, or power-on ends. -/
  | leaveReset
  /-- START_UP_COMPLETION (R172). -/
  | startUpCompletion
  /-- ACTIVE_EDGE (R20): sync line `a`, in NONE or an edge mode, changes to `level` (log entry 6). -/
  | activeEdge (a : Aud) (level : Bool)
  /-- GATE_ACTIVE (R37): sync line `a`, in a gate mode, moves to its gate level. -/
  | gateActive (a : Aud)
  /-- GATE_RELEASE (R39): sync line `a`, in a gate mode, leaves its gate level. -/
  | gateRelease (a : Aud)
  /-- COAST_DEADLINE (R40). -/
  | coastDeadline (a : Aud)
  /-- TIMELINE_LOSS_DEADLINE (R41). -/
  | timelineLossDeadline (a : Aud)
  /-- JOIN_DEADLINE_EXPIRY (R147). -/
  | joinDeadlineExpiry (i : RxIdx)
  /-- SILENCE_DEADLINE_EXPIRY (R147). -/
  | silenceDeadlineExpiry (i : RxIdx)
  /-- LOSS_DEADLINE_EXPIRY (R147). -/
  | lossDeadlineExpiry (i : RxIdx)
  /-- LANE_BOUNDARY (R97, R87). -/
  | laneBoundary (l : LaneId)
  /-- BUILD_COMPLETE (R100): the build carries out what is left of its build order and completes. -/
  | buildComplete (l : LaneId)
  /-- SENT (R98): a rising edge on the lane's SENT input. -/
  | sent (l : LaneId)
  /-- RF_READY_RELEASE (R94). -/
  | rfReadyRelease (l : LaneId)
  /-- RF_READY_ASSERT (R94). -/
  | rfReadyAssert (l : LaneId)
  /-- UPLINK_PURGE (R112): a delivered message that fails the form test; `good` is its verdict. -/
  | uplinkPurge (l : LaneId) (good : Bool) (msg : List Byte)
  /-- CHECKIN (R116): a delivered 16-byte message with verdict GOOD that is a CHECKIN in form. -/
  | checkin (l : LaneId) (msg : List Byte)
  /-- ASK (R118): a delivered 16-byte message with verdict GOOD that is an ASK in form. -/
  | ask (l : LaneId) (msg : List Byte)
  /-- SITE_TIME_ADVANCE (R16): one millisecond of CLK_IN. -/
  | siteTimeAdvance
  /-- BUILD_PROGRESS (R99): the lane's Frame Builder carries out the next unit of its build order. -/
  | buildProgress (l : LaneId)
deriving DecidableEq, Repr

end Sys2Proof
end

