-- ==== Sys2Proof/Decode.lean ====
section
/-! DEFINITION. Which command a word of table bits spells. The part is a block: its commands arrive as
events at its wires and as internal steps, and spec/opcode_table.json gives no row any bits. -/

namespace Sys2Proof

/-- The command that a word spells by the table's bits: no row has bits, so no word spells one (log
entry 3). -/
def decodeTableWord (_nbits _w : Nat) : Option Instr := none

end Sys2Proof
end

