-- ==== Sys2Proof/Config.lean ====
section
/-! DEFINITION. The capacities of the part (00_scope.md, The part at a glance) and the values the
model names where the manual leaves a reset value open. The manual calls no value undefined, so
there is no free value here. -/

namespace Sys2Proof.Config

/-- Cue record slots (R45). -/
def cueSlots : Nat := 2048
/-- Payload blocks (R49). -/
def payloadBlocks : Nat := 1024
/-- Bytes in a payload block (R49). -/
def blockBytes : Nat := 256
/-- Bytes of one air frame, header included (R101). -/
def frameBytes : Nat := 4000
/-- Bytes of the frame header (R107). -/
def headerBytes : Nat := 16
/-- Message slots of the inbox and of the outbox (R162). -/
def linkSlots : Nat := 8
/-- Bytes of a request message that an inbox slot stores (R159). -/
def slotBytes : Nat := 1024
/-- The highest position (00_scope.md, Positions). -/
def maxPosition : Nat := 16777215
/-- Entries of a Notice List (R108). -/
def noticeSlots : Nat := 32
/-- Entries of a Repair Queue (R120). -/
def repairSlots : Nat := 32
/-- Inline payload bytes of a CUE_POST or CUE_REVISE (R53). -/
def maxInline : Nat := 992

/-- DESIGN CHOICE, unsafe (log entry 6): a sync line is low when the model starts. -/
def syncLevelAtReset : Bool := false
/-- DESIGN CHOICE, unsafe (log entry 7): RF_READY is released when the model starts. -/
def rfReadyAtReset : Bool := false
/-- DESIGN CHOICE, unsafe (log entry 12): what a payload byte that nothing has written reads as. -/
def unwrittenByte : Byte := 0

end Sys2Proof.Config
end

