-- ==== Sys2Proof/Machine/State.lean ====
section
/-! DEFINITION. The state of the part, block by block, as plain data; the reasons a step can stop;
the state after reset. -/

namespace Sys2Proof.Machine

/-! ### Site Clock and Sync Line Inputs (chapter 2) -/

/-- Where the part stands with respect to a reset (R158, R170, R172). -/
inductive Phase where
  | inReset | startUp | ready
deriving DecidableEq, Repr

/-- The Site Clock (R16, R18). `due` marks a boundary of the present millisecond that its
LANE_BOUNDARY has not yet taken; it is the model's own (log entry 5). -/
structure SiteClock where
  time : SiteTime
  due : PerLane Bool
deriving DecidableEq, Repr

/-- The five sensitivities (R19). -/
inductive Sens where
  | noneMode | rise | fall | gateHigh | gateLow
deriving DecidableEq, Repr

/-- A Sync Line Input (R19) and the level of its line. -/
structure SyncInput where
  level : Bool
  sens : Sens
  capture : Option SiteTime
  gate : Bool
deriving DecidableEq, Repr

/-- Timeline states (R23). -/
inductive TLState where
  | inactive | acquiring | running | coasting | held | stopped | lost
deriving DecidableEq, Repr

/-- Report kinds (section 2.5). -/
inductive ReportKind where
  | playing | paused | stopped
deriving DecidableEq, Repr

/-- Outcomes of a TIMELINE_REPORT (R27). -/
inductive ReportOutcome where
  | acquired | snapped | strike | jump | held | stopped | gated
deriving DecidableEq, Repr

/-- The anchor (S0, P0) of a Timeline (R23). -/
structure Anchor where
  time : SiteTime
  pos : Nat
deriving DecidableEq, Repr

/-- A Timeline (R23). -/
structure Timeline where
  state : TLState
  anchor : Option Anchor
  rate : Nat
  frozen : Option Nat
  epoch : BitVec 8
  strikes : Nat
  candidate : Option Int
  lastAccepted : Option SiteTime
  lastKind : Option ReportKind
  gated : Bool
deriving DecidableEq, Repr

/-! ### Show Directory (chapter 1) -/

/-- Kinds of tracks and cues (R2, R46). -/
inductive CueKind where
  | caption | clip
deriving DecidableEq, Repr

/-- A language code: three ASCII letters (R2). -/
structure Lang where
  c0 : Byte
  c1 : Byte
  c2 : Byte
deriving DecidableEq, Repr

/-- A track record (R2) with the track's lineup, an ordered list of cue slots (R48). -/
structure TrackRec where
  kind : CueKind
  lang : Lang
  base : Nat
  limit : Nat
  listeners : Nat
  lastDone : Option Nat
  lineup : List Nat
deriving DecidableEq, Repr

/-- The part of an auditorium record that exists while it is OPEN (R1). The track count is
`tracks.length`. -/
structure Show where
  lane : LaneId
  tracks : List TrackRec
  cueCount : Nat
deriving DecidableEq, Repr

/-! ### Cue Table (chapters 3 and 4) -/

/-- Delivery (R47). -/
inductive Delivery where
  | waiting | sending | sent
deriving DecidableEq, Repr

/-- Phase of a cue (R47). -/
inductive CuePhase where
  | ahead | showing | retained
deriving DecidableEq, Repr

/-- Alignment of a caption (R46). -/
inductive Align where
  | left | centre | right
deriving DecidableEq, Repr

/-- Caption attributes (R46). -/
structure Attrs where
  row : Nat
  align : Align
  italic : Bool
  speaker : Bool
deriving DecidableEq, Repr

/-- A cue record (R46). `off` is the send offset, `num` the cue number, `air` the air count. -/
structure Cue where
  slot : Nat
  aud : Aud
  track : Track
  num : Nat
  kind : CueKind
  inP : Nat
  outP : Nat
  rev : BitVec 8
  declared : Nat
  fill : Nat
  off : Nat
  blocks : List Nat
  attrs : Option Attrs
  delivery : Delivery
  phase : CuePhase
  air : Nat
  late : Bool
  relaunch : Bool
  repeatDue : Bool
  underrun : Bool
deriving DecidableEq, Repr

/-- The Cue Table: the records in use in slot order (R45), the free-block list (R50), and the
payload store, byte k of block b at address 256 b + k (R49). -/
structure CueTable where
  cues : List Cue
  free : List Nat
  payload : List Host.Cell
deriving DecidableEq, Repr

/-! ### Air frames (chapters 5 and 11) -/

/-- Receiver kinds (R136). -/
inductive RxKind where
  | captionDisplay | descriptionHeadset
deriving DecidableEq, Repr

/-- The part that CAPTION, SEGMENT and REPAIR sections have in common (R185). -/
structure CueHead where
  aud : Aud
  track : Track
  num : Nat
  rev : BitVec 8
  inP : Nat
  outP : Nat
  kind : CueKind
  declared : Nat
deriving DecidableEq, Repr

/-- The fields of an ANNOUNCE section (R103, R153). -/
structure Announce where
  index : RxIdx
  serial : Nat
  aud : Aud
  track : Track
  kind : RxKind
  lane : Option LaneId
  lang : Option Lang
  seat : List Byte
  moving : Bool
deriving DecidableEq, Repr

/-- The sections of an air frame (R185). -/
inductive Section where
  | stamp (a : Aud) (st : TLState) (epoch : BitVec 8) (gated : Bool) (tracks pos rate : Nat)
  | caption (h : CueHead) (isRepeat late relaunch : Bool) (attrs : Attrs) (air : Nat) (data : List Byte)
  | segment (h : CueHead) (late relaunch : Bool) (off : Nat) (data : List Byte)
  | repair (h : CueHead) (asks : Nat) (attrs : Option Attrs) (off : Nat) (firstAsk : FrameNo) (data : List Byte)
  | gone (a : Aud) (t : Track) (num : Nat) (rev : Option (BitVec 8)) (asks : Nat)
  | withdraw (a : Aud) (t : Track) (num : Nat) (left : Nat)
  | release (addr : RxIdx) (check : Byte) (left : Nat)
  | announce (x : Announce)
deriving DecidableEq, Repr

/-- A frame: its header's own fields and its whole sections, in order. Frame length, section count
and stamp count are computed from the sections (R99, R100). -/
structure Frame where
  lane : LaneId
  number : FrameNo
  air : SiteTime
  cut : Bool
  sections : List Section
deriving DecidableEq, Repr

/-- A frame buffer (R96), with the frame it holds. -/
inductive Buffer where
  | empty
  | building (f : Frame)
  | ready (f : Frame)
  | onAir (f : Frame)
deriving DecidableEq, Repr

/-- The two buffers of a lane. -/
inductive BufId where
  | b0 | b1
deriving DecidableEq, Repr

/-- The one reading of a Timeline that a build makes (R70, R102); `pos` is P(A) where the state gives
one. -/
structure Reading where
  state : TLState
  epoch : BitVec 8
  rate : Nat
  gated : Bool
  pos : Option Nat
deriving DecidableEq, Repr

/-- The kinds of offer (R77). -/
inductive OfferKind where
  | continuing | caption | firstSegment | captionRepeat
deriving DecidableEq, Repr

/-- An offer of the airing walk, with the key that orders it (R77, R105). -/
structure Offer where
  kind : OfferKind
  slot : Nat
  inP : Nat
  aud : Aud
  track : Track
  num : Nat
deriving DecidableEq, Repr

/-- How far a build has come in its build order (R101), with what is left of the present step.
`stamps`: auditoriums not yet stamped. `notices`: how many notices at the head of the list this
build has passed, and how many it has placed. `select`: records not yet considered, records chosen,
ANNOUNCE_EVERY and ANNOUNCE_CAP as read. `announce`: chosen records not yet begun. `announcing`: a
section being written, its record, and the chosen records after it. `walk`: tracks not yet reached, slots of the present track not yet reached,
the offers so far. `reserve`: step 5 is next. `content`: offers not yet taken, in order, the
allowance left and the reserve. `repairs`: how many entries at the head of the queue step 7 has
passed, and the room left. -/
inductive Stage where
  | stamps (left : List Aud)
  | notices (passed placed : Nat)
  | select (left chosen : List RxIdx) (every cap : Nat)
  | announce (left : List RxIdx) (every : Nat)
  | announcing (now : RxIdx) (sec : Announce) (left : List RxIdx) (every : Nat)
  | walk (work : List (Aud × Track)) (slots : List Nat) (offers : List Offer)
  | reserve (offers : List Offer)
  | content (offers : List Offer) (allowance kept : Nat)
  | repairs (passed room : Nat)
  | finished
deriving DecidableEq, Repr

/-- A build in progress (R99 to R101). `jumped` holds the auditoriums that have jumped since the build
read them (R88). -/
structure Build where
  buf : BufId
  air : SiteTime
  number : FrameNo
  readings : List (Aud × Reading)
  jumped : List Aud
  stage : Stage
deriving DecidableEq, Repr

/-! ### Notice Lists, Repair Queues, Radio Lanes (chapters 5 and 7) -/

/-- What a notice says (R108). -/
inductive NoticeItem where
  | withdraw (a : Aud) (t : Track) (num : Nat)
  | release (addr : RxIdx) (check : Byte)
deriving DecidableEq, Repr

/-- A notice and its remaining airings (R108). -/
structure Notice where
  item : NoticeItem
  left : Nat
deriving DecidableEq, Repr

/-- What became of a notice (R62, R145). -/
inductive NoticeOutcome where
  | placed | notNeeded | dropped
deriving DecidableEq, Repr

/-- Kinds of repair entry (R121). -/
inductive RepairKind where
  | content | gone
deriving DecidableEq, Repr

/-- States of a repair entry (R121). -/
inductive RepairState where
  | waiting | sending | holding
deriving DecidableEq, Repr

/-- A repair entry (R121). -/
structure Repair where
  kind : RepairKind
  aud : Aud
  track : Track
  num : Nat
  rev : Option (BitVec 8)
  state : RepairState
  asks : Nat
  firstAsk : FrameNo
  off : Nat
  hold : Nat
deriving DecidableEq, Repr

/-- Lane states (R91). -/
inductive LaneState where
  | stopped | running | fault
deriving DecidableEq, Repr

/-- A Radio Lane (R90) with its Frame Builder, Notice List, Repair Queue and Announcement Rotation.
`frameOut` is what the lane last handed to its transceiver (R97; log entry 13). -/
structure Lane where
  state : LaneState
  frameNo : FrameNo
  buf0 : Buffer
  buf1 : Buffer
  missed : Nat
  rfReady : Bool
  build : Option Build
  notices : List Notice
  repairs : List Repair
  rotation : List RxIdx
  frameOut : List Byte
deriving DecidableEq, Repr

/-! ### Receiver Roster (chapter 8) -/

/-- States of a roster record in use; a FREE record is one that is not listed (R135). -/
inductive RxState where
  | issued | joined | silent | lost | moving
deriving DecidableEq, Repr

/-- Loss reasons (R136). -/
inductive LossReason where
  | neverJoined | silentTooLong | moveUnheard
deriving DecidableEq, Repr

/-- What check-ins have told of a receiver: the fields of R136 that are absent until the first
check-in. -/
structure Heard where
  time : SiteTime
  lane : LaneId
  battery : Nat
  link : Nat
  lag : Nat
deriving DecidableEq, Repr

/-- A roster record in use (R136). An empty `seat` is an absent seat label. -/
structure RxRec where
  index : RxIdx
  serial : Nat
  kind : RxKind
  state : RxState
  aud : Aud
  track : Track
  seat : List Byte
  issuedAt : SiteTime
  heard : Option Heard
  poor : Bool
  unmatched : Bool
  movedFrom : Option Aud
  loss : Option LossReason
  joinDl : Option SiteTime
  silenceDl : Option SiteTime
  lossDl : Option SiteTime
  marks : PerLane (Option FrameNo)
deriving DecidableEq, Repr

/-! ### Site link (chapter 9) -/

/-- Results of a request (section 9.3). -/
inductive Result where
  | ok | badFormat | badKind | notOpen | noTrack | kind | exists_ | noSuch | outOfWindow | late
  | order | quota | full | noRoom | duplicate | busy | laneNotReady
deriving DecidableEq, Repr

/-- A message in the inbox: the bytes stored, and how many its transaction delivered (R159, R162). -/
structure Msg where
  bytes : List Byte
  delivered : Nat
deriving DecidableEq, Repr

/-- A response in the outbox (R162, R164). -/
structure Response where
  kind : Byte
  tag : Byte
  result : Result
  fault : Bool
  notice : Bool
  clamped : Bool
  body : List Byte
deriving DecidableEq, Repr

/-- What a transaction has taken hold of (R159, R160): whether a WRITE_MSG claimed a slot, and whether a
READ_MSG selected a response, which is the head of the outbox. -/
inductive TxnKind where
  | write (claimed : Bool)
  | read (selected : Bool)
deriving DecidableEq, Repr

/-- A WRITE_MSG or READ_MSG whose operation byte has completed and whose CS_N has not risen (R157).
`out` is what the part sends from the byte after the operation byte on, the second port state byte first
and zeros following; `begun` says that the first of these bytes has begun (R158). -/
structure Txn where
  kind : TxnKind
  begun : Bool
  out : List Byte
deriving DecidableEq, Repr

/-- The site link (R162). `csSample` is the first port state byte as sampled when CS_N fell, until the
operation byte completes (R158); `miso` holds the bytes the part has sent in the present or the last
transaction (log entry 8). -/
structure Link where
  inbox : List Msg
  outbox : List Response
  csSample : Option Byte
  txn : Option Txn
  miso : List Byte
deriving DecidableEq, Repr

/-- The settings, in the order of R166. -/
inductive Setting where
  | tLock | jumpConfirm | reportTimeout | coastLimit | pairWindow | captionLead | descLeadBase
  | segmentMax | captionRepeat | retainMs | repairFloor | repairSegmentMax | holdFrames
  | noticeRepeat | announceEvery | announceCap | silentAfter | lostAfter | joinWindow | lagWarn
  | audCueQuota | poolLowMark | faultMask | noticeMask | attnOnStatus
deriving DecidableEq, Repr

/-! ### Status Unit (chapter 10) -/

/-- The sixteen conditions, in the order of section 10.1. -/
inductive Cond where
  | tlLost | tlCoast | laneFault | poolLow | tlGlitch | tlJump | edgeOverrun | cueLate
  | clipUnderrun | repairDropped | noticeDropped | buildCut | uplinkBad | rxLost | rxStray
  | inboxOverflow
deriving DecidableEq, Repr

/-- What a condition is recorded against (R173). -/
inductive CondRec where
  | absent | nobody | aud (a : Aud) | lane (l : LaneId)
deriving DecidableEq, Repr

/-- One condition: whether it is set, and its record (R173). -/
structure CondState where
  on : Bool
  who : CondRec
deriving DecidableEq, Repr

/-- The Status Unit (R173), with the judged summary flags (R176) and the part's own drive of ATTN_N
(R165; true is asserted). -/
structure Status where
  conds : Vector CondState 16
  forcedFault : Bool
  forcedNotice : Bool
  fault : Bool
  notice : Bool
  attn : Bool
deriving DecidableEq, Repr

/-- The counters of an auditorium, in the order of R180. -/
inductive AudCounter where
  | jumps | strikes | unpaired | late | lateDropped | underruns | repairsAnswered | repairsLate
deriving DecidableEq, Repr

/-- The counters of a lane, in the order of R180. -/
inductive LaneCounter where
  | sent | skipped | cut | uplinkBad | asksIgnored | asksCrossed | asksDropped | strays
deriving DecidableEq, Repr

/-! ### The whole state -/

/-- Why a step can fault: no rule of the manual makes the part stop, so there is no reason. -/
inductive Fault where
deriving DecidableEq, Repr

/-- Why a step can be refused. -/
inductive Refusal where
  /-- Raised by an arm of exec that has no meaning yet; safe, since the model then stops. No arm of
  this model raises it. -/
  | notModelled (mnemonic : String)
deriving DecidableEq, Repr

structure State where
  pending : List Instr
  phase : Phase
  clock : SiteClock
  sync : Vector SyncInput 24
  timelines : Vector Timeline 24
  directory : Vector (Option Show) 24
  table : CueTable
  lanes : PerLane Lane
  roster : List RxRec
  settings : Vector Nat 25
  link : Link
  status : Status
  audCounters : Vector (Vector Nat 8) 24
  laneCounters : PerLane (Vector Nat 8)
deriving DecidableEq, Repr

/-! ### Reset values -/

/-- A Sync Line Input after a reset (R19), its line at the given level. -/
def SyncInput.reset (level : Bool) : SyncInput :=
  { level := level, sens := .noneMode, capture := none, gate := false }

/-- A Timeline after a reset (R23). -/
def Timeline.reset : Timeline :=
  { state := .inactive, anchor := none, rate := 65536, frozen := none, epoch := 0, strikes := 0,
    candidate := none, lastAccepted := none, lastKind := none, gated := false }

/-- A Radio Lane after a reset (R90), RF_READY as the input stands. -/
def Lane.reset (rf : Bool) : Lane :=
  { state := .stopped, frameNo := 0, buf0 := .empty, buf1 := .empty, missed := 0, rfReady := rf,
    build := none, notices := [], repairs := [], rotation := [], frameOut := [] }

/-- The defaults of the settings, in the order of R166. FAULT_MASK is TL_LOST and LANE_FAULT,
NOTICE_MASK the eleven latched conditions, as condition sets (R181). -/
def defaultSettings : Vector Nat 25 :=
  #v[8, 2, 2000, 10000, 200, 500, 300, 120, 1, 3000, 256, 240, 2, 3, 10, 8, 15000, 120000, 300000,
    3, 160, 64, 0x5, 0xFFE0, 1]

/-- The Status Unit after a reset (R173). -/
def Status.reset : Status :=
  { conds := Vector.replicate 16 ⟨false, .absent⟩, forcedFault := false, forcedNotice := false,
    fault := false, notice := false, attn := false }

/-- The machine right after a pin reset has ended (R170): start-up has begun, site time is 0, every
block and setting has its reset value, and no command waits. -/
def State.reset : State :=
  { pending := []
    phase := .startUp
    clock := { time := 0, due := ⟨true, false⟩ }
    sync := Vector.replicate 24 (SyncInput.reset Config.syncLevelAtReset)
    timelines := Vector.replicate 24 Timeline.reset
    directory := Vector.replicate 24 none
    table := { cues := [], free := List.range 1024, payload := [] }
    lanes := ⟨Lane.reset Config.rfReadyAtReset, Lane.reset Config.rfReadyAtReset⟩
    roster := []
    settings := defaultSettings
    link := { inbox := [], outbox := [], csSample := none, txn := none, miso := [] }
    status := Status.reset
    audCounters := Vector.replicate 24 (Vector.replicate 8 0)
    laneCounters := ⟨Vector.replicate 8 0, Vector.replicate 8 0⟩ }

end Sys2Proof.Machine
end

