-- ==== Sys2Proof/Machine/Bytes.lean ====
section
/-! DEFINITION. Byte order, the codes of section 11.1 and of R182 and R184, and the signed difference
of site times (R16). -/

namespace Sys2Proof.Machine

/-! ### Site time -/

/-- The difference t1 - t2 of two site times modulo 2^32, read as a signed number (R16). -/
def sdiff (t1 t2 : SiteTime) : Int := (t1 - t2).toInt

/-- A deadline is reached when site time minus the deadline, as a signed difference, is 0 or more
(R17). -/
def reached (now deadline : SiteTime) : Bool := decide (0 ≤ sdiff now deadline)

/-- The deadline `ms` milliseconds after `t` (R17). -/
def after (t : SiteTime) (ms : Nat) : SiteTime := t + BitVec.ofNat 32 ms

/-! ### Byte order (R181): most significant byte first -/

/-- A one-byte field. -/
def be8 (n : Nat) : List Byte := [BitVec.ofNat 8 n]
/-- A two-byte field. -/
def be16 (n : Nat) : List Byte := [BitVec.ofNat 8 (n / 256), BitVec.ofNat 8 n]
/-- A three-byte field. -/
def be24 (n : Nat) : List Byte :=
  [BitVec.ofNat 8 (n / 65536), BitVec.ofNat 8 (n / 256), BitVec.ofNat 8 n]
/-- A four-byte field. -/
def be32 (n : Nat) : List Byte :=
  [BitVec.ofNat 8 (n / 16777216), BitVec.ofNat 8 (n / 65536), BitVec.ofNat 8 (n / 256),
   BitVec.ofNat 8 n]

/-- The byte at an offset, as a number. -/
def rd8 (b : List Byte) (i : Nat) : Nat := (b.getD i 0).toNat
/-- The two-byte field at an offset. -/
def rd16 (b : List Byte) (i : Nat) : Nat := rd8 b i * 256 + rd8 b (i + 1)
/-- The three-byte field at an offset. -/
def rd24 (b : List Byte) (i : Nat) : Nat := rd16 b i * 256 + rd8 b (i + 2)
/-- The four-byte field at an offset. -/
def rd32 (b : List Byte) (i : Nat) : Nat := rd24 b i * 256 + rd8 b (i + 3)

/-- A flag as a bit of a byte. -/
def flagBit (b : Bool) (i : Nat) : Nat := if b then 2 ^ i else 0

/-- An optional field of `width` bytes: a presence byte, then the field or zeros (R184). -/
def optField (width : Nat) : Option (List Byte) → List Byte
  | some bs => be8 1 ++ bs
  | none => be8 0 ++ List.replicate width 0

/-! ### Numbers of the part -/

/-- An auditorium number, if in range. -/
def aud? (n : Nat) : Option Aud := if h : n < 24 then some ⟨n, h⟩ else none
/-- A track number, if in range. -/
def track? (n : Nat) : Option Track := if h : n < 4 then some ⟨n, h⟩ else none
/-- A roster index, if in range. -/
def rxIdx? (n : Nat) : Option RxIdx := if h : n < 512 then some ⟨n, h⟩ else none

/-- The track reference byte (R181). -/
def trackRef (a : Aud) (t : Track) : Nat := a.val * 4 + t.val

/-! ### Codes -/

/-- Lane code (R181). -/
def laneCode : LaneId → Nat
  | .A => 0
  | .B => 1
/-- Lane named by a code (R181). -/
def lane? : Nat → Option LaneId
  | 0 => some .A
  | 1 => some .B
  | _ => none

/-- Cue or track kind code (R181). -/
def cueKindCode : CueKind → Nat
  | .caption => 0
  | .clip => 1
/-- Cue or track kind named by a code (R181). -/
def cueKind? : Nat → Option CueKind
  | 0 => some .caption
  | 1 => some .clip
  | _ => none

/-- Receiver kind code (R181). -/
def rxKindCode : RxKind → Nat
  | .captionDisplay => 0
  | .descriptionHeadset => 1
/-- Receiver kind named by a code (R181). -/
def rxKind? : Nat → Option RxKind
  | 0 => some .captionDisplay
  | 1 => some .descriptionHeadset
  | _ => none

/-- Report kind named by a code (R181). -/
def reportKind? : Nat → Option ReportKind
  | 0 => some .playing
  | 1 => some .paused
  | 2 => some .stopped
  | _ => none

/-- Sensitivity code (R181). -/
def sensCode : Sens → Nat
  | .noneMode => 0
  | .rise => 1
  | .fall => 2
  | .gateHigh => 3
  | .gateLow => 4
/-- Sensitivity named by a code (R181). -/
def sens? : Nat → Option Sens
  | 0 => some .noneMode
  | 1 => some .rise
  | 2 => some .fall
  | 3 => some .gateHigh
  | 4 => some .gateLow
  | _ => none

/-- Timeline state code (R181). -/
def tlStateCode : TLState → Nat
  | .inactive => 0
  | .acquiring => 1
  | .running => 2
  | .coasting => 3
  | .held => 4
  | .stopped => 5
  | .lost => 6

/-- Roster state code (R181); FREE is 0. -/
def rxStateCode : RxState → Nat
  | .issued => 1
  | .joined => 2
  | .silent => 3
  | .lost => 4
  | .moving => 5

/-- Report outcome code (R184). -/
def outcomeCode : ReportOutcome → Nat
  | .acquired => 0
  | .snapped => 1
  | .strike => 2
  | .jump => 3
  | .held => 4
  | .stopped => 5
  | .gated => 6

/-- Notice outcome code (R184). -/
def noticeOutcomeCode : NoticeOutcome → Nat
  | .placed => 0
  | .notNeeded => 1
  | .dropped => 2

/-- Delivery code (R184). -/
def deliveryCode : Delivery → Nat
  | .waiting => 0
  | .sending => 1
  | .sent => 2

/-- Phase code (R184). -/
def phaseCode : CuePhase → Nat
  | .ahead => 0
  | .showing => 1
  | .retained => 2

/-- Lane state code (R184). -/
def laneStateCode : LaneState → Nat
  | .stopped => 0
  | .running => 1
  | .fault => 2

/-- Loss reason code (R184). -/
def lossCode : LossReason → Nat
  | .neverJoined => 0
  | .silentTooLong => 1
  | .moveUnheard => 2

/-- Alignment code (R181). -/
def alignCode : Align → Nat
  | .left => 0
  | .centre => 1
  | .right => 2
/-- Alignment named by a code (R181); 3 is out of range. -/
def align? : Nat → Option Align
  | 0 => some .left
  | 1 => some .centre
  | 2 => some .right
  | _ => none

/-- The attributes byte (R181). -/
def attrsCode (x : Attrs) : Nat :=
  x.row * 16 + alignCode x.align * 4 + flagBit x.italic 1 + flagBit x.speaker 0

/-- The attributes an attributes byte carries (R181). -/
def attrs? (n : Nat) : Option Attrs :=
  (align? (n / 4 % 4)).map fun al =>
    { row := n / 16, align := al, italic := n / 2 % 2 == 1, speaker := n % 2 == 1 }

/-- A letter of a language code (R181). -/
def isLetter (b : Byte) : Bool :=
  (0x41 ≤ b.toNat && b.toNat ≤ 0x5A) || (0x61 ≤ b.toNat && b.toNat ≤ 0x7A)

/-- A character of a seat label (R183). -/
def isSeatChar (b : Byte) : Bool := 0x20 ≤ b.toNat && b.toNat ≤ 0x7E

/-- A condition's record (R184). -/
def condRecCode : CondRec → Nat
  | .aud a => a.val
  | .lane .A => 0x40
  | .lane .B => 0x41
  | .nobody => 0xFE
  | .absent => 0xFF

/-- Result code (R182). -/
def resultCode : Result → Nat
  | .ok => 0
  | .badFormat => 1
  | .badKind => 2
  | .notOpen => 3
  | .noTrack => 4
  | .kind => 5
  | .exists_ => 6
  | .noSuch => 7
  | .outOfWindow => 8
  | .late => 9
  | .order => 10
  | .quota => 11
  | .full => 12
  | .noRoom => 13
  | .duplicate => 14
  | .busy => 15
  | .laneNotReady => 16

/-- A response as bytes (R182). -/
def responseBytes (r : Response) : List Byte :=
  [r.kind, r.tag] ++ be8 (resultCode r.result)
    ++ be8 (flagBit r.fault 0 + flagBit r.notice 1 + flagBit r.clamped 2)
    ++ be16 r.body.length ++ r.body

end Sys2Proof.Machine
end

