-- ==== Sys2Proof/Machine/Flags.lean ====
section
/-! DEFINITION. Settings, counters, conditions, summary flags and ATTN_N: the Status Unit's side of
every event (chapters 9 and 10). -/

namespace Sys2Proof.Machine

/-! ### Settings (R166) -/

/-- The place of a setting in the table of R166, from 0. -/
def settingIdx : Setting → Fin 25
  | .tLock => 0
  | .jumpConfirm => 1
  | .reportTimeout => 2
  | .coastLimit => 3
  | .pairWindow => 4
  | .captionLead => 5
  | .descLeadBase => 6
  | .segmentMax => 7
  | .captionRepeat => 8
  | .retainMs => 9
  | .repairFloor => 10
  | .repairSegmentMax => 11
  | .holdFrames => 12
  | .noticeRepeat => 13
  | .announceEvery => 14
  | .announceCap => 15
  | .silentAfter => 16
  | .lostAfter => 17
  | .joinWindow => 18
  | .lagWarn => 19
  | .audCueQuota => 20
  | .poolLowMark => 21
  | .faultMask => 22
  | .noticeMask => 23
  | .attnOnStatus => 24

/-- The settings in the order of R166. -/
def allSettings : List Setting :=
  [.tLock, .jumpConfirm, .reportTimeout, .coastLimit, .pairWindow, .captionLead, .descLeadBase,
   .segmentMax, .captionRepeat, .retainMs, .repairFloor, .repairSegmentMax, .holdFrames,
   .noticeRepeat, .announceEvery, .announceCap, .silentAfter, .lostAfter, .joinWindow, .lagWarn,
   .audCueQuota, .poolLowMark, .faultMask, .noticeMask, .attnOnStatus]

/-- The setting numbered n, 1 to 25 (R181). -/
def setting? (n : Nat) : Option Setting := if n = 0 then none else allSettings[n - 1]?

/-- A setting's value in effect. -/
def State.setting (s : State) (k : Setting) : Nat := s.settings.get (settingIdx k)

/-- Put a value in effect. -/
def State.withSetting (s : State) (k : Setting) (v : Nat) : State :=
  { s with settings := vput s.settings (settingIdx k) v }

/-! ### Counters (R180) -/

/-- The place of a counter among an auditorium's eight (R180). -/
def audCounterIdx : AudCounter → Fin 8
  | .jumps => 0
  | .strikes => 1
  | .unpaired => 2
  | .late => 3
  | .lateDropped => 4
  | .underruns => 5
  | .repairsAnswered => 6
  | .repairsLate => 7

/-- The place of a counter among a lane's eight (R180). -/
def laneCounterIdx : LaneCounter → Fin 8
  | .sent => 0
  | .skipped => 1
  | .cut => 2
  | .uplinkBad => 3
  | .asksIgnored => 4
  | .asksCrossed => 5
  | .asksDropped => 6
  | .strays => 7

/-- A counter after its event: up by 1, staying at 65,535 (R180). -/
def bump (n : Nat) : Nat := if n < 65535 then n + 1 else n

/-- One of an auditorium's counters. -/
def State.audCount (s : State) (a : Aud) (c : AudCounter) : Nat :=
  (s.audCounters.get a).get (audCounterIdx c)

/-- One of a lane's counters. -/
def State.laneCount (s : State) (l : LaneId) (c : LaneCounter) : Nat :=
  (s.laneCounters.get l).get (laneCounterIdx c)

/-- Raise one of an auditorium's counters (R180). -/
def State.countAud (s : State) (a : Aud) (c : AudCounter) : State :=
  { s with
    audCounters :=
      vput s.audCounters a (vput (s.audCounters.get a) (audCounterIdx c) (bump (s.audCount a c))) }

/-- Raise one of a lane's counters (R180). -/
def State.countLane (s : State) (l : LaneId) (c : LaneCounter) : State :=
  { s with
    laneCounters :=
      s.laneCounters.put l (vput (s.laneCounters.get l) (laneCounterIdx c) (bump (s.laneCount l c))) }

/-- Zero every counter (R178, R180). -/
def State.zeroCounters (s : State) : State :=
  { s with
    audCounters := Vector.replicate 24 (Vector.replicate 8 0)
    laneCounters := ⟨Vector.replicate 8 0, Vector.replicate 8 0⟩ }

/-! ### Conditions (R173 to R175) -/

/-- The bit of a condition in a condition set (R181). -/
def condIdx : Cond → Fin 16
  | .tlLost => 0
  | .tlCoast => 1
  | .laneFault => 2
  | .poolLow => 3
  | .tlGlitch => 4
  | .tlJump => 5
  | .edgeOverrun => 6
  | .cueLate => 7
  | .clipUnderrun => 8
  | .repairDropped => 9
  | .noticeDropped => 10
  | .buildCut => 11
  | .uplinkBad => 12
  | .rxLost => 13
  | .rxStray => 14
  | .inboxOverflow => 15

/-- The current conditions (section 10.1). -/
def currentConds : List Cond := [.tlLost, .tlCoast, .laneFault, .poolLow]

/-- The latched conditions (section 10.1). -/
def latchedConds : List Cond :=
  [.tlJump, .edgeOverrun, .cueLate, .clipUnderrun, .repairDropped, .noticeDropped, .buildCut,
   .uplinkBad, .rxLost, .rxStray, .inboxOverflow]

/-- The sixteen conditions in the order of section 10.1. -/
def allConds : List Cond :=
  [.tlLost, .tlCoast, .laneFault, .poolLow, .tlGlitch, .tlJump, .edgeOverrun, .cueLate,
   .clipUnderrun, .repairDropped, .noticeDropped, .buildCut, .uplinkBad, .rxLost, .rxStray,
   .inboxOverflow]

/-- One condition's state. -/
def State.cond (s : State) (c : Cond) : CondState := s.status.conds.get (condIdx c)

/-- Write one condition's state. -/
def State.withCond (s : State) (c : Cond) (x : CondState) : State :=
  { s with status := { s.status with conds := vput s.status.conds (condIdx c) x } }

/-- A latched condition's event, or the capture of TL_GLITCH: the condition is set and its record is
the newer setter (R175). -/
def State.latch (s : State) (c : Cond) (who : CondRec) : State := s.withCond c ⟨true, who⟩

/-- Judge a current condition: it is set while the state it follows holds; the record is written only
when it becomes current from clear, and kept when it ceases (R174). -/
def State.judge (s : State) (c : Cond) (holds : Bool) (who : CondRec) : State :=
  if holds then (if (s.cond c).on then s else s.withCond c ⟨true, who⟩)
  else s.withCond c ⟨false, (s.cond c).who⟩

/-- A condition ceases to be set; its record is kept (R174, R175, R178). -/
def State.clearCond (s : State) (c : Cond) : State := s.withCond c ⟨false, (s.cond c).who⟩

/-- Whether a condition set names a condition (R181). -/
def inMask (mask : Nat) (c : Cond) : Bool := mask.testBit (condIdx c).val

/-- The members of a list of conditions that are set, as a condition set (R181). -/
def condSet (s : State) (cs : List Cond) : Nat :=
  (cs.map fun c => flagBit (s.cond c).on (condIdx c).val).sum

/-! ### Summary flags and ATTN_N (R165, R176) -/

/-- The fault flag (R176). -/
def faultFlag (s : State) : Bool :=
  currentConds.any (fun c => inMask (s.setting .faultMask) c && (s.cond c).on)
    || (s.cond .tlGlitch).on || s.status.forcedFault

/-- The notice flag (R176). -/
def noticeFlag (s : State) : Bool :=
  latchedConds.any (fun c => inMask (s.setting .noticeMask) c && (s.cond c).on)
    || s.status.forcedNotice

/-- Whether ATTN_N is asserted (R165): never in reset or start-up. -/
def attnLine (s : State) : Bool :=
  s.phase == .ready
    && (!s.link.outbox.isEmpty || (s.setting .attnOnStatus == 1 && (faultFlag s || noticeFlag s)))

/-- Judge the summary flags and ATTN_N afresh (R176, R165). Every command ends with it. -/
def settle (s : State) : State :=
  { s with
    status :=
      { s.status with fault := faultFlag s, notice := noticeFlag s, attn := attnLine s } }

/-- The outcome of a meaning that has made its changes: the next state, judged. -/
def done (s : State) : Host.Outcome State Fault Refusal := .next (settle s)

/-- The outcome of a command whose own condition does not hold: the event it names does not happen,
and nothing changes (log entry 2). -/
def noEvent (s : State) : Host.Outcome State Fault Refusal := .next s

end Sys2Proof.Machine
end

