-- ==== Sys2Proof/Machine/Ops.lean ====
section
/-! DEFINITION. The named operations over the state that meanings share: the payload store, cue
records, lineups and blocks, the directory, lanes, notices, repair entries and rotations. -/

namespace Sys2Proof.Machine

/-! ### The payload store (R49) -/

/-- Read one byte of the store; an address not listed reads as `Config.unwrittenByte` (log entry 12). -/
def memRead : List Host.Cell → Nat → Byte
  | [], _ => Config.unwrittenByte
  | (a, b) :: m, k => if a = k then b else memRead m k

/-- Write one byte, keeping addresses rising and no entry equal to what an unlisted address reads as. -/
def memWrite : List Host.Cell → Nat → Byte → List Host.Cell
  | [], k, v => if v = Config.unwrittenByte then [] else [(k, v)]
  | (a, b) :: m, k, v =>
    if k < a then (if v = Config.unwrittenByte then (a, b) :: m else (k, v) :: (a, b) :: m)
    else if k = a then (if v = Config.unwrittenByte then m else (a, v) :: m)
    else (a, b) :: memWrite m k v

/-- The canonical form of the store: addresses strictly rising, no entry equal to an unwritten byte. -/
def Memory.wf : List Host.Cell → Bool
  | [] => true
  | [(_, b)] => b != Config.unwrittenByte
  | (a, b) :: (a', b') :: m => b != Config.unwrittenByte && a < a' && Memory.wf ((a', b') :: m)

/-- The address of payload byte k of a cue that holds these blocks: byte k mod 256 of the
floor(k / 256)-th block of the list (R49). -/
def payloadAddr (blocks : List Nat) (k : Nat) : Option Nat :=
  (blocks[k / Config.blockBytes]?).map fun b => b * Config.blockBytes + k % Config.blockBytes

/-- Write bytes to payload bytes k onward (R49). -/
def writePayload (blocks : List Nat) : Nat → List Byte → List Host.Cell → List Host.Cell
  | _, [], m => m
  | k, v :: vs, m =>
    writePayload blocks (k + 1) vs
      (match payloadAddr blocks k with
       | some a => memWrite m a v
       | none => m)

/-- One payload byte (R49). -/
def payloadByte (blocks : List Nat) (m : List Host.Cell) (k : Nat) : Byte :=
  match payloadAddr blocks k with
  | some a => memRead m a
  | none => Config.unwrittenByte

/-- `n` payload bytes from byte k on (R49). -/
def readPayload (blocks : List Nat) (m : List Host.Cell) (k : Nat) : Nat → List Byte
  | 0 => []
  | n + 1 => payloadByte blocks m k :: readPayload blocks m (k + 1) n

/-- How many blocks a declared length needs: ceil(length / 256) (R46). -/
def blocksFor (declared : Nat) : Nat := (declared + (Config.blockBytes - 1)) / Config.blockBytes

/-! ### Directory, Timelines, Sync Line Inputs -/

/-- The open show of an auditorium, if it is OPEN (R1). -/
def State.theShow? (s : State) (a : Aud) : Option Show := s.directory.get a

/-- Whether an auditorium is OPEN. -/
def State.isOpen (s : State) (a : Aud) : Bool := (s.theShow? a).isSome

/-- The lane of an open auditorium (R10). -/
def State.laneOf? (s : State) (a : Aud) : Option LaneId := (s.theShow? a).map Show.lane

/-- Whether an auditorium is OPEN on a lane. -/
def State.openOn (s : State) (a : Aud) (l : LaneId) : Bool := s.laneOf? a == some l

/-- A track record of an open auditorium. -/
def State.track? (s : State) (a : Aud) (t : Track) : Option TrackRec :=
  (s.theShow? a).bind fun w => w.tracks[t.val]?

/-- A track's listener count; 0 where there is no such track. -/
def State.listeners (s : State) (a : Aud) (t : Track) : Nat :=
  match s.track? a t with
  | some r => r.listeners
  | none => 0

/-- Change one track record. -/
def State.modTrack (s : State) (a : Aud) (t : Track) (f : TrackRec → TrackRec) : State :=
  match s.theShow? a with
  | some w =>
    { s with directory := vput s.directory a (some { w with tracks := w.tracks.modify t.val f }) }
  | none => s

/-- Change an open auditorium's cue count (R12). -/
def State.modCueCount (s : State) (a : Aud) (f : Nat → Nat) : State :=
  match s.theShow? a with
  | some w => { s with directory := vput s.directory a (some { w with cueCount := f w.cueCount }) }
  | none => s

/-- An auditorium's Timeline. -/
def State.timeline (s : State) (a : Aud) : Timeline := s.timelines.get a

/-- Replace an auditorium's Timeline. -/
def State.withTimeline (s : State) (a : Aud) (x : Timeline) : State :=
  { s with timelines := vput s.timelines a x }

/-- An auditorium's Sync Line Input. -/
def State.syncIn (s : State) (a : Aud) : SyncInput := s.sync.get a

/-- Replace an auditorium's Sync Line Input. -/
def State.withSync (s : State) (a : Aud) (x : SyncInput) : State :=
  { s with sync := vput s.sync a x }

/-- The auditoriums in ascending order. -/
def allAuds : List Aud := List.finRange 24

/-- The tracks in ascending order. -/
def allTracks : List Track := List.finRange 4

/-- Judge TL_COAST and TL_LOST after a transition of an auditorium's Timeline (R42). -/
def State.judgeTimelines (s : State) (a : Aud) : State :=
  let inState (st : TLState) := allAuds.any fun x => s.isOpen x && (s.timeline x).state == st
  (s.judge .tlCoast (inState .coasting) (.aud a)).judge .tlLost (inState .lost) (.aud a)

/-! ### Lanes -/

/-- A lane's record. -/
def State.lane (s : State) (l : LaneId) : Lane := s.lanes.get l

/-- Replace a lane's record. -/
def State.withLane (s : State) (l : LaneId) (x : Lane) : State := { s with lanes := s.lanes.put l x }

/-- Judge LANE_FAULT, recording the lane whose transition it is (R91). -/
def State.judgeLaneFault (s : State) (l : LaneId) : State :=
  s.judge .laneFault ((s.lane .A).state == .fault || (s.lane .B).state == .fault) (.lane l)

/-- Change the build in progress on a lane, if there is one. -/
def Lane.modBuild (x : Lane) (f : Build → Build) : Lane := { x with build := x.build.map f }

/-! ### Notice Lists (R108, R109) -/

/-- Add a notice to a lane's list (R108): an equal notice has its airings renewed in place; a full list
of other notices drops it and latches NOTICE_DROPPED; otherwise it is appended at the tail. -/
def State.addNotice (s : State) (l : LaneId) (item : NoticeItem) : State × NoticeOutcome :=
  let x := s.lane l
  if x.notices.any (fun n => n.item == item) then
    (s.withLane l { x with
      notices := x.notices.map fun n =>
        if n.item == item then { n with left := s.setting .noticeRepeat } else n }, .placed)
  else if Config.noticeSlots ≤ x.notices.length then
    (s.latch .noticeDropped (.lane l), .dropped)
  else
    (s.withLane l { x with notices := x.notices ++ [⟨item, s.setting .noticeRepeat⟩] }, .placed)

/-- Step 2 of a build keeps its place when notices before it are removed (R109). -/
def Build.dropNotices (notices : List Notice) (p : Notice → Bool) (b : Build) : Build :=
  match b.stage with
  | .notices passed placed =>
    { b with stage := .notices ((notices.take passed).filter (fun n => !p n)).length placed }
  | _ => b

/-- Remove the notices that `p` names from a lane's list; the others keep their order (R109). -/
def Lane.removeNotices (x : Lane) (p : Notice → Bool) : Lane :=
  { x.modBuild (Build.dropNotices x.notices p) with notices := x.notices.filter fun n => !p n }

/-! ### Repair Queues (R120, R130, R131) -/

/-- Step 7 of a build keeps its place when entries before it are removed (R133). -/
def Build.dropRepairs (repairs : List Repair) (p : Repair → Bool) (b : Build) : Build :=
  match b.stage with
  | .repairs passed room =>
    { b with stage := .repairs ((repairs.take passed).filter (fun e => !p e)).length room }
  | _ => b

/-- Remove the entries that `p` names from a lane's queue; the others keep their order (R120). -/
def Lane.removeRepairs (x : Lane) (p : Repair → Bool) : Lane :=
  { x.modBuild (Build.dropRepairs x.repairs p) with repairs := x.repairs.filter fun e => !p e }

/-- Whether an entry names a cue. -/
def Repair.names (e : Repair) (a : Aud) (t : Track) (num : Nat) : Bool :=
  e.aud == a && e.track == t && e.num == num

/-- Tell the Repair Queue of the auditorium's lane to remove every entry for a cue (R130). -/
def State.removeRepairsOf (s : State) (a : Aud) (t : Track) (num : Nat) : State :=
  match s.laneOf? a with
  | some l => s.withLane l ((s.lane l).removeRepairs fun e => e.names a t num)
  | none => s

/-- An entry turned into a GONE entry (R132). -/
def Repair.turnGone (e : Repair) : Repair :=
  { e with kind := .gone, state := .waiting, off := 0, hold := 0 }

/-- Tell the Repair Queue of the auditorium's lane that a cue has been withdrawn or retired: the entry
for it becomes a GONE entry in its place (R132). -/
def State.turnRepairsGone (s : State) (a : Aud) (t : Track) (num : Nat) : State :=
  match s.laneOf? a with
  | some l =>
    let x := s.lane l
    s.withLane l
      { x with repairs := x.repairs.map fun e => if e.names a t num then e.turnGone else e }
  | none => s

/-! ### Cue records, lineups and blocks (R45 to R51) -/

/-- The cue a track reference and cue number name. -/
def State.findCue (s : State) (a : Aud) (t : Track) (num : Nat) : Option Cue :=
  s.table.cues.find? fun c => c.aud == a && c.track == t && c.num == num

/-- The cue in a slot. -/
def State.cueAt (s : State) (slot : Nat) : Option Cue := s.table.cues.find? fun c => c.slot == slot

/-- Write a cue record back into its slot. -/
def State.putCue (s : State) (c : Cue) : State :=
  { s with
    table := { s.table with cues := s.table.cues.map fun x => if x.slot == c.slot then c else x } }

/-- Insert a record in slot order. -/
def insertCue (c : Cue) : List Cue → List Cue
  | [] => [c]
  | x :: xs => if c.slot < x.slot then c :: x :: xs else x :: insertCue c xs

/-- The lowest-numbered free slot (R45). -/
def State.lowestFreeSlot (s : State) : Option Nat :=
  (List.range Config.cueSlots).find? fun n => !(s.table.cues.any fun c => c.slot == n)

/-- Judge POOL_LOW after a change of the free-block count or of POOL_LOW_MARK (R51). -/
def State.judgePool (s : State) (who : CondRec) : State :=
  s.judge .poolLow (decide (s.table.free.length < s.setting .poolLowMark)) who

/-- The (in-point, cue number) by which a lineup is ordered (R48). -/
def State.lineupKey (s : State) (slot : Nat) : Nat × Nat :=
  match s.cueAt slot with
  | some c => (c.inP, c.num)
  | none => (0, 0)

/-- Whether a key comes before another: in-point first, then cue number. -/
def keyLt (k1 k2 : Nat × Nat) : Bool := decide (k1.1 < k2.1 ∨ (k1.1 = k2.1 ∧ k1.2 < k2.2))

/-- Insert a slot immediately before the first entry whose key is greater, or at the tail (R48). -/
def insertLineup (keyOf : Nat → Nat × Nat) (k : Nat × Nat) (slot : Nat) : List Nat → List Nat
  | [] => [slot]
  | x :: xs => if keyLt k (keyOf x) then slot :: x :: xs else x :: insertLineup keyOf k slot xs

/-- Insert a cue's slot into its track's lineup (R48). -/
def State.addToLineup (s : State) (c : Cue) : State :=
  s.modTrack c.aud c.track fun r =>
    { r with lineup := insertLineup s.lineupKey (c.inP, c.num) c.slot r.lineup }

/-- Remove a cue's slot from its track's lineup (R48). -/
def State.dropFromLineup (s : State) (c : Cue) : State :=
  s.modTrack c.aud c.track fun r => { r with lineup := r.lineup.filter fun x => x != c.slot }

/-- A track's lineup. -/
def State.lineup (s : State) (a : Aud) (t : Track) : List Nat :=
  match s.track? a t with
  | some r => r.lineup
  | none => []

/-- The lineup index of a cue (R48). -/
def State.lineupIndex (s : State) (c : Cue) : Nat := (s.lineup c.aud c.track).idxOf c.slot

/-- A build forgets a cue that has been freed: it is not walked, and an offer made for it lapses
(R69). -/
def Build.forgetSlot (slot : Nat) (b : Build) : Build :=
  match b.stage with
  | .walk work slots offers =>
    { b with stage := .walk work (slots.filter (· != slot)) (offers.filter (·.slot != slot)) }
  | .reserve offers => { b with stage := .reserve (offers.filter (·.slot != slot)) }
  | .content offers al kept =>
    { b with stage := .content (offers.filter (·.slot != slot)) al kept }
  | _ => b

/-- A build walks and places no further cue of an auditorium that has jumped (R88) or been closed (R14):
its tracks and cues are not walked, its offers lapse. -/
def Build.forgetAud (slotAud : Nat → Option Aud) (a : Aud) (b : Build) : Build :=
  let keepOffers (os : List Offer) := os.filter fun o => o.aud != a
  match b.stage with
  | .walk work slots offers =>
    { b with
      stage :=
        .walk (work.filter fun w => w.1 != a) (slots.filter fun k => slotAud k != some a)
          (keepOffers offers) }
  | .reserve offers => { b with stage := .reserve (keepOffers offers) }
  | .content offers al kept => { b with stage := .content (keepOffers offers) al kept }
  | _ => b

/-- Free a cue record: its slot leaves the lineup, its blocks join the tail of the free-block list, the
slot is free, the cue count falls by 1, POOL_LOW is judged (R12, R45, R50, R51). -/
def State.freeCue (s : State) (c : Cue) : State :=
  let s := s.dropFromLineup c
  let s := { s with
    table := { s.table with
      cues := s.table.cues.filter fun x => x.slot != c.slot
      free := s.table.free ++ c.blocks } }
  let s := s.modCueCount c.aud (· - 1)
  let s := match s.laneOf? c.aud with
    | some l => s.withLane l ((s.lane l).modBuild (Build.forgetSlot c.slot))
    | none => s
  s.judgePool (.aud c.aud)

/-- Retire a cue: it is freed, and its repair entry becomes GONE (R66). -/
def State.retire (s : State) (c : Cue) : State :=
  (s.freeCue c).turnRepairsGone c.aud c.track c.num

/-- The slots of an auditorium's cues, track by track from track 0, in lineup order (R13, R67). -/
def State.slotsOf (s : State) (a : Aud) : List Nat := allTracks.flatMap fun t => s.lineup a t

/-- Do something with each listed cue that is still in the table. -/
def State.forCues (f : Cue → State → State) : List Nat → State → State
  | [], s => s
  | k :: ks, s =>
    State.forCues f ks
      (match s.cueAt k with
       | some c => f c s
       | none => s)

/-! ### Announcement Rotations (R151) -/

/-- Append a record to a lane's rotation; one that is already there moves to the tail (R151). -/
def State.rotAppend (s : State) (l : LaneId) (i : RxIdx) : State :=
  let x := s.lane l
  s.withLane l { x with rotation := x.rotation.filter (· != i) ++ [i] }

/-- Remove a record from a lane's rotation (R151). -/
def State.rotRemove (s : State) (l : LaneId) (i : RxIdx) : State :=
  let x := s.lane l
  s.withLane l { x with rotation := x.rotation.filter (· != i) }

/-- Whether a lane's rotation holds a record. -/
def State.inRotation (s : State) (l : LaneId) (i : RxIdx) : Bool := (s.lane l).rotation.contains i

end Sys2Proof.Machine
end

