-- ==== Sys2Proof/Machine/Projection.lean ====
section
/-! DEFINITION. What a Timeline answers when another block asks for a position (R24, R25, R44), and
the clamping of a rate (R26). -/

namespace Sys2Proof.Machine

/-- A sum of positions brought into 0 to 16,777,215 (R25, step 5). -/
def saturate (x : Int) : Nat := if x < 0 then 0 else min x.toNat Config.maxPosition

/-- The projection from an anchor at a rate: d times R, divided by 65,536 and rounded toward minus
infinity, added to P0 and saturated (R25). -/
def projectFrom (a : Anchor) (rate : Nat) (t : SiteTime) : Nat :=
  saturate ((a.pos : Int) + (sdiff t a.time * (rate : Int)) / 65536)

/-- P(t), where the state gives one (R24, R25). -/
def Timeline.project (x : Timeline) (t : SiteTime) : Option Nat :=
  match x.state with
  | .running | .coasting => x.anchor.map fun a => projectFrom a x.rate t
  | .held => x.frozen
  | .inactive | .acquiring | .stopped | .lost => none

/-- The reading of an auditorium's Timeline that a build or a boundary makes for air instant `air`
(R44, R70, R102). -/
def State.reading (s : State) (a : Aud) (air : SiteTime) : Reading :=
  let x := s.timeline a
  { state := x.state, epoch := x.epoch, rate := x.rate, gated := x.gated, pos := x.project air }

/-- The lowest and the highest rate (R26). -/
def rateMin : Nat := 57344
def rateMax : Nat := 73728

/-- A carried rate, clamped (R26). -/
def clampRate (r : Nat) : Nat := if r < rateMin then rateMin else if rateMax < r then rateMax else r

/-- Whether a carried rate was out of range, which sets the response's clamped flag (R26). -/
def rateClamped : Option Nat → Bool
  | some r => clampRate r != r
  | none => false

end Sys2Proof.Machine
end

