-- ==== Sys2Proof/Machine/Airing.lean ====
section
/-! DEFINITION. Airing cues (chapter 4): the phase pass, the launch test, the offers, lateness, jumps,
and the re-wait of a track's cues when its listener count rises from 0 (R68). -/

namespace Sys2Proof.Machine

/-! ### Counted events -/

/-- A cue is late-dropped: counted, CUE_LATE latched (R72, R73, R76). -/
def State.lateDrop (s : State) (a : Aud) : State :=
  (s.countAud a .lateDropped).latch .cueLate (.aud a)

/-- The retire mark: out-point plus RETAIN_MS, at most 16,777,215 (R71). -/
def retireMark (s : State) (c : Cue) : Nat :=
  min (c.outP + s.setting .retainMs) Config.maxPosition

/-! ### The phase pass (R71 to R73) -/

/-- A cue enters SHOWING (R72). -/
def enterShowing (s : State) (c : Cue) : State :=
  let owed :=
    c.kind == .caption && s.setting .captionRepeat == 1 && c.delivery == .sent
      && decide (0 < s.listeners c.aud c.track)
  s.putCue { c with phase := .showing, repeatDue := c.repeatDue || owed }

/-- A cue enters RETAINED (R72). -/
def enterRetained (s : State) (c : Cue) : State :=
  let c' := { c with phase := .retained, repeatDue := false }
  if c.delivery = .sending then
    match c.kind with
    | .clip =>
      ((s.putCue { c' with delivery := .sent, relaunch := false, underrun := true }).countAud c.aud
        .underruns).latch .clipUnderrun (.aud c.aud)
    | .caption => (s.putCue { c' with delivery := .sent, relaunch := false }).lateDrop c.aud
  else s.putCue c'

/-- A phase pass retires a cue, counting it late-dropped if it was never launched while its track had
listeners (R73, R66). DESIGN CHOICE (log entry 31): a cue that is SENDING at its retire mark, because R76
launched it while RETAINED, is retired and counted nowhere. -/
def retireByPass (s : State) (c : Cue) : State :=
  let s := if c.delivery = .waiting ∧ 0 < s.listeners c.aud c.track then s.lateDrop c.aud else s
  s.retire c

/-- One row of the phase pass: if the cue is in the table and the row applies, do what it says. -/
def passRow (slot : Nat) (applies : State → Cue → Bool) (act : State → Cue → State) (s : State) :
    State :=
  match s.cueAt slot with
  | some c => if applies s c then act s c else s
  | none => s

/-- The phase pass of one cue at position p. Phases move forward only, so making the three rows in
turn is applying the table until no row applies (R71). -/
def phasePass (p slot : Nat) (s : State) : State :=
  let s := passRow slot (fun _ c => c.phase == .ahead && decide (c.inP ≤ p)) enterShowing s
  let s := passRow slot (fun _ c => c.phase == .showing && decide (c.outP ≤ p)) enterRetained s
  passRow slot (fun s c => c.phase == .retained && decide (retireMark s c ≤ p)) retireByPass s

/-- The phase pass of R87 at a boundary of a lane that is not RUNNING: every cue of every auditorium
open on the lane whose Timeline gives a position, track by track, in lineup order. DESIGN CHOICE (log
entry 32): the auditoriums are taken in ascending order, as R70 takes them in a build. -/
def stoppedPass (l : LaneId) (air : SiteTime) (s : State) : State :=
  allAuds.foldl
    (fun s a =>
      if s.openOn a l then
        match (s.reading a air).pos with
        | some p => allTracks.foldl (fun s t => (s.lineup a t).foldl (fun s k => phasePass p k s) s) s
        | none => s
      else s)
    s

/-! ### Lead and the launch test (R74 to R76) -/

/-- Ceiling of a quotient. -/
def ceilDiv (n d : Nat) : Nat := (n + (d - 1)) / d

/-- The lead of a cue in milliseconds (R74). -/
def leadMs (s : State) (c : Cue) : Nat :=
  match c.kind with
  | .caption => s.setting .captionLead
  | .clip => min (s.setting .descLeadBase + 20 * ceilDiv c.declared (s.setting .segmentMax)) 10000

/-- The lead of a cue in positions (R74). -/
def leadPos (s : State) (rate : Nat) (c : Cue) : Nat := leadMs s c * rate / 65536

/-- Whether a cue is due at a build that read position p and this rate (R75). -/
def isDue (s : State) (rate p : Nat) (c : Cue) : Bool :=
  c.delivery == .waiting && decide (c.inP ≤ p + leadPos s rate c)

/-- The launch test of a cue, by the first row of R76's table that applies. -/
def launchTest (rate p : Nat) (s : State) (c : Cue) : State :=
  if isDue s rate p c then
    if s.listeners c.aud c.track = 0 then
      s.putCue { c with delivery := .sent, relaunch := false }
    else if c.outP ≤ p then
      (s.putCue { c with delivery := .sent, relaunch := false }).lateDrop c.aud
    else if c.kind = .caption ∧ c.fill < c.declared then s
    else s.putCue { c with delivery := .sending, off := 0 }
  else s

/-- Whether a cue qualifies for an offer of this kind (R77, R80). -/
def qualifies (k : OfferKind) (c : Cue) : Bool :=
  match k with
  | .caption => c.kind == .caption && c.delivery == .sending
  | .continuing | .firstSegment =>
    c.kind == .clip && c.delivery == .sending && decide (c.off < c.fill)
  | .captionRepeat => c.kind == .caption && c.phase == .showing && c.repeatDue

/-- The offer a cue makes, `wasSending` telling a clip that was SENDING before the launch test from
one launched by it (R77). -/
def offerOf (wasSending : Bool) (c : Cue) : Option Offer :=
  let mk (k : OfferKind) : Option Offer :=
    if qualifies k c then some ⟨k, c.slot, c.inP, c.aud, c.track, c.num⟩ else none
  match c.kind with
  | .clip => mk (if wasSending then .continuing else .firstSegment)
  | .caption => (mk .caption).orElse fun _ => mk .captionRepeat

/-- The walk reaches one cue: phase pass, then the launch test if it is still in the table, then its
offer (R70). -/
def walkCue (r : Reading) (p slot : Nat) (s : State) : State × Option Offer :=
  let s := phasePass p slot s
  match s.cueAt slot with
  | none => (s, none)
  | some c =>
    let s' := launchTest r.rate p s c
    (s', (s'.cueAt slot).bind (offerOf (c.delivery == .sending)))

/-! ### Placements (R78 to R82) -/

/-- Judge lateness at a placement: late when P(A) ≥ in-point, unless the relaunch flag exempts it. The
answer carries the state and the cue with its late flag (R82). -/
def judgeLate (p : Nat) (s : State) (c : Cue) : State × Cue :=
  if c.inP ≤ p ∧ c.relaunch = false then
    ((s.countAud c.aud .late).latch .cueLate (.aud c.aud), { c with late := true })
  else (s, c)

/-- An air count after one more airing, at most 255 (R47). -/
def bumpAir (n : Nat) : Nat := if n < 255 then n + 1 else n

/-- An airing of a cue is complete (R78, R81): SENT, air count up, relaunch flag clear, and the track's
last completed cue number set. -/
def completeAiring (s : State) (c : Cue) : State :=
  (s.putCue { c with delivery := .sent, air := bumpAir c.air, relaunch := false }).modTrack c.aud
    c.track fun r => { r with lastDone := some c.num }

/-- The common part of a section about a cue (R185). -/
def Cue.head (c : Cue) : CueHead :=
  { aud := c.aud, track := c.track, num := c.num, rev := c.rev, inP := c.inP, outP := c.outP,
    kind := c.kind, declared := c.declared }

/-- The attributes a caption holds when none were given (R46). -/
def defaultAttrs : Attrs := { row := 0, align := .centre, italic := false, speaker := false }

/-- A caption whose payload a placement has placed whole: its send offset counts those bytes, which stop at
the fill mark (R46, R65). A caption that is SENDING has its fill mark at the declared length (R76). -/
def Cue.captionPlaced (c : Cue) : Cue := { c with off := min c.declared c.fill }

/-- The first airing of a caption is placed (R78): its section, and the state after it, the send offset
raised by the bytes placed (R65). -/
def placeCaption (p : Nat) (s : State) (c : Cue) : State × Section :=
  let (s1, c1) := judgeLate p s c
  (completeAiring s1 c1.captionPlaced,
    .caption c.head false c1.late c.relaunch (c.attrs.getD defaultAttrs) (bumpAir c.air)
      (readPayload c.blocks s.table.payload 0 c.declared))

/-- A caption repeat is placed (R79). DEDUCED (log entry 37): it is the caption's present airing then, and
the send offset counts the bytes it placed, as at a first airing (R46). -/
def placeRepeat (s : State) (c : Cue) : State × Section :=
  (s.putCue { c.captionPlaced with repeatDue := false, air := bumpAir c.air },
    .caption c.head true c.late c.relaunch (c.attrs.getD defaultAttrs) (bumpAir c.air)
      (readPayload c.blocks s.table.payload 0 c.declared))

/-- A segment of `n` bytes is placed (R80, R81). -/
def placeSegment (p n : Nat) (s : State) (c : Cue) : State × Section :=
  let (s1, c1) := if c.off = 0 then judgeLate p s c else (s, c)
  let c2 := { c1 with off := c.off + n }
  (if c2.off = c.declared then completeAiring s1 c2 else s1.putCue c2,
    .segment c.head c1.late c.relaunch c.off (readPayload c.blocks s.table.payload c.off n))

/-! ### Jumps (R83, R84) -/

/-- What a jump to position p does to one cue: relaunched if its out-point lies ahead (R83), otherwise
put behind the film, retired when p is at its retire mark (R84). Nothing is counted. -/
def jumpCue (p : Nat) (c : Cue) (s : State) : State :=
  if p < c.outP then
    s.putCue { c with
      delivery := .waiting, off := 0, phase := .ahead, relaunch := true, late := false,
      underrun := false, repeatDue := false }
  else if retireMark s c ≤ p then s.retire c
  else if c.delivery = .sent then s.putCue { c with phase := .retained, repeatDue := false }
  else
    s.putCue { c with phase := .retained, repeatDue := false, delivery := .sent, relaunch := false }

/-- A jump reaches the Cue Table: every cue of the auditorium, track by track, in lineup order (R67). -/
def jumpCues (a : Aud) (p : Nat) (s : State) : State := State.forCues (jumpCue p) (s.slotsOf a) s

/-! ### The listener count rises from 0 (R68, R130) -/

/-- Whether a cue was passed over unattended and still has time (R68). -/
def isUnattended (c : Cue) : Bool := c.air == 0 && c.phase == .ahead && c.delivery == .sent

/-- One cue of the track is returned to WAITING, and the Repair Queue removes the CONTENT entries for
it (R68, R130). -/
def reWaitCue (c : Cue) (s : State) : State :=
  if isUnattended c then
    let s := s.putCue { c with delivery := .waiting, off := 0 }
    match s.laneOf? c.aud with
    | some l =>
      s.withLane l
        ((s.lane l).removeRepairs fun e => e.kind == .content && e.names c.aud c.track c.num)
    | none => s
  else s

/-- The Roster tells the Cue Table that a track's listener count has risen from 0 (R68, R138). -/
def reWait (a : Aud) (t : Track) (s : State) : State := State.forCues reWaitCue (s.lineup a t) s

end Sys2Proof.Machine
end

