-- ==== Sys2Proof/Machine/Operands.lean ====
section
/-! DEFINITION. The operand forms: request headers (R164, R182), request bodies (R183) and uplink
messages (R112, R113, R186). A body that fails its form check has no operands (none), which the
request answers with BAD_FORMAT. -/

namespace Sys2Proof.Machine

/-! ### Request headers (R164, R182) -/

/-- The rows of the table that are takings. -/
inductive ReqRow where
  | showOpen | showClose | showWindow | syncMode | timelineReport | cuePost | cueData | cueRevise
  | cueWithdraw | cueQueryByCue | cueQueryByTrack | rxIssue | rxMove | rxReturn | rxLookup | rxList
  | rxCounts | laneStart | laneStop | setSetting | getSetting | status | statusClear | statusForce
  | counters | identify | restart | badKind
deriving DecidableEq, Repr

/-- The row of a request kind (R182). A CUE_QUERY whose mode byte is 1 is the BY_TRACK row; any other
CUE_QUERY, one without a mode byte or with a mode of no code among them, is the BY_CUE row (log
entry 3). -/
def kindRow (kind : Nat) (mode : Option Byte) : ReqRow :=
  match kind with
  | 1 => .showOpen
  | 2 => .showClose
  | 3 => .showWindow
  | 4 => .syncMode
  | 5 => .timelineReport
  | 6 => .cuePost
  | 7 => .cueData
  | 8 => .cueRevise
  | 9 => .cueWithdraw
  | 10 => if mode = some 1 then .cueQueryByTrack else .cueQueryByCue
  | 11 => .rxIssue
  | 12 => .rxMove
  | 13 => .rxReturn
  | 14 => .rxLookup
  | 15 => .rxList
  | 16 => .rxCounts
  | 17 => .laneStart
  | 18 => .laneStop
  | 19 => .setSetting
  | 20 => .getSetting
  | 21 => .status
  | 22 => .statusClear
  | 23 => .statusForce
  | 24 => .counters
  | 25 => .identify
  | 26 => .restart
  | _ => .badKind

/-- The row of a message: a message shorter than its header, or of no request kind, is BAD_KIND's
(R164, checks 1 and 2). -/
def rowOf (m : Msg) : ReqRow :=
  if m.delivered < 4 then .badKind else kindRow (rd8 m.bytes 0) m.bytes[4]?

/-- The body length a message's header carries. -/
def Msg.bodyLength (m : Msg) : Nat := rd16 m.bytes 2

/-- Check 3 of R164: the body length is 1,020 or less, and exactly 4 + body length bytes were
delivered. -/
def Msg.lengthOk (m : Msg) : Bool := decide (m.bodyLength ≤ 1020) && m.delivered == 4 + m.bodyLength

/-- The body of a message. -/
def Msg.body (m : Msg) : List Byte := m.bytes.drop 4

/-! ### Request bodies (R183) -/

/-- One track of a SHOW_OPEN. -/
def trackAt? (b : List Byte) (k : Nat) : Option TrackRec :=
  let g : Lang := ⟨b.getD (4 + 8 * k) 0, b.getD (5 + 8 * k) 0, b.getD (6 + 8 * k) 0⟩
  match cueKind? (rd8 b (3 + 8 * k)) with
  | some kind =>
    if isLetter g.c0 && isLetter g.c1 && isLetter g.c2 then
      some { kind := kind, lang := g, base := rd16 b (7 + 8 * k), limit := rd16 b (9 + 8 * k),
             listeners := 0, lastDone := none, lineup := [] }
    else none
  | none => none

/-- Tracks k to k + n - 1 of a SHOW_OPEN. -/
def tracksFrom? (b : List Byte) (k : Nat) : Nat → Option (List TrackRec)
  | 0 => some []
  | n + 1 =>
    match trackAt? b k, tracksFrom? b (k + 1) n with
    | some t, some ts => some (t :: ts)
    | _, _ => none

/-- SHOW_OPEN's operands (R4, check 1). -/
structure ShowOpenReq where
  aud : Aud
  lane : LaneId
  tracks : List TrackRec
  rate : Option Nat
deriving DecidableEq, Repr

def showOpen? (b : List Byte) : Option ShowOpenReq :=
  let n := rd8 b 2
  if 1 ≤ n ∧ n ≤ 4 ∧ (b.length = 3 + 8 * n ∨ b.length = 7 + 8 * n) then
    match aud? (rd8 b 0), lane? (rd8 b 1), tracksFrom? b 0 n with
    | some a, some l, some ts =>
      some ⟨a, l, ts, if b.length = 7 + 8 * n then some (rd32 b (3 + 8 * n)) else none⟩
    | _, _, _ => none
  else none

/-- SHOW_CLOSE's operand (R13). -/
def showClose? (b : List Byte) : Option Aud := if b.length = 1 then aud? (rd8 b 0) else none

/-- SHOW_WINDOW's operands (R11): auditorium, track, base, limit. -/
structure ShowWindowReq where
  aud : Aud
  track : Track
  base : Nat
  limit : Nat
deriving DecidableEq, Repr

def showWindow? (b : List Byte) : Option ShowWindowReq :=
  if b.length = 6 then
    match aud? (rd8 b 0), track? (rd8 b 1) with
    | some a, some t => some ⟨a, t, rd16 b 2, rd16 b 4⟩
    | _, _ => none
  else none

/-- SYNC_MODE's operands (R22). -/
def syncMode? (b : List Byte) : Option (Aud × Sens) :=
  if b.length = 2 then
    match aud? (rd8 b 0), sens? (rd8 b 1) with
    | some a, some m => some (a, m)
    | _, _ => none
  else none

/-- TIMELINE_REPORT's operands (R27). -/
structure ReportReq where
  aud : Aud
  kind : ReportKind
  pos : Nat
  rate : Option Nat
deriving DecidableEq, Repr

def timelineReport? (b : List Byte) : Option ReportReq :=
  if b.length = 6 ∨ b.length = 10 then
    match aud? (rd8 b 0), reportKind? (rd8 b 1) with
    | some a, some k =>
      if rd32 b 2 ≤ Config.maxPosition then
        some ⟨a, k, rd32 b 2, if b.length = 10 then some (rd32 b 6) else none⟩
      else none
    | _, _ => none
  else none

/-- What CUE_POST and CUE_REVISE have in common: the new points, length, attributes and inline
bytes. -/
structure CueBody where
  inP : Nat
  outP : Nat
  declared : Nat
  attrs : Option Attrs
  inline : List Byte
deriving DecidableEq, Repr

/-- The common fields, `o` bytes after the start of the body, the presence byte first (R53, R58,
check 1). -/
def cueBody? (b : List Byte) (o : Nat) : Option CueBody :=
  let inP := rd32 b (o + 2)
  let outP := rd32 b (o + 6)
  let inline := b.drop (o + 12)
  if o + 12 ≤ b.length ∧ inP ≤ Config.maxPosition ∧ outP ≤ Config.maxPosition
      ∧ inline.length ≤ Config.maxInline then
    match rd8 b o with
    | 0 => some ⟨inP, outP, rd16 b (o + 10), none, inline⟩
    | 1 => (attrs? (rd8 b (o + 1))).map fun x => ⟨inP, outP, rd16 b (o + 10), some x, inline⟩
    | _ => none
  else none

/-- CUE_POST's operands (R53). -/
structure CuePostReq where
  aud : Aud
  track : Track
  num : Nat
  kind : CueKind
  body : CueBody
deriving DecidableEq, Repr

def cuePost? (b : List Byte) : Option CuePostReq :=
  match aud? (rd8 b 0), track? (rd8 b 1), cueKind? (rd8 b 4), cueBody? b 5 with
  | some a, some t, some k, some x => some ⟨a, t, rd16 b 2, k, x⟩
  | _, _, _, _ => none

/-- CUE_REVISE's operands (R58). -/
structure CueReviseReq where
  aud : Aud
  track : Track
  num : Nat
  body : CueBody
deriving DecidableEq, Repr

def cueRevise? (b : List Byte) : Option CueReviseReq :=
  match aud? (rd8 b 0), track? (rd8 b 1), cueBody? b 4 with
  | some a, some t, some x => some ⟨a, t, rd16 b 2, x⟩
  | _, _, _ => none

/-- CUE_DATA's operands (R56). -/
structure CueDataReq where
  aud : Aud
  track : Track
  num : Nat
  offset : Nat
  data : List Byte
deriving DecidableEq, Repr

def cueData? (b : List Byte) : Option CueDataReq :=
  if 7 ≤ b.length ∧ b.length ≤ 1020 ∧ rd16 b 4 ≤ 16384 then
    match aud? (rd8 b 0), track? (rd8 b 1) with
    | some a, some t => some ⟨a, t, rd16 b 2, rd16 b 4, b.drop 6⟩
    | _, _ => none
  else none

/-- A track reference and cue number, `o` bytes after the start of a body. -/
structure CueRef where
  aud : Aud
  track : Track
  num : Nat
deriving DecidableEq, Repr

def cueRef? (b : List Byte) (o : Nat) : Option CueRef :=
  match aud? (rd8 b o), track? (rd8 b (o + 1)) with
  | some a, some t => some ⟨a, t, rd16 b (o + 2)⟩
  | _, _ => none

/-- CUE_WITHDRAW's operands (R61). -/
def cueWithdraw? (b : List Byte) : Option CueRef := if b.length = 4 then cueRef? b 0 else none

/-- CUE_QUERY's operands in mode BY_CUE (R63). -/
def cueQueryByCue? (b : List Byte) : Option CueRef :=
  if b.length = 5 ∧ rd8 b 0 = 0 then cueRef? b 1 else none

/-- CUE_QUERY's operands in mode BY_TRACK (R64). -/
def cueQueryByTrack? (b : List Byte) : Option (Aud × Track) :=
  if b.length = 3 ∧ rd8 b 0 = 1 then
    match aud? (rd8 b 1), track? (rd8 b 2) with
    | some a, some t => some (a, t)
    | _, _ => none
  else none

/-- A seat label: the bytes after offset 5; none given when there are none (R183). -/
def seat? (b : List Byte) : Option (List Byte) :=
  let cs := b.drop 6
  if 6 ≤ b.length ∧ b.length ≤ 12 ∧ cs.all isSeatChar then some cs else none

/-- RX_ISSUE's operands (R139). -/
structure RxIssueReq where
  serial : Nat
  kind : RxKind
  aud : Aud
  track : Track
  seat : List Byte
deriving DecidableEq, Repr

def rxIssue? (b : List Byte) : Option RxIssueReq :=
  match rxKind? (rd8 b 3), aud? (rd8 b 4), track? (rd8 b 5), seat? b with
  | some k, some a, some t, some cs =>
    if 1 ≤ rd24 b 0 then some ⟨rd24 b 0, k, a, t, cs⟩ else none
  | _, _, _, _ => none

/-- How a request names a record (R141, R183). -/
inductive RxSel where
  | index (i : RxIdx)
  | serial (n : Nat)
deriving DecidableEq, Repr

def rxSel? (b : List Byte) : Option RxSel :=
  match rd8 b 0 with
  | 0 => (rxIdx? (rd24 b 1)).map .index
  | 1 => if 1 ≤ rd24 b 1 then some (.serial (rd24 b 1)) else none
  | _ => none

/-- RX_MOVE's operands (R141). -/
structure RxMoveReq where
  sel : RxSel
  aud : Aud
  track : Track
  seat : List Byte
deriving DecidableEq, Repr

def rxMove? (b : List Byte) : Option RxMoveReq :=
  match rxSel? b, aud? (rd8 b 4), track? (rd8 b 5), seat? b with
  | some r, some a, some t, some cs => some ⟨r, a, t, cs⟩
  | _, _, _, _ => none

/-- RX_RETURN's and RX_LOOKUP's operand (R144, R154). -/
def rxNamed? (b : List Byte) : Option RxSel := if b.length = 4 then rxSel? b else none

/-- The state filter of an RX_LIST: ANY, FREE, or a state of a record in use (R155). -/
inductive StateFilter where
  | any | free | inUse (st : RxState)
deriving DecidableEq, Repr

def stateFilter? : Nat → Option StateFilter
  | 0 => some .free
  | 1 => some (.inUse .issued)
  | 2 => some (.inUse .joined)
  | 3 => some (.inUse .silent)
  | 4 => some (.inUse .lost)
  | 5 => some (.inUse .moving)
  | 255 => some .any
  | _ => none

/-- RX_LIST's operands (R155); no auditorium is the filter ANY. -/
structure RxListReq where
  state : StateFilter
  aud : Option Aud
  start : Nat
deriving DecidableEq, Repr

def rxList? (b : List Byte) : Option RxListReq :=
  if b.length = 4 ∧ rd16 b 2 ≤ 511 then
    match stateFilter? (rd8 b 0) with
    | some f =>
      if rd8 b 1 = 255 then some ⟨f, none, rd16 b 2⟩
      else (aud? (rd8 b 1)).map fun a => ⟨f, some a, rd16 b 2⟩
    | none => none
  else none

/-- The operand of LANE_START and LANE_STOP (R92, R93). -/
def laneOnly? (b : List Byte) : Option LaneId := if b.length = 1 then lane? (rd8 b 0) else none

/-- SET's operands (R167). -/
def set? (b : List Byte) : Option (Setting × Nat) :=
  if b.length = 5 then (setting? (rd8 b 0)).map fun k => (k, rd32 b 1) else none

/-- GET's operand (R168); no setting is ALL. -/
def get? (b : List Byte) : Option (Option Setting) :=
  if b.length = 1 then
    if rd8 b 0 = 0 then some none else (setting? (rd8 b 0)).map some
  else none

/-- STATUS_CLEAR's operands (R178): the clear set, and whether the counters are zeroed. -/
def statusClear? (b : List Byte) : Option (Nat × Bool) :=
  if b.length = 5 then
    match rd8 b 4 with
    | 0 => some (rd32 b 0, false)
    | 1 => some (rd32 b 0, true)
    | _ => none
  else none

/-- An action on a forced flag (R179). -/
inductive Force where
  | keep | set | clear
deriving DecidableEq, Repr

def force? : Nat → Option Force
  | 0 => some .keep
  | 1 => some .set
  | 2 => some .clear
  | _ => none

/-- STATUS_FORCE's operands (R179). -/
def statusForce? (b : List Byte) : Option (Force × Force) :=
  if b.length = 2 then
    match force? (rd8 b 0), force? (rd8 b 1) with
    | some f, some n => some (f, n)
    | _, _ => none
  else none

/-- The form of a request that carries no body. -/
def noBody? (b : List Byte) : Option Unit := if b.length = 0 then some () else none

/-! ### Uplink messages (R112, R113, R186) -/

/-- A CHECKIN that passed the form test. -/
structure CheckinMsg where
  addr : RxIdx
  check : Byte
  aud : Aud
  track : Track
  epoch : Byte
  lastCue : Nat
  battery : Nat
  link : Nat
deriving DecidableEq, Repr

/-- An ASK that passed the form test. -/
structure AskMsg where
  addr : RxIdx
  check : Byte
  aud : Aud
  track : Track
  epoch : Byte
  num : Nat
deriving DecidableEq, Repr

/-- A message that is a CHECKIN in form (R113, R186). -/
def checkin? (m : List Byte) : Option CheckinMsg :=
  if m.length = 16 ∧ rd8 m 0 = 0x21 ∧ rd8 m 9 ≤ 3 ∧ rd8 m 10 ≤ 3 then
    match rxIdx? (rd16 m 1), aud? (rd8 m 4), track? (rd8 m 5) with
    | some i, some a, some t =>
      some ⟨i, m.getD 3 0, a, t, m.getD 6 0, rd16 m 7, rd8 m 9, rd8 m 10⟩
    | _, _, _ => none
  else none

/-- A message that is an ASK in form (R113, R186). -/
def ask? (m : List Byte) : Option AskMsg :=
  if m.length = 16 ∧ rd8 m 0 = 0x22 then
    match rxIdx? (rd16 m 1), aud? (rd8 m 4), track? (rd8 m 5) with
    | some i, some a, some t => some ⟨i, m.getD 3 0, a, t, m.getD 6 0, rd16 m 7⟩
    | _, _, _ => none
  else none

/-- Whether a delivered message is purged: its verdict is BAD, or it is neither a CHECKIN nor an ASK
in form (R112). -/
def isPurged (good : Bool) (m : List Byte) : Bool :=
  !good || ((checkin? m).isNone && (ask? m).isNone)

/-! ### Link operations (R182) -/

/-- The operations of a transaction (R157). -/
inductive LinkOp where
  | writeMsg | readMsg | readState
deriving DecidableEq, Repr

/-- The operation that an operation byte names (R182); any other value makes the transaction void. -/
def operation? (op : Byte) : Option LinkOp :=
  if op = 0x10 then some .writeMsg
  else if op = 0x20 then some .readMsg
  else if op = 0x30 then some .readState
  else none

/-- The command that an operation byte is, `n` whole bytes following it in its transaction (R157,
R182). -/
def linkCommand (op : Byte) (n : Nat) : Instr :=
  match operation? op with
  | some .writeMsg => .writeMsg
  | some .readMsg => .readMsg
  | some .readState => .readState (.whole n)
  | none => .voidOperation op n

end Sys2Proof.Machine
end

