-- ==== Sys2Proof/Machine/Engine.lean ====
section
/-! DEFINITION. The Request Engine (R162 to R164): taking the oldest message, and placing its one
response. -/

namespace Sys2Proof.Machine

/-- What an accepted request leaves: the state after it has acted, its response body, and whether a
value was clamped or raised. -/
structure Reply where
  st : State
  body : List Byte
  clamped : Bool

/-- What a request answers: a refusal, which changes nothing, or a reply (R164). -/
abbrev Answer := Except Result Reply

/-- Place a response at the tail of the outbox; its flags are the summary flags as they stand after the
request has acted (R164). -/
def placeResponse (m : Msg) (res : Result) (clamped : Bool) (body : List Byte) (s : State) : State :=
  { s with
    link := { s.link with
      outbox := s.link.outbox ++
        [{ kind := m.bytes.getD 0 0, tag := m.bytes.getD 1 0, result := res, fault := faultFlag s,
           notice := noticeFlag s, clamped := clamped, body := body }] } }

/-- The state once a message has been answered. -/
def answer (m : Msg) (s : State) : Answer → State
  | .ok r => placeResponse m .ok r.clamped r.body r.st
  | .error e => placeResponse m e false [] s

/-- The oldest message of the inbox, if the Request Engine takes it as this row now, and the state with
it removed: the part is ready and the outbox has a free slot (R163). -/
def takeable (row : ReqRow) (s : State) : Option (Msg × State) :=
  match s.link.inbox with
  | [] => none
  | m :: rest =>
    if s.phase = .ready ∧ rowOf m = row ∧ s.link.outbox.length < Config.linkSlots then
      some (m, { s with link := { s.link with inbox := rest } })
    else none

/-- Take a request: its header is checked (R164, check 3), then it runs its own checks, acts and is
answered, all at the taking (R163). When the engine takes no message as this row, nothing happens
(log entry 2). -/
def takeRequest (row : ReqRow) (act : List Byte → State → Answer) (s : State) :
    Host.Outcome State Fault Refusal :=
  match takeable row s with
  | none => noEvent s
  | some (m, s1) =>
    done (answer m s1 (if m.lengthOk then act m.body s1 else .error .badFormat))

/-- The form check that begins every request: without operands the answer is BAD_FORMAT. -/
def withForm {α : Type} (parse : List Byte → Option α) (act : α → State → Answer) (b : List Byte)
    (s : State) : Answer :=
  match parse b with
  | some x => act x s
  | none => .error .badFormat

/-- An accepted request without a clamped value. -/
def accept (s : State) (body : List Byte) : Answer := .ok ⟨s, body, false⟩

end Sys2Proof.Machine
end

