-- ==== Sys2Proof/Machine/CueRequests.lean ====
section
/-! DEFINITION. The requests on the Cue Table (chapter 3): CUE_POST, CUE_DATA, CUE_REVISE,
CUE_WITHDRAW, CUE_QUERY. -/

namespace Sys2Proof.Machine

/-- The checks that every cue request begins with after its form (R52): the auditorium is OPEN and the
track exists. -/
def withTrack (a : Aud) (t : Track) (s : State) (act : TrackRec → Answer) : Answer :=
  if s.isOpen a then
    match s.track? a t with
    | some r => act r
    | none => .error .noTrack
  else .error .notOpen

/-- The further check that the track holds the cue (R52). -/
def withCue (a : Aud) (t : Track) (num : Nat) (s : State) (act : Cue → Answer) : Answer :=
  withTrack a t s fun _ =>
    match s.findCue a t num with
    | some c => act c
    | none => .error .noSuch

/-- Whether a declared length is in the range of a cue's kind (R46). -/
def lengthInRange (k : CueKind) (declared : Nat) : Bool :=
  match k with
  | .caption => decide (1 ≤ declared ∧ declared ≤ 512)
  | .clip => decide (1 ≤ declared ∧ declared ≤ 16384)

/-- Check 7 of R53 and check 5 of R58: the out-point is greater than the in-point, the declared length
is in range, the inline bytes fit, and a clip has no attributes. -/
def bodyOk (k : CueKind) (x : CueBody) : Bool :=
  decide (x.inP < x.outP) && lengthInRange k x.declared
    && decide (x.inline.length ≤ x.declared)
    && (match k with
        | .caption => true
        | .clip => x.attrs.isNone)

/-- Whether the film has not yet passed an out-point, as far as the auditorium's Timeline gives a
position at the site time of taking (R53, check 8; R58, check 6). -/
def aheadOfFilm (s : State) (a : Aud) (outP : Nat) : Bool :=
  match (s.timeline a).project s.clock.time with
  | some p => decide (p < outP)
  | none => true

/-- The attributes a cue holds: as given or the defaults for a caption, none for a clip (R46). -/
def attrsFor (k : CueKind) (given : Option Attrs) : Option Attrs :=
  match k with
  | .caption => some (given.getD defaultAttrs)
  | .clip => none

/-- Free slots left (R55). -/
def State.freeSlots (s : State) : Nat := Config.cueSlots - s.table.cues.length

/-! ### CUE_POST (R53 to R55) -/

/-- The record that a CUE_POST writes (R54). -/
def postedCue (q : CuePostReq) (slot : Nat) (blocks : List Nat) : Cue :=
  { slot := slot, aud := q.aud, track := q.track, num := q.num, kind := q.kind, inP := q.body.inP,
    outP := q.body.outP, rev := 0, declared := q.body.declared, fill := q.body.inline.length,
    off := 0, blocks := blocks, attrs := attrsFor q.kind q.body.attrs, delivery := .waiting,
    phase := .ahead, air := 0, late := false, relaunch := false, repeatDue := false,
    underrun := false }

/-- An accepted CUE_POST takes slot `slot` (R54). -/
def doPost (q : CuePostReq) (slot : Nat) (s : State) : State × Cue :=
  let n := blocksFor q.body.declared
  let c := postedCue q slot (s.table.free.take n)
  let s := { s with
    table :=
      { cues := insertCue c s.table.cues
        free := s.table.free.drop n
        payload := writePayload c.blocks 0 q.body.inline s.table.payload } }
  let s := (s.addToLineup c).modCueCount c.aud (· + 1)
  ((s.judgePool (.aud c.aud)).removeRepairsOf c.aud c.track c.num, c)

/-- The auditorium's cue count (R12). -/
def State.cueCount (s : State) (a : Aud) : Nat :=
  match s.theShow? a with
  | some w => w.cueCount
  | none => 0

/-- CUE_POST after its form check: the checks of R53 in order. A free slot always exists when the
blocks do (R45); the last line is for states no run reaches. -/
def actCuePost (q : CuePostReq) (s : State) : Answer :=
  withTrack q.aud q.track s fun r =>
    if q.kind ≠ r.kind then .error .kind
    else if r.base ≤ q.num ∧ q.num ≤ r.limit then
      if (s.findCue q.aud q.track q.num).isSome then .error .exists_
      else if !bodyOk q.kind q.body then .error .badFormat
      else if !aheadOfFilm s q.aud q.body.outP then .error .late
      else if s.setting .audCueQuota ≤ s.cueCount q.aud then .error .quota
      else if s.table.free.length < blocksFor q.body.declared then .error .noRoom
      else
        match s.lowestFreeSlot with
        | some slot =>
          let (s, c) := doPost q slot s
          accept s (be16 slot ++ be16 (s.lineupIndex c) ++ be8 0 ++ be8 c.blocks.length
            ++ be16 s.table.free.length ++ be16 s.freeSlots)
        | none => .error .noRoom
    else .error .outOfWindow

/-- CUE_POST. -/
def execCuePost (s : State) : Host.Outcome State Fault Refusal :=
  takeRequest .cuePost (withForm cuePost? actCuePost) s

/-! ### CUE_DATA (R56, R57) -/

/-- CUE_DATA after its form check. -/
def actCueData (q : CueDataReq) (s : State) : Answer :=
  withCue q.aud q.track q.num s fun c =>
    if q.offset ≠ c.fill then .error .order
    else if c.declared < c.fill + q.data.length then .error .badFormat
    else if c.phase = .retained then .error .late
    else
      let s := { s with
        table := { s.table with
          payload := writePayload c.blocks c.fill q.data s.table.payload } }
      let fill := c.fill + q.data.length
      accept (s.putCue { c with fill := fill }) ([c.rev] ++ be16 fill ++ be16 c.declared)

/-- CUE_DATA. -/
def execCueData (s : State) : Host.Outcome State Fault Refusal :=
  takeRequest .cueData (withForm cueData? actCueData) s

/-! ### CUE_REVISE (R58 to R60) -/

/-- The record after an accepted revision (R60). -/
def revisedCue (x : CueBody) (blocks : List Nat) (c : Cue) : Cue :=
  { c with
    inP := x.inP, outP := x.outP, declared := x.declared, attrs := attrsFor c.kind x.attrs,
    rev := c.rev + 1, fill := x.inline.length, off := 0, blocks := blocks, delivery := .waiting,
    phase := .ahead, air := 0, late := false, repeatDue := false, underrun := false }

/-- An accepted CUE_REVISE: the reallocation in one step (R59), the record (R60), the lineup when the
in-point changed (R48), and the removal of the cue's repair entries (R130). -/
def doRevise (x : CueBody) (c : Cue) (s : State) : State × Cue :=
  let n := blocksFor x.declared
  let pool := s.table.free ++ c.blocks
  let c' := revisedCue x (pool.take n) c
  let s := { s with
    table := { s.table with
      free := pool.drop n
      payload := writePayload c'.blocks 0 x.inline s.table.payload } }
  let s := if c.inP = x.inP then s.putCue c' else ((s.dropFromLineup c).putCue c').addToLineup c'
  ((s.judgePool (.aud c.aud)).removeRepairsOf c.aud c.track c.num, c')

/-- CUE_REVISE after its form check. -/
def actCueRevise (q : CueReviseReq) (s : State) : Answer :=
  withCue q.aud q.track q.num s fun c =>
    if !bodyOk c.kind q.body then .error .badFormat
    else if !aheadOfFilm s q.aud q.body.outP then .error .late
    else if s.table.free.length + c.blocks.length < blocksFor q.body.declared then .error .noRoom
    else
      let (s, c) := doRevise q.body c s
      accept s ([c.rev] ++ be16 (s.lineupIndex c) ++ be8 c.blocks.length
        ++ be16 s.table.free.length)

/-- CUE_REVISE. -/
def execCueRevise (s : State) : Host.Outcome State Fault Refusal :=
  takeRequest .cueRevise (withForm cueRevise? actCueRevise) s

/-! ### CUE_WITHDRAW (R61, R62) -/

/-- The WITHDRAW notice of a withdrawal, decided from delivery and phase as they stand (R62). -/
def withdrawNotice (c : Cue) (s : State) : State × NoticeOutcome :=
  if c.delivery ≠ .waiting ∧ c.phase ≠ .retained then
    match s.laneOf? c.aud with
    | some l => s.addNotice l (.withdraw c.aud c.track c.num)
    | none => (s, .notNeeded)
  else (s, .notNeeded)

/-- CUE_WITHDRAW after its form check: the steps of R61 in order. -/
def actCueWithdraw (q : CueRef) (s : State) : Answer :=
  withCue q.aud q.track q.num s fun c =>
    let (s, out) := withdrawNotice c s
    let s := s.turnRepairsGone c.aud c.track c.num
    let s := s.freeCue c
    accept s (be8 (noticeOutcomeCode out) ++ be8 c.blocks.length ++ be16 s.table.free.length)

/-- CUE_WITHDRAW. -/
def execCueWithdraw (s : State) : Host.Outcome State Fault Refusal :=
  takeRequest .cueWithdraw (withForm cueWithdraw? actCueWithdraw) s

/-! ### CUE_QUERY (R63, R64) -/

/-- The flags byte of a CUE_QUERY by cue (R184). -/
def cueFlags (c : Cue) : Nat :=
  flagBit c.late 0 + flagBit c.relaunch 1 + flagBit c.repeatDue 2 + flagBit c.underrun 3

/-- The body of a CUE_QUERY by cue (R63, R184). -/
def cueBytes (s : State) (c : Cue) : List Byte :=
  be16 c.slot ++ be8 c.aud.val ++ be8 c.track.val ++ be16 c.num ++ be8 (cueKindCode c.kind)
    ++ be32 c.inP ++ be32 c.outP ++ [c.rev] ++ be16 c.declared ++ be16 c.fill ++ be16 c.off
    ++ optField 1 (c.attrs.map fun x => be8 (attrsCode x)) ++ be8 (deliveryCode c.delivery)
    ++ be8 (phaseCode c.phase) ++ be8 c.air ++ be8 (cueFlags c) ++ be16 (s.lineupIndex c)
    ++ be8 c.blocks.length ++ c.blocks.flatMap be16

/-- CUE_QUERY by cue after its form check. -/
def actCueQueryByCue (q : CueRef) (s : State) : Answer :=
  withCue q.aud q.track q.num s fun c => accept s (cueBytes s c)

/-- CUE_QUERY in mode BY_CUE. -/
def execCueQueryByCue (s : State) : Host.Outcome State Fault Refusal :=
  takeRequest .cueQueryByCue (withForm cueQueryByCue? actCueQueryByCue) s

/-- The cue number of the first AHEAD entry of a lineup (R64). -/
def firstAhead (s : State) (lineup : List Nat) : Option Nat :=
  ((lineup.filterMap s.cueAt).find? fun c => c.phase == .ahead).map Cue.num

/-- The body of a CUE_QUERY by track (R64, R184). -/
def trackBytes (s : State) (r : TrackRec) : List Byte :=
  be8 (cueKindCode r.kind) ++ be16 r.base ++ be16 r.limit ++ be16 r.lineup.length
    ++ optField 2 ((firstAhead s r.lineup).map be16) ++ optField 2 (r.lastDone.map be16)
    ++ be16 r.listeners

/-- CUE_QUERY by track after its form check. -/
def actCueQueryByTrack (q : Aud × Track) (s : State) : Answer :=
  withTrack q.1 q.2 s fun r => accept s (trackBytes s r)

/-- CUE_QUERY in mode BY_TRACK. -/
def execCueQueryByTrack (s : State) : Host.Outcome State Fault Refusal :=
  takeRequest .cueQueryByTrack (withForm cueQueryByTrack? actCueQueryByTrack) s

end Sys2Proof.Machine
end

