-- ==== Sys2Proof/Machine/Frames.lean ====
section
/-! DEFINITION. The bytes of an air frame (R107, R185). -/

namespace Sys2Proof.Machine

/-- The size of a section in bytes (R107). -/
def Section.size : Section → Nat
  | .stamp .. => 12
  | .caption _ _ _ _ _ _ data => 20 + data.length
  | .segment _ _ _ _ data => 20 + data.length
  | .repair _ _ _ _ _ data => 20 + data.length
  | .gone .. => 8
  | .withdraw .. => 8
  | .release .. => 8
  | .announce _ => 20

/-- The frame length: the header and every section (R185). -/
def Frame.size (f : Frame) : Nat := Config.headerBytes + (f.sections.map Section.size).sum

/-- Whether a section is a STAMP. -/
def Section.isStamp : Section → Bool
  | .stamp .. => true
  | _ => false

/-- The kind-and-declared-length field: bit 15 set for a caption (R185). -/
def kindLength (h : CueHead) : Nat :=
  match h.kind with
  | .caption => 32768 + h.declared
  | .clip => h.declared

/-- Bytes 1 to 13 of a CAPTION, SEGMENT or REPAIR section, `b5` being byte 5 (R185). -/
def headBytes (h : CueHead) (b5 : Nat) : List Byte :=
  be8 (trackRef h.aud h.track) ++ be16 h.num ++ [h.rev] ++ be8 b5 ++ be24 h.inP ++ be24 h.outP
    ++ be16 (kindLength h)

/-- The airing flags of a CAPTION or SEGMENT (R185). -/
def airingFlags (isRepeat late relaunch : Bool) : Nat :=
  flagBit isRepeat 0 + flagBit late 1 + flagBit relaunch 2

/-- A list of bytes cut or filled with zeros to a length. -/
def padTo (n : Nat) (bs : List Byte) : List Byte := bs.take n ++ List.replicate (n - bs.length) 0

/-- The bytes of a section (R185). -/
def Section.bytes : Section → List Byte
  | .stamp a st epoch gated tracks pos rate =>
    be8 1 ++ be8 a.val ++ be8 (tlStateCode st) ++ [epoch] ++ be8 (flagBit gated 0) ++ be8 tracks
      ++ be24 pos ++ be24 rate
  | .caption h rep late rel attrs air data =>
    be8 2 ++ headBytes h (airingFlags rep late rel) ++ be8 (attrsCode attrs) ++ be8 air
      ++ be16 data.length ++ be16 0 ++ data
  | .segment h late rel off data =>
    be8 3 ++ headBytes h (airingFlags false late rel) ++ be16 off ++ be16 data.length ++ be16 0
      ++ data
  | .repair h asks attrs off firstAsk data =>
    be8 4 ++ headBytes h asks
      ++ (match attrs with
          | some x => be8 (attrsCode x) ++ be8 0
          | none => be16 off)
      ++ be16 data.length ++ be16 firstAsk.toNat ++ data
  | .gone a t num rev asks =>
    be8 5 ++ be8 (trackRef a t) ++ be16 num ++ [rev.getD 0] ++ be8 (flagBit rev.isSome 0)
      ++ be8 asks ++ be8 0
  | .withdraw a t num left => be8 6 ++ be8 (trackRef a t) ++ be16 num ++ be8 left ++ be24 0
  | .release addr check left => be8 7 ++ be16 addr.val ++ [check] ++ be8 left ++ be24 0
  | .announce x =>
    be8 8 ++ be16 x.index.val ++ be24 x.serial ++ be8 (trackRef x.aud x.track)
      ++ be8 (rxKindCode x.kind)
      ++ be8 (match x.lane with
              | some l => laneCode l
              | none => 0xFF)
      ++ (match x.lang with
          | some g => [g.c0, g.c1, g.c2]
          | none => be24 0)
      ++ be8 x.seat.length ++ padTo 6 x.seat ++ be8 (flagBit x.moving 0)

/-- The bytes of a frame as the lane hands them to its transceiver (R97, R185). -/
def Frame.bytes (f : Frame) : List Byte :=
  be8 (laneCode f.lane) ++ be8 (flagBit f.cut 0) ++ be16 f.number.toNat ++ be32 f.air.toNat
    ++ be16 f.size ++ be16 f.sections.length ++ be8 (f.sections.filter Section.isStamp).length
    ++ be8 12 ++ be8 16 ++ be8 3 ++ f.sections.flatMap Section.bytes

end Sys2Proof.Machine
end

