-- ==== Sys2Proof/Machine/RepairQueue.lean ====
section
/-! DEFINITION. The Repair Service (chapter 7): what an ask does to the queue, and what an entry places
at a build. -/

namespace Sys2Proof.Machine

/-! ### Taking an ask (R122, R123) -/

/-- A new entry for an ask (R123). -/
def newRepair (kind : RepairKind) (rev : Option (BitVec 8)) (a : Aud) (t : Track) (num : Nat)
    (frame : FrameNo) : Repair :=
  { kind := kind, aud := a, track := t, num := num, rev := rev, state := .waiting, asks := 1,
    firstAsk := frame, off := 0, hold := 0 }

/-- An ask count after one more ask, at most 255 (R122). -/
def bumpAsks (n : Nat) : Nat := if n < 255 then n + 1 else n

/-- Append an entry at the tail of a lane's queue (R120). -/
def State.appendRepair (s : State) (l : LaneId) (e : Repair) : State :=
  let x := s.lane l
  s.withLane l { x with repairs := x.repairs ++ [e] }

/-- A validated ASK reaches the queue of its lane: the first row of R122's table that applies. -/
def takeAsk (l : LaneId) (a : Aud) (t : Track) (num : Nat) (frame : FrameNo) (s : State) : State :=
  let x := s.lane l
  match x.repairs.find? fun e => e.names a t num with
  | some e =>
    if e.state = .holding then s.countLane l .asksCrossed
    else
      s.withLane l { x with
        repairs := x.repairs.map fun e =>
          if e.names a t num then { e with asks := bumpAsks e.asks } else e }
  | none =>
    match s.findCue a t num with
    | some c =>
      if c.delivery = .sent then
        if Config.repairSlots ≤ x.repairs.length then
          (s.latch .repairDropped (.lane l)).countLane l .asksDropped
        else s.appendRepair l (newRepair .content (some c.rev) a t num frame)
      else s.countLane l .asksIgnored
    | none =>
      if Config.repairSlots ≤ x.repairs.length then
        (s.latch .repairDropped (.lane l)).countLane l .asksDropped
      else s.appendRepair l (newRepair .gone none a t num frame)

/-! ### What an entry places at a build (R124) -/

/-- What an entry does at a build, by R124's table: nothing; nothing, being past its deadline; a GONE
section; the caption's REPAIR; a clip's REPAIR of so many data bytes. -/
inductive RepairAct where
  | holding | idle | expired | gone
  | caption (c : Cue)
  | clip (c : Cue) (data : Nat)
deriving DecidableEq, Repr

/-- The position a build has read for an auditorium; none where the auditorium is not positioned at
the build (R124). -/
def Build.posOf (b : Build) (a : Aud) : Option Nat :=
  (b.readings.find? fun r => r.1 == a).bind fun r => r.2.pos

/-- The row of R124's table that an entry falls under. DESIGN CHOICE (log entry 38): a CONTENT entry for a cue
that is RETAINED while P(A) lies below its out-point again is judged by P(A) like any other and is served. -/
def repairAct (s : State) (b : Build) (e : Repair) : RepairAct :=
  if e.state = .holding then .holding
  else
    match b.posOf e.aud with
    | none => .idle
    | some p =>
      match e.kind with
      | .gone => .gone
      | .content =>
        match s.findCue e.aud e.track e.num with
        | none => .idle
        | some c =>
          if c.outP ≤ p then .expired
          else
            match c.kind with
            | .caption => if c.fill < c.declared then .idle else .caption c
            | .clip =>
              if c.fill ≤ e.off then .idle
              else .clip c (min (s.setting .repairSegmentMax) (c.fill - e.off))

/-- The natural size of an entry's section (R124). -/
def RepairAct.size : RepairAct → Nat
  | .holding | .idle | .expired => 0
  | .gone => 8
  | .caption c => 20 + c.declared
  | .clip _ n => 20 + n

/-- The total that the queue reports at step 5 (R104, R124). -/
def repairTotal (s : State) (l : LaneId) (b : Build) : Nat :=
  ((s.lane l).repairs.map fun e => (repairAct s b e).size).sum

/-- The data bytes of a clip section in the room given: its natural length, or shortened to the room
less 20 bytes when that leaves 16 or more and the natural length is not under 16 (R105, R106, R125). -/
def fitClip (natural room : Nat) : Option Nat :=
  if 20 + natural ≤ room then some natural
  else if 16 ≤ natural ∧ 36 ≤ room then some (room - 20)
  else none

/-- An entry after it is done: HOLDING for HOLD_FRAMES builds, or removed at once (R128). -/
def doneRepair (s : State) (e : Repair) : Option Repair :=
  if s.setting .holdFrames = 0 then none
  else some { e with state := .holding, hold := s.setting .holdFrames, off := 0 }

/-- A clip entry after `n` data bytes of it were placed: done when its offset reaches the declared
length, SENDING otherwise (R127, R128). -/
def servedClip (s : State) (e : Repair) (c : Cue) (n : Nat) : Option Repair :=
  if e.off + n = c.declared then doneRepair s e
  else some { e with state := .sending, off := e.off + n }

/-- A REPAIR section of a caption or a clip (R126, R127, R134, R185). -/
def repairSection (s : State) (e : Repair) (c : Cue) (attrs : Option Attrs) (n : Nat) : Section :=
  .repair { c.head with rev := e.rev.getD c.rev } e.asks attrs e.off e.firstAsk
    (readPayload c.blocks s.table.payload e.off n)

end Sys2Proof.Machine
end

