-- ==== Sys2Proof/Machine/RosterOps.lean ====
section
/-! DEFINITION. The Receiver Roster's records, the listener counts, and the selection for
announcement (chapter 8). -/

namespace Sys2Proof.Machine

/-- The record in use at an index; none where the record is FREE (R135). -/
def State.rx? (s : State) (i : RxIdx) : Option RxRec := s.roster.find? fun r => r.index == i

/-- The record in use that holds a serial (R135). -/
def State.rxBySerial? (s : State) (serial : Nat) : Option RxRec :=
  s.roster.find? fun r => r.serial == serial

/-- Write a record back. -/
def State.putRx (s : State) (r : RxRec) : State :=
  { s with roster := s.roster.map fun x => if x.index == r.index then r else x }

/-- Insert a record in index order. -/
def insertRx (r : RxRec) : List RxRec → List RxRec
  | [] => [r]
  | x :: xs => if r.index < x.index then r :: x :: xs else x :: insertRx r xs

/-- The lowest-indexed FREE record (R140). -/
def State.lowestFreeRx (s : State) : Option RxIdx :=
  (List.finRange 512).find? fun i => (s.rx? i).isNone

/-- The low 8 bits of a serial (R113). -/
def serialCheck (serial : Nat) : Byte := BitVec.ofNat 8 serial

/-- Whether a receiver's kind suits a track's kind (R2). -/
def suits : RxKind → CueKind → Bool
  | .captionDisplay, .caption => true
  | .descriptionHeadset, .clip => true
  | _, _ => false

/-- Whether a record is matched: its track exists and suits its kind (R7). -/
def State.matched (s : State) (r : RxRec) : Bool :=
  match s.track? r.aud r.track with
  | some w => suits r.kind w.kind
  | none => false

/-- The states that count toward a track (R137). -/
def countingState : RxState → Bool
  | .issued | .joined | .silent | .moving => true
  | .lost => false

/-- Whether a record is counted (R137). -/
def State.counted (s : State) (r : RxRec) : Bool :=
  countingState r.state && (s.track? r.aud r.track).isSome && !r.unmatched

/-- Raise a track's listener count (R138). -/
def State.countUp (s : State) (a : Aud) (t : Track) : State :=
  s.modTrack a t fun w => { w with listeners := w.listeners + 1 }

/-- Lower a track's listener count (R138). -/
def State.countDown (s : State) (a : Aud) (t : Track) : State :=
  s.modTrack a t fun w => { w with listeners := w.listeners - 1 }

/-- Lower the count of a record's track if the record was counted (R138). -/
def State.unCount (s : State) (r : RxRec) : State :=
  if s.counted r then s.countDown r.aud r.track else s

/-- Tell the Cue Table when a track's count has risen from `before` = 0 (R138). -/
def State.tellIfRisen (s : State) (a : Aud) (t : Track) (before : Nat) : State :=
  if before = 0 ∧ 0 < s.listeners a t then reWait a t s else s

/-- The state of a record expiring into LOST (R148). -/
def enterLost (r : RxRec) (why : LossReason) (s : State) : State :=
  let s := s.unCount r
  let s := s.putRx { r with state := .lost, loss := some why, movedFrom := none, joinDl := none }
  ((s.rotRemove .A r.index).rotRemove .B r.index).latch .rxLost (.aud r.aud)

/-- Whether a record may be announced on a lane in frame F (R152). -/
def announceable (s : State) (l : LaneId) (f : FrameNo) (every : Nat) (r : RxRec) : Bool :=
  (s.openOn r.aud l
      || (r.state == .moving && (r.movedFrom.map fun a => s.openOn a l).getD false))
    && !r.unmatched
    && (match r.marks.get l with
        | none => true
        | some m => decide (every ≤ (f - m).toNat))

/-- Whether the record at an index stands in a lane's rotation and may be announced on it (R152,
R153). -/
def mayAnnounce (s : State) (l : LaneId) (f : FrameNo) (every : Nat) (i : RxIdx) : Bool :=
  s.inRotation l i
    && (match s.rx? i with
        | some r => announceable s l f every r
        | none => false)

/-- The fields of a record's ANNOUNCE section (R103, R153). -/
def announceOf (s : State) (r : RxRec) : Announce :=
  { index := r.index, serial := r.serial, aud := r.aud, track := r.track, kind := r.kind
    lane := s.laneOf? r.aud
    lang := (s.track? r.aud r.track).map TrackRec.lang
    seat := r.seat, moving := r.state == .moving }

/-- An ANNOUNCE section is whole: if the record still stands in the lane's rotation it moves to the
tail and its mark for the lane becomes F (R153). -/
def announcePlaced (l : LaneId) (f : FrameNo) (i : RxIdx) (s : State) : State :=
  if s.inRotation l i then
    let s := s.rotAppend l i
    match s.rx? i with
    | some r => s.putRx { r with marks := r.marks.put l (some f) }
    | none => s
  else s

end Sys2Proof.Machine
end

