-- ==== Sys2Proof/Machine/BuildOps.lean ====
section
/-! DEFINITION. The Frame Builder (R95 to R107): beginning a build, one unit of the build order, and
the end of a build. -/

namespace Sys2Proof.Machine

/-! ### Buffers -/

def Buffer.isEmpty : Buffer → Bool
  | .empty => true
  | _ => false

def Buffer.isBuilding : Buffer → Bool
  | .building _ => true
  | _ => false

def Buffer.isReady : Buffer → Bool
  | .ready _ => true
  | _ => false

def Buffer.isOnAir : Buffer → Bool
  | .onAir _ => true
  | _ => false

/-- A buffer of a lane. -/
def Lane.buf (x : Lane) : BufId → Buffer
  | .b0 => x.buf0
  | .b1 => x.buf1

/-- Replace a buffer of a lane. -/
def Lane.withBuf (x : Lane) (i : BufId) (b : Buffer) : Lane :=
  match i with
  | .b0 => { x with buf0 := b }
  | .b1 => { x with buf1 := b }

/-- The buffer, if any, whose state `p` names; buffer 0 first. -/
def Lane.bufWhere (x : Lane) (p : Buffer → Bool) : Option BufId :=
  if p x.buf0 then some .b0 else if p x.buf1 then some .b1 else none

/-- A BUILDING or READY buffer emptied (R93, R94, R97). -/
def Buffer.dropUnaired (b : Buffer) : Buffer :=
  match b with
  | .building _ | .ready _ => .empty
  | b => b

/-- A build in progress is abandoned, and what is not on the air is emptied; the results passed for
its whole sections stand (R93, R94, R99). -/
def Lane.abandon (x : Lane) : Lane :=
  { x with build := none, buf0 := x.buf0.dropUnaired, buf1 := x.buf1.dropUnaired }

/-- A lane enters FAULT: its build is abandoned, its unaired buffers emptied, LANE_FAULT judged (R91,
R94, R97). -/
def State.faultLane (s : State) (l : LaneId) : State :=
  (s.withLane l { (s.lane l).abandon with state := .fault }).judgeLaneFault l

/-- A frame goes on the air: the buffer is ON_AIR and the frame's bytes are handed to the transceiver
(R97). -/
def Lane.putOnAir (x : Lane) (i : BufId) (f : Frame) : Lane :=
  { x.withBuf i (.onAir f) with frameOut := f.bytes }

/-! ### Boundaries and the beginning of a build (R18, R95, R96) -/

/-- Whether a site time is a boundary of a lane (R18). -/
def isBoundary (l : LaneId) (t : SiteTime) : Bool :=
  match l with
  | .A => t.toNat % 20 == 0
  | .B => t.toNat % 20 == 10

/-- The lane's next boundary strictly later than a site time, across the wrap of site time (R18,
R95). -/
def nextBoundary (l : LaneId) (t : SiteTime) : SiteTime :=
  let n := t.toNat
  let b := match l with
    | .A => (n / 20 + 1) * 20
    | .B => if n % 20 < 10 then n / 20 * 20 + 10 else n / 20 * 20 + 30
  if b < 4294967296 then BitVec.ofNat 32 b
  else match l with
    | .A => 0
    | .B => 10

/-- Begin a build if one is due: the lane is RUNNING, one buffer is EMPTY and none is BUILDING or READY
(R96). The header's own fields are written and the auditoriums to be served are those open on the
lane now (R95, R101). DESIGN CHOICE (log entry 33): a build begun in a boundary's own millisecond before
its LANE_BOUNDARY is for the boundary after that one, and its frame number is one above the lane's as it
stands; the boundary still to be taken then cuts it and puts it on the air. -/
def State.beginBuild (s : State) (l : LaneId) : State :=
  let x := s.lane l
  if x.state = .running ∧ x.bufWhere (fun b => b.isBuilding || b.isReady) = none then
    match x.bufWhere Buffer.isEmpty with
    | some i =>
      let air := nextBoundary l s.clock.time
      let number := x.frameNo + 1
      s.withLane l
        { x.withBuf i (.building ⟨l, number, air, false, []⟩) with
          build := some
            { buf := i, air := air, number := number, readings := [], jumped := [],
              stage := .stamps (allAuds.filter fun a => s.openOn a l) } }
    | none => s
  else s

/-! ### One unit of the build order (R101) -/

/-- The frame under construction in a buffer. -/
def Buffer.frame? : Buffer → Option Frame
  | .building f => some f
  | _ => none

/-- A section is whole in the buffer that the build fills (R99). -/
def State.addSection (s : State) (l : LaneId) (i : BufId) (sec : Section) : State :=
  let x := s.lane l
  match x.buf i with
  | .building f =>
    s.withLane l (x.withBuf i (.building { f with sections := f.sections ++ [sec] }))
  | _ => s

/-- Move the build in progress to a stage. -/
def State.toStage (s : State) (l : LaneId) (st : Stage) : State :=
  s.withLane l ((s.lane l).modBuild fun b => { b with stage := st })

/-- Step 1 writes one STAMP, reading the auditorium's Timeline (R102). -/
def stampOne (l : LaneId) (b : Build) (a : Aud) (left : List Aud) (s : State) : State :=
  let r := s.reading a b.air
  let tracks := match s.theShow? a with
    | some w => w.tracks.length
    | none => 0
  let s := s.addSection l b.buf (.stamp a r.state r.epoch r.gated tracks (r.pos.getD 0) r.rate)
  s.withLane l
    ((s.lane l).modBuild fun b => { b with readings := b.readings ++ [(a, r)], stage := .stamps left })

/-- The section of a notice, with the airings left after this one (R108, R185). -/
def noticeSection (n : Notice) : Section :=
  match n.item with
  | .withdraw a t num => .withdraw a t num (n.left - 1)
  | .release addr check => .release addr check (n.left - 1)

/-- Step 2 places one notice: its airings fall by 1, and at 0 it leaves the list (R108). -/
def noticeOne (l : LaneId) (b : Build) (passed placed : Nat) (n : Notice) (s : State) : State :=
  let s := s.addSection l b.buf (noticeSection n)
  let x := s.lane l
  if n.left ≤ 1 then
    (s.withLane l { x with notices := x.notices.eraseIdx passed }).toStage l
      (.notices passed (placed + 1))
  else
    (s.withLane l { x with notices := x.notices.set passed { n with left := n.left - 1 } }).toStage l
      (.notices (passed + 1) (placed + 1))

/-- The tracks that step 4 walks: those of the served auditoriums whose Timeline gave a position and has
not jumped since, in ascending order (R70, R88, R101). -/
def walkWork (s : State) (b : Build) : List (Aud × Track) :=
  (b.readings.filter fun r => r.2.pos.isSome && !b.jumped.contains r.1).flatMap fun r =>
    (allTracks.filter fun t => (s.track? r.1 t).isSome).map fun t => (r.1, t)

/-- Step 4 reaches one cue of the present track (R70). -/
def walkOne (l : LaneId) (b : Build) (work : List (Aud × Track)) (slot : Nat) (slots : List Nat)
    (offers : List Offer) (s : State) : State :=
  let s := s.toStage l (.walk work slots offers)
  match s.cueAt slot with
  | none => s
  | some c =>
    match b.readings.find? fun r => r.1 == c.aud with
    | none => s
    | some (_, r) =>
      match r.pos with
      | none => s
      | some p =>
        let (s', o) := walkCue r p slot s
        match o with
        | some o => s'.toStage l (.walk work slots (offers ++ [o]))
        | none => s'

/-- The order in which step 6 takes the offers: the continuing group first, then in-point, auditorium,
track and cue number (R105). -/
def Offer.key (o : Offer) : List Nat :=
  [if o.kind = .continuing then 0 else 1, o.inP, o.aud.val, o.track.val, o.num]

/-- Lexicographic order of keys. -/
def listLt : List Nat → List Nat → Bool
  | x :: xs, y :: ys => decide (x < y) || (x == y && listLt xs ys)
  | [], _ :: _ => true
  | _, [] => false

/-- Insert an offer in order. -/
def insertOffer (o : Offer) : List Offer → List Offer
  | [] => [o]
  | x :: xs => if listLt o.key x.key then o :: x :: xs else x :: insertOffer o xs

/-- The offers in the order step 6 takes them (R105). -/
def sortOffers (os : List Offer) : List Offer := os.foldr insertOffer []

/-- Bytes used so far in the frame under construction. -/
def Lane.usedBytes (x : Lane) (i : BufId) : Nat :=
  match x.buf i with
  | .building f => f.size
  | _ => 0

/-- Step 5 sets the repair reserve aside and fixes the scheduled allowance (R104). -/
def reserveStep (l : LaneId) (b : Build) (offers : List Offer) (s : State) : State :=
  let kept := min (s.setting .repairFloor) (repairTotal s l b)
  let allowance := Config.frameBytes - (s.lane l).usedBytes b.buf - kept
  s.toStage l (.content (sortOffers offers) allowance kept)

/-- The state after a placement, its section, and nothing where the offer does not fit or no longer
stands (R77, R78, R79, R80, R105). -/
def placeOffer (p allowance : Nat) (o : Offer) (c : Cue) (s : State) : Option (State × Section) :=
  if qualifies o.kind c then
    match o.kind with
    | .caption => if 20 + c.declared ≤ allowance then some (placeCaption p s c) else none
    | .captionRepeat => if 20 + c.declared ≤ allowance then some (placeRepeat s c) else none
    | .continuing | .firstSegment =>
      (fitClip (min (s.setting .segmentMax) (c.fill - c.off)) allowance).map fun n =>
        placeSegment p n s c
  else none

/-- Step 6 takes one offer (R105). -/
def offerOne (l : LaneId) (b : Build) (o : Offer) (os : List Offer) (allowance kept : Nat)
    (s : State) : State :=
  let skip := s.toStage l (.content os allowance kept)
  match s.cueAt o.slot, b.posOf o.aud with
  | some c, some p =>
    match placeOffer p allowance o c s with
    | some (s', sec) =>
      (s'.addSection l b.buf sec).toStage l (.content os (allowance - sec.size) kept)
    | none => skip
  | _, _ => skip

/-- Replace or remove the entry at a place of a lane's queue. -/
def State.putRepair (s : State) (l : LaneId) (k : Nat) (e : Option Repair) : State :=
  let x := s.lane l
  match e with
  | some e => s.withLane l { x with repairs := x.repairs.set k e }
  | none => s.withLane l { x with repairs := x.repairs.eraseIdx k }

/-- Step 7 has placed a section for the entry at place `passed`; `e'` is the entry afterwards, and an
entry that is done is counted as answered (R125, R128). -/
def repairPlaced (l : LaneId) (b : Build) (passed room : Nat) (sec : Section) (a : Aud)
    (answered : Bool) (e' : Option Repair) (s : State) : State :=
  let s := s.addSection l b.buf sec
  let s := if answered then s.countAud a .repairsAnswered else s
  (s.putRepair l passed e').toStage l
    (.repairs (if e'.isSome then passed + 1 else passed) (room - sec.size))

/-- Step 7 takes one entry of the queue (R125). An entry of an auditorium that has jumped since the build
read it places nothing; it is counted down, or removed at its deadline, as any other (R88, R129; log
entry 14). -/
def repairOne (l : LaneId) (b : Build) (passed room : Nat) (e : Repair) (s : State) : State :=
  let skip := s.toStage l (.repairs (passed + 1) room)
  let room' := if b.jumped.contains e.aud then 0 else room
  match repairAct s b e with
  | .holding =>
    if e.hold ≤ 1 then (s.putRepair l passed none).toStage l (.repairs passed room)
    else (s.putRepair l passed (some { e with hold := e.hold - 1 })).toStage l
      (.repairs (passed + 1) room)
  | .idle => skip
  | .expired =>
    ((s.countAud e.aud .repairsLate).putRepair l passed none).toStage l (.repairs passed room)
  | .gone =>
    if 8 ≤ room' then
      repairPlaced l b passed room (.gone e.aud e.track e.num e.rev e.asks) e.aud true
        (doneRepair s e) s
    else skip
  | .caption c =>
    if 20 + c.declared ≤ room' then
      repairPlaced l b passed room
        (repairSection s e c (some (c.attrs.getD defaultAttrs)) c.declared) e.aud true
        (doneRepair s e) s
    else skip
  | .clip c natural =>
    match fitClip natural room' with
    | some n =>
      repairPlaced l b passed room (repairSection s e c none n) e.aud
        (decide (e.off + n = c.declared)) (servedClip s e c n) s
    | none => skip

/-- The next unit of the build order of the build in progress on a lane (R101). A unit is one stamp,
one notice, one record considered, one ANNOUNCE begun or finished, one cue walked, one offer, one
repair entry, or the passage from one step to the next (log entry 10). -/
def buildUnit (l : LaneId) (s : State) : State :=
  match (s.lane l).build with
  | none => s
  | some b =>
    match b.stage with
    | .stamps [] => s.toStage l (.notices 0 0)
    | .stamps (a :: left) => stampOne l b a left s
    | .notices passed placed =>
      match (s.lane l).notices[passed]? with
      | some n =>
        if placed < 16 then noticeOne l b passed placed n s
        else s.toStage l (.select (s.lane l).rotation [] (s.setting .announceEvery)
          (s.setting .announceCap))
      | none =>
        s.toStage l (.select (s.lane l).rotation [] (s.setting .announceEvery)
          (s.setting .announceCap))
    | .select [] chosen every _ => s.toStage l (.announce chosen every)
    | .select (i :: left) chosen every cap =>
      if cap ≤ chosen.length then s.toStage l (.announce chosen every)
      else if mayAnnounce s l b.number every i then
        s.toStage l (.select left (chosen ++ [i]) every cap)
      else s.toStage l (.select left chosen every cap)
    | .announce [] _ => s.toStage l (.walk (walkWork s b) [] [])
    | .announce (i :: left) every =>
      if mayAnnounce s l b.number every i then
        match s.rx? i with
        | some r => s.toStage l (.announcing i (announceOf s r) left every)
        | none => s.toStage l (.announce left every)
      else s.toStage l (.announce left every)
    | .announcing i sec left every =>
      (announcePlaced l b.number i (s.addSection l b.buf (.announce sec))).toStage l
        (.announce left every)
    | .walk [] [] offers => s.toStage l (.reserve offers)
    | .walk ((a, t) :: work) [] offers => s.toStage l (.walk work (s.lineup a t) offers)
    | .walk work (slot :: slots) offers => walkOne l b work slot slots offers s
    | .reserve offers => reserveStep l b offers s
    | .content [] allowance kept => s.toStage l (.repairs 0 (kept + allowance))
    | .content (o :: os) allowance kept => offerOne l b o os allowance kept s
    | .repairs passed room =>
      match (s.lane l).repairs[passed]? with
      | some e => repairOne l b passed room e s
      | none => s.toStage l .finished
    | .finished => s

/-! ### The end of a build (R99, R100) -/

/-- A bound on the units that take a build out of its present stage. -/
def stageSize (s : State) (l : LaneId) : Stage → Nat
  | .stamps left => left.length + 1
  | .notices _ placed => 16 - placed + 1
  | .select left _ _ _ => left.length + 1
  | .announce left _ => 2 * left.length + 1
  | .announcing _ _ left _ => 2 * left.length + 2
  | .walk work slots _ =>
    slots.length + (work.map fun w => (s.lineup w.1 w.2).length + 1).sum + 1
  | .reserve _ => 1
  | .content offers _ _ => offers.length + 1
  | .repairs passed _ => (s.lane l).repairs.length - passed + 1
  | .finished => 0

/-- Do something n times. -/
def times (n : Nat) (f : State → State) (s : State) : State :=
  match n with
  | 0 => s
  | n + 1 => times n f (f s)

/-- Carry a build out of its present stage. -/
def finishStage (l : LaneId) (s : State) : State :=
  match (s.lane l).build with
  | some b => times (stageSize s l b.stage) (buildUnit l) s
  | none => s

/-- Carry a build through what is left of its build order: there are eight stages before the last. -/
def finishBuild (l : LaneId) (s : State) : State := times 8 (finishStage l) s

/-- A build that has carried out its last step completes: its buffer is READY, its cut flag clear, and
the Frame Builder is idle (R100). -/
def completeBuild (l : LaneId) (s : State) : State :=
  let x := s.lane l
  match x.build with
  | some b =>
    match b.stage, x.buf b.buf with
    | .finished, .building f =>
      s.withLane l { x.withBuf b.buf (.ready { f with cut := false }) with build := none }
    | _, _ => s
  | none => s

end Sys2Proof.Machine
end

