-- ==== Sys2Proof/Machine/Lanes.lean ====
section
/-! DEFINITION. Radio Lanes (chapter 5): LANE_START, LANE_STOP, LANE_BOUNDARY, BUILD_PROGRESS,
BUILD_COMPLETE, SENT, RF_READY_RELEASE and RF_READY_ASSERT. -/

namespace Sys2Proof.Machine

/-! ### LANE_START (R92) -/

/-- The Roster makes every record's last-announced mark for a lane absent (R153). -/
def clearMarks (l : LaneId) (s : State) : State :=
  { s with roster := s.roster.map fun r => { r with marks := r.marks.put l none } }

/-- A lane becomes RUNNING: frame number and missed-completion count 0, both buffers EMPTY, the marks
for the lane absent, and a build begun at once (R92, R96, R153). -/
def startLane (l : LaneId) (s : State) : State :=
  let s := s.withLane l
    { s.lane l with
      state := .running, frameNo := 0, missed := 0, buf0 := .empty, buf1 := .empty, build := none }
  (clearMarks l s).beginBuild l

/-- LANE_START after its form check. -/
def actLaneStart (l : LaneId) (s : State) : Answer :=
  if (s.lane l).state ≠ .stopped then .error .busy
  else if (s.lane l).rfReady = false then .error .laneNotReady
  else
    let s := startLane l s
    accept s (be8 (laneCode l) ++ be8 (laneStateCode (s.lane l).state)
      ++ be32 (nextBoundary l s.clock.time).toNat ++ be8 (s.lane l).notices.length)

/-- LANE_START. -/
def execLaneStart (s : State) : Host.Outcome State Fault Refusal :=
  takeRequest .laneStart (withForm laneOnly? actLaneStart) s

/-! ### LANE_STOP (R93) -/

/-- A lane becomes STOPPED: its build abandoned, its unaired buffers, its notices and its repair
entries emptied, the missed-completion count 0; the frame number, a buffer ON_AIR and the rotation
stay (R93, R131). -/
def stopLane (l : LaneId) (s : State) : State :=
  (s.withLane l
    { (s.lane l).abandon with state := .stopped, missed := 0, notices := [], repairs := [] })
    |>.judgeLaneFault l

/-- LANE_STOP after its form check. -/
def actLaneStop (l : LaneId) (s : State) : Answer :=
  let x := s.lane l
  accept (stopLane l s)
    (be8 (laneStateCode x.state) ++ be8 (flagBit (x.bufWhere Buffer.isOnAir).isSome 0)
      ++ be8 x.notices.length ++ be8 x.repairs.length)

/-- LANE_STOP. -/
def execLaneStop (s : State) : Host.Outcome State Fault Refusal :=
  takeRequest .laneStop (withForm laneOnly? actLaneStop) s

/-! ### Boundaries (R97) -/

/-- A build not complete at its air instant is cut: its buffer keeps the whole sections, the cut flag
set; BUILD_CUT is latched and counted (R97, step 3; R99). -/
def cutBuild (l : LaneId) (i : BufId) (s : State) : State :=
  let x := s.lane l
  let x := match x.buf i with
    | .building f => x.withBuf i (.ready { f with cut := true })
    | _ => x
  ((s.withLane l { x with build := none }).latch .buildCut (.lane l)).countLane l .cut

/-- The frame in a READY buffer goes on the air (R97). -/
def airBuffer (l : LaneId) (i : BufId) (s : State) : State :=
  match (s.lane l).buf i with
  | .ready f => s.withLane l ((s.lane l).putOnAir i f)
  | _ => s

/-- Steps 3 to 5 of R97: the BUILDING buffer is cut; then it, or else the READY buffer, goes on the air
if no buffer is ON_AIR, and otherwise the boundary is a skip. -/
def airAtBoundary (l : LaneId) (s : State) : State :=
  let x := s.lane l
  let (s, ready) := match x.bufWhere Buffer.isBuilding with
    | some i => (cutBuild l i s, some i)
    | none => (s, x.bufWhere Buffer.isReady)
  match ready, x.bufWhere Buffer.isOnAir with
  | some i, none => airBuffer l i s
  | _, _ => s.countLane l .skipped

/-- The boundary of a RUNNING lane: the steps of R97 in order. -/
def runningBoundary (l : LaneId) (s : State) : State :=
  let s := s.withLane l { s.lane l with frameNo := (s.lane l).frameNo + 1 }
  let late := ((s.lane l).bufWhere Buffer.isOnAir).isSome
  let s := if late then s.withLane l { s.lane l with missed := (s.lane l).missed + 1 } else s
  if late ∧ 3 ≤ (s.lane l).missed then stoppedPass l s.clock.time (s.faultLane l)
  else (airAtBoundary l s).beginBuild l

/-- The lane's boundary of the present millisecond has been taken (log entry 5). -/
def boundaryTaken (l : LaneId) (s : State) : State :=
  { s with clock := { s.clock with due := s.clock.due.put l false } }

/-- LANE_BOUNDARY (R97, R87): the site time is a boundary of the lane, not yet taken. -/
def execLaneBoundary (l : LaneId) (s : State) : Host.Outcome State Fault Refusal :=
  if s.phase ≠ .inReset ∧ isBoundary l s.clock.time = true ∧ s.clock.due.get l = true then
    let s := boundaryTaken l s
    match (s.lane l).state with
    | .running => done (runningBoundary l s)
    | .stopped | .fault => done (stoppedPass l s.clock.time s)
  else noEvent s

/-! ### Builds (R99 to R101) -/

/-- Whether a lane's Frame Builder has a build in progress. -/
def State.isBuilding (s : State) (l : LaneId) : Bool := (s.lane l).build.isSome

/-- BUILD_PROGRESS (R99, R101): the lane's build carries out the next unit of its build order (log
entry 10). -/
def execBuildProgress (l : LaneId) (s : State) : Host.Outcome State Fault Refusal :=
  if s.phase ≠ .inReset ∧ s.isBuilding l = true then done (buildUnit l s) else noEvent s

/-- BUILD_COMPLETE (R100): the lane's build carries out what is left of its build order, and its buffer
becomes READY (log entry 11). -/
def execBuildComplete (l : LaneId) (s : State) : Host.Outcome State Fault Refusal :=
  if s.phase ≠ .inReset ∧ s.isBuilding l = true then done (completeBuild l (finishBuild l s))
  else noEvent s

/-! ### SENT (R98) -/

/-- SENT (R98): the completion of the buffer that is ON_AIR; ignored when none is. -/
def execSent (l : LaneId) (s : State) : Host.Outcome State Fault Refusal :=
  if s.phase = .inReset then noEvent s
  else
    match (s.lane l).bufWhere Buffer.isOnAir with
    | some i =>
      let s := s.withLane l { (s.lane l).withBuf i .empty with missed := 0 }
      done ((s.countLane l .sent).beginBuild l)
    | none => noEvent s

/-! ### RF_READY (R94) -/

/-- RF_READY_RELEASE (R94): the input falls; a RUNNING lane enters FAULT. In reset only the level is
recorded (R90). -/
def execRfReadyRelease (l : LaneId) (s : State) : Host.Outcome State Fault Refusal :=
  if (s.lane l).rfReady = false then noEvent s
  else
    let s := s.withLane l { s.lane l with rfReady := false }
    done (if s.phase ≠ .inReset ∧ (s.lane l).state = .running then s.faultLane l else s)

/-- RF_READY_ASSERT (R94): the input rises; nothing changes beyond the recorded level. -/
def execRfReadyAssert (l : LaneId) (s : State) : Host.Outcome State Fault Refusal :=
  if (s.lane l).rfReady = true then noEvent s
  else done (s.withLane l { s.lane l with rfReady := true })

end Sys2Proof.Machine
end

