-- ==== Sys2Proof/Machine/LinkEvents.lean ====
section
/-! DEFINITION. The SPI link, the resets and the clock: WRITE_MSG, WRITE_MSG_END, READ_MSG,
READ_MSG_END, READ_STATE, VOID_OPERATION, PIN_RESET, LEAVE_RESET, START_UP_COMPLETION,
SITE_TIME_ADVANCE (chapters 2 and 9). -/

namespace Sys2Proof.Machine

/-! ### Port state (R158, R162, R182) -/

/-- Whether a slot of the inbox is claimed by a WRITE_MSG in progress (R159). -/
def Link.claimed (k : Link) : Bool :=
  match k.txn with
  | some ⟨.write c, _, _⟩ => c
  | _ => false

/-- The inbox free slots: 8 minus the messages held, claims included (R162). -/
def Link.freeSlots (k : Link) : Nat := Config.linkSlots - k.inbox.length - (if k.claimed then 1 else 0)

/-- The first port state byte; 0 until the part is ready (R158, R182). -/
def portByte1 (s : State) : Byte :=
  if s.phase = .ready then
    BitVec.ofNat 8 (flagBit true 7 + flagBit s.status.fault 6 + flagBit s.status.notice 5
      + flagBit s.status.attn 4 + s.link.freeSlots)
  else 0

/-- The second port state byte; 0 until the part is ready (R158, R182). -/
def portByte2 (s : State) : Byte :=
  if s.phase = .ready then BitVec.ofNat 8 s.link.outbox.length else 0

/-- CS_N falls: a transaction begins, and the first port state byte is sampled (R157, R158). -/
def csFalls (s : State) : State :=
  { s with link := { s.link with csSample := some (portByte1 s), miso := [] } }

/-- The first port state byte of a transaction: as sampled when CS_N fell. Where no command marked that
moment, nothing came between it and this one (R158; log entry 8). -/
def firstByte (s : State) : Byte := s.link.csSample.getD (portByte1 s)

/-- A transaction's operation byte has completed, the part has sent the first port state byte, and
`answer` is to follow the second. The second is sampled when its byte begins, which is now unless a
command marks it later (R157, R158; log entry 8). -/
def beginTxn (kind : TxnKind) (answer : List Byte) (s : State) : State :=
  { s with
    link := { s.link with
      csSample := none, txn := some ⟨kind, false, portByte2 s :: answer⟩, miso := [firstByte s] } }

/-- The byte after the operation byte begins: the second port state byte is sampled (R158). -/
def secondByteBegins (kind : TxnKind) (out : List Byte) (s : State) : State :=
  { s with link := { s.link with txn := some ⟨kind, true, portByte2 s :: out.tail⟩ } }

/-- The transaction has ended after `clocked` bytes followed its operation byte: what it had to send
has been sent, zeros following it (R157, R160). -/
def endTxn (out : List Byte) (clocked : Nat) (s : State) : State :=
  { s with link := { s.link with txn := none, miso := s.link.miso ++ padTo clocked out } }

/-- A whole transaction that changes nothing: the first port state byte, `out` and zeros are sent. -/
def idleTxn (out : List Byte) (clocked : Nat) (s : State) : State :=
  { s with link := { s.link with csSample := none, miso := firstByte s :: padTo clocked out } }

/-! ### WRITE_MSG (R159) -/

/-- WRITE_MSG (R159): the operation byte 0x10 completes. A free slot is claimed; a full inbox latches
INBOX_OVERFLOW; in start-up and in reset the bytes are ignored (R170, R172). DESIGN CHOICE (log entry 35): a
WRITE_MSG that claims no slot is sent the second port state byte and then zeros, which R159 states for the
accepted case alone. -/
def execWriteMsg (s : State) : Host.Outcome State Fault Refusal :=
  if s.link.txn.isNone then
    if s.phase = .ready then
      if 0 < s.link.freeSlots then done (beginTxn (.write true) [] s)
      else done ((beginTxn (.write false) [] s).latch .inboxOverflow .nobody)
    else done (beginTxn (.write false) [] s)
  else noEvent s

/-- The message that a WRITE_MSG delivers: at most 1,024 bytes stored, all counted (R159). -/
def deliveredMsg (bytes : List Byte) : Msg := ⟨bytes.take Config.slotBytes, bytes.length⟩

/-- WRITE_MSG_END (R159): a claimed slot becomes a message at the tail of the inbox, or is released
when no byte followed the operation byte. -/
def execWriteMsgEnd (bytes : List Byte) (s : State) : Host.Outcome State Fault Refusal :=
  match s.link.txn with
  | some ⟨.write claimed, _, out⟩ =>
    let s := endTxn out bytes.length s
    done (if claimed = true ∧ bytes ≠ [] then
        { s with link := { s.link with inbox := s.link.inbox ++ [deliveredMsg bytes] } }
      else s)
  | _ => noEvent s

/-! ### READ_MSG (R160) -/

/-- The empty header: kind, tag and result 0, the summary flags as they stand, body length 0; all
zeros until the part is ready (R160, R172). -/
def emptyHeader (s : State) : List Byte :=
  [0, 0, 0] ++ be8 (if s.phase = .ready then flagBit s.status.fault 0 + flagBit s.status.notice 1
    else 0) ++ [0, 0]

/-- READ_MSG (R160): the operation byte 0x20 completes. The oldest response is selected; without one, in
start-up and in reset, the empty header is sent in its place (R172; in reset DESIGN CHOICE, log entry
35). -/
def execReadMsg (s : State) : Host.Outcome State Fault Refusal :=
  if s.link.txn.isNone then
    match s.phase, s.link.outbox with
    | .ready, r :: _ => done (beginTxn (.read true) (responseBytes r) s)
    | _, _ => done (beginTxn (.read false) (emptyHeader s) s)
  else noEvent s

/-- READ_MSG_END (R160): the selected response leaves the outbox if at least one byte of it was
clocked, the byte after the operation byte being the second port state byte. -/
def execReadMsgEnd (clocked : Nat) (s : State) : Host.Outcome State Fault Refusal :=
  match s.link.txn with
  | some ⟨.read selected, _, out⟩ =>
    let s := endTxn out clocked s
    done (if selected = true ∧ 2 ≤ clocked then
        { s with link := { s.link with outbox := s.link.outbox.tail } }
      else s)
  | _ => noEvent s

/-! ### READ_STATE and void operations (R157, R161) -/

/-- READ_STATE (R158, R161): the port state is read; nothing else changes. The first byte is sampled as
CS_N falls, which it cannot do while a transaction is open (log entry 26), and the second as its byte
begins. -/
def execReadState (what : PortRead) (s : State) : Host.Outcome State Fault Refusal :=
  match what, s.link.txn with
  | .firstByte, none => done (csFalls s)
  | .secondByte, some ⟨kind, false, out⟩ => done (secondByteBegins kind out s)
  | .whole n, none => done (idleTxn [portByte2 s] n s)
  | _, _ => noEvent s

/-- VOID_OPERATION (R157): the first port state byte and zeros are sent; nothing changes. An
operation byte that names an operation is not this command (R182). -/
def execVoidOperation (op : Byte) (clocked : Nat) (s : State) : Host.Outcome State Fault Refusal :=
  if s.link.txn.isNone ∧ linkCommand op clocked = .voidOperation op clocked then
    done (idleTxn [] clocked s)
  else noEvent s

/-! ### Resets and start-up (R170 to R172) -/

/-- The machine as a reset leaves it: every block at its reset value, start-up begun, the input levels
as the pins stand, the waiting commands kept (R170). -/
def afterReset (s : State) : State :=
  { State.reset with
    pending := s.pending
    sync := s.sync.map fun x => SyncInput.reset x.level
    lanes := ⟨Lane.reset (s.lane .A).rfReady, Lane.reset (s.lane .B).rfReady⟩ }

/-- PIN_RESET (R170): the part is held in reset; a transaction in progress is abandoned. While it is held,
a transaction is sent zeros and takes nothing in. The blocks are
brought to their reset values when the part leaves reset (log entry 9). -/
def execPinReset (s : State) : Host.Outcome State Fault Refusal :=
  done { s with phase := .inReset, link := { s.link with csSample := none, txn := none } }

/-- LEAVE_RESET (R170): every block holds its reset value and start-up begins. -/
def execLeaveReset (s : State) : Host.Outcome State Fault Refusal :=
  if s.phase = .inReset then done (afterReset s) else noEvent s

/-- START_UP_COMPLETION (R172): the part becomes ready. -/
def execStartUpCompletion (s : State) : Host.Outcome State Fault Refusal :=
  if s.phase = .startUp then done { s with phase := .ready } else noEvent s

/-! ### SITE_TIME_ADVANCE (R16, R18) -/

/-- SITE_TIME_ADVANCE (R16): site time rises by 1 modulo 2^32, and the boundaries of the new
millisecond are marked (R18; log entries 5 and 9). -/
def execSiteTimeAdvance (s : State) : Host.Outcome State Fault Refusal :=
  if s.phase = .inReset then noEvent s
  else
    let t := s.clock.time + 1
    done { s with clock := { time := t, due := ⟨isBoundary .A t, isBoundary .B t⟩ } }

end Sys2Proof.Machine
end

