-- ==== Sys2Proof/Machine/RosterRequests.lean ====
section
/-! DEFINITION. The requests on the Receiver Roster and its expiries (chapter 8): RX_ISSUE, RX_MOVE,
RX_RETURN, RX_LOOKUP, RX_LIST, RX_COUNTS, and the three deadline expiries. -/

namespace Sys2Proof.Machine

/-- The FREE records (R140, R156). -/
def State.freeRx (s : State) : Nat := 512 - s.roster.length

/-- The checks RX_ISSUE and RX_MOVE share: the auditorium is OPEN, the track exists, and the kind
suits it (R139, R141). -/
def withSuited (a : Aud) (t : Track) (k : RxKind) (s : State) (act : Answer) : Answer :=
  if s.isOpen a then
    match s.track? a t with
    | some w => if suits k w.kind then act else .error .kind
    | none => .error .noTrack
  else .error .notOpen

/-! ### RX_ISSUE (R139, R140) -/

/-- The record that an RX_ISSUE writes (R140). -/
def issuedRec (q : RxIssueReq) (i : RxIdx) (s : State) : RxRec :=
  { index := i, serial := q.serial, kind := q.kind, state := .issued, aud := q.aud,
    track := q.track, seat := q.seat, issuedAt := s.clock.time, heard := none, poor := false,
    unmatched := false, movedFrom := none, loss := none,
    joinDl := some (after s.clock.time (s.setting .joinWindow)), silenceDl := none, lossDl := none,
    marks := ⟨none, none⟩ }

/-- An accepted RX_ISSUE (R140, R138). -/
def doIssue (r : RxRec) (s : State) : State :=
  let before := s.listeners r.aud r.track
  let s := { s with roster := insertRx r s.roster }
  let s := s.countUp r.aud r.track
  let s := match s.laneOf? r.aud with
    | some l => s.rotAppend l r.index
    | none => s
  s.tellIfRisen r.aud r.track before

/-- RX_ISSUE after its form check. -/
def actRxIssue (q : RxIssueReq) (s : State) : Answer :=
  withSuited q.aud q.track q.kind s <|
    if (s.rxBySerial? q.serial).isSome then .error .duplicate
    else
      match s.lowestFreeRx with
      | none => .error .full
      | some i =>
        let r := issuedRec q i s
        let s := doIssue r s
        accept s (be16 i.val ++ [serialCheck q.serial]
          ++ be32 (after s.clock.time (s.setting .joinWindow)).toNat
          ++ be16 (s.listeners q.aud q.track) ++ be16 s.freeRx)

/-- RX_ISSUE. -/
def execRxIssue (s : State) : Host.Outcome State Fault Refusal :=
  takeRequest .rxIssue (withForm rxIssue? actRxIssue) s

/-! ### RX_MOVE (R141 to R143) -/

/-- The record a selector names, if it is in use (R141). -/
def State.rxNamed (s : State) : RxSel → Option RxRec
  | .index i => s.rx? i
  | .serial n => s.rxBySerial? n

/-- The record after an accepted RX_MOVE, its marks apart (R142). -/
def movedRec (q : RxMoveReq) (r : RxRec) (s : State) : RxRec :=
  { r with
    aud := q.aud, track := q.track, seat := if q.seat.isEmpty then r.seat else q.seat,
    state := .moving, unmatched := false, loss := none, movedFrom := some r.aud,
    joinDl := some (after s.clock.time (s.setting .joinWindow)) }

/-- Append a record to a lane's rotation with its mark for the lane absent (R143). -/
def placeInRotation (l : LaneId) (i : RxIdx) (s : State) : State :=
  let s := s.rotAppend l i
  match s.rx? i with
  | some r => s.putRx { r with marks := r.marks.put l none }
  | none => s

/-- The rotations after an accepted RX_MOVE from auditorium `from_` (R143). -/
def moveRotations (q : RxMoveReq) (i : RxIdx) (from_ : Aud) (s : State) : State :=
  let s := (s.rotRemove .A i).rotRemove .B i
  match s.laneOf? q.aud with
  | some l =>
    let s := placeInRotation l i s
    if s.openOn from_ l.other then placeInRotation l.other i s else s
  | none => s

/-- An accepted RX_MOVE (R142, R143). -/
def doMove (q : RxMoveReq) (r : RxRec) (s : State) : State :=
  let before := s.listeners q.aud q.track
  let s1 := s.unCount r
  let s2 := (s1.putRx (movedRec q r s)).countUp q.aud q.track
  let s3 := moveRotations q r.index r.aud s2
  s3.tellIfRisen q.aud q.track before

/-- RX_MOVE after its form check. -/
def actRxMove (q : RxMoveReq) (s : State) : Answer :=
  match s.rxNamed q.sel with
  | none => .error .noSuch
  | some r =>
    withSuited q.aud q.track r.kind s <|
      let s' := doMove q r s
      accept s' (be16 r.index.val ++ be8 r.aud.val ++ be8 r.track.val ++ be8 r.aud.val
        ++ be32 (after s.clock.time (s.setting .joinWindow)).toNat
        ++ optField 2 ((s'.track? r.aud r.track).map fun w => be16 w.listeners)
        ++ be16 (s'.listeners q.aud q.track)
        ++ be8 (flagBit (s'.inRotation .A r.index) 0 + flagBit (s'.inRotation .B r.index) 1))

/-- RX_MOVE. -/
def execRxMove (s : State) : Host.Outcome State Fault Refusal :=
  takeRequest .rxMove (withForm rxMove? actRxMove) s

/-! ### RX_RETURN (R144, R145) -/

/-- The lanes on which a return places RELEASE notices: the lane of the record's open auditorium, and,
for a MOVING record, the lane of its open moved-from auditorium (R145). -/
def releaseOn (s : State) (r : RxRec) (l : LaneId) : Bool :=
  s.openOn r.aud l
    || (r.state == .moving && (r.movedFrom.map fun a => s.openOn a l).getD false)

/-- Place, or do not place, a return's RELEASE notice on one lane (R145). -/
def releaseNotice (wanted : Bool) (r : RxRec) (l : LaneId) (s : State) : State × NoticeOutcome :=
  if wanted then s.addNotice l (.release r.index (serialCheck r.serial)) else (s, .notNeeded)

/-- RX_RETURN after its form check (R144). DESIGN CHOICE (log entry 34): of two RELEASE notices lane A's is
added first, so that NOTICE_DROPPED is recorded against lane B when both lists drop theirs (R145, R175). -/
def actRxReturn (sel : RxSel) (s : State) : Answer :=
  match s.rxNamed sel with
  | none => .error .noSuch
  | some r =>
    let onA := releaseOn s r .A
    let onB := releaseOn s r .B
    let s := s.unCount r
    let s := (s.rotRemove .A r.index).rotRemove .B r.index
    let (s, outA) := releaseNotice onA r .A s
    let (s, outB) := releaseNotice onB r .B s
    let s := { s with roster := s.roster.filter fun x => x.index != r.index }
    accept s (be16 r.index.val ++ be8 (rxStateCode r.state) ++ be24 r.serial
      ++ be8 (noticeOutcomeCode outA) ++ be8 (noticeOutcomeCode outB))

/-- RX_RETURN. -/
def execRxReturn (s : State) : Host.Outcome State Fault Refusal :=
  takeRequest .rxReturn (withForm rxNamed? actRxReturn) s

/-! ### Queries (R154 to R156) -/

/-- The 27-byte record entry of RX_LOOKUP and RX_LIST (R184). -/
def recordEntry (r : RxRec) : List Byte :=
  be16 r.index.val ++ be24 r.serial ++ be8 (rxKindCode r.kind) ++ be8 (rxStateCode r.state)
    ++ be8 r.aud.val ++ be8 r.track.val ++ be8 r.seat.length
    ++ (r.seat.take 6 ++ List.replicate (6 - r.seat.length) 0)
    ++ be8 (flagBit r.heard.isSome 0 + flagBit r.poor 1 + flagBit r.unmatched 2
        + flagBit r.movedFrom.isSome 3 + flagBit r.loss.isSome 4)
    ++ (match r.heard with
        | some h => be32 h.time.toNat ++ be8 (laneCode h.lane) ++ be8 h.battery ++ be8 h.link
            ++ be8 h.lag
        | none => List.replicate 8 0)
    ++ be8 ((r.movedFrom.map Fin.val).getD 0) ++ be8 ((r.loss.map lossCode).getD 0)

/-- The record entry of a FREE record: its index, and zeros (R184). -/
def freeEntry (i : Nat) : List Byte := be16 i ++ List.replicate 25 0

/-- A site time that may be absent, as four bytes. -/
def timeOr0 (t : Option SiteTime) : List Byte := be32 ((t.map BitVec.toNat).getD 0)

/-- A frame number that may be absent, as two bytes. -/
def markOr0 (m : Option FrameNo) : List Byte := be16 ((m.map BitVec.toNat).getD 0)

/-- The deadline that a record's state judges, with the code of its kind (R137, R154, R184). -/
def judgedDeadline (r : RxRec) : Nat × Option SiteTime :=
  match r.state with
  | .issued | .moving => (1, r.joinDl)
  | .joined => (2, r.silenceDl)
  | .silent => (3, r.lossDl)
  | .lost => (0, none)

/-- The body of an RX_LOOKUP of a record in use (R154, R184). -/
def lookupBytes (s : State) (r : RxRec) : List Byte :=
  let j := judgedDeadline r
  recordEntry r ++ be32 r.issuedAt.toNat
    ++ be8 (flagBit r.joinDl.isSome 0 + flagBit r.silenceDl.isSome 1 + flagBit r.lossDl.isSome 2
        + flagBit r.marks.a.isSome 3 + flagBit r.marks.b.isSome 4 + flagBit (s.counted r) 5
        + flagBit (s.inRotation .A r.index) 6 + flagBit (s.inRotation .B r.index) 7)
    ++ timeOr0 r.joinDl ++ timeOr0 r.silenceDl ++ timeOr0 r.lossDl ++ markOr0 r.marks.a
    ++ markOr0 r.marks.b ++ be8 (if j.2.isSome then j.1 else 0) ++ timeOr0 j.2

/-- RX_LOOKUP after its form check: by index a FREE record is answered too (R154). -/
def actRxLookup (sel : RxSel) (s : State) : Answer :=
  match s.rxNamed sel, sel with
  | some r, _ => accept s (lookupBytes s r)
  | none, .index i => accept s (freeEntry i.val ++ List.replicate 26 0)
  | none, .serial _ => .error .noSuch

/-- RX_LOOKUP. -/
def execRxLookup (s : State) : Host.Outcome State Fault Refusal :=
  takeRequest .rxLookup (withForm rxNamed? actRxLookup) s

/-- Whether the record at an index matches an RX_LIST's filters (R155). -/
def listMatches (q : RxListReq) : Option RxRec → Bool
  | some r =>
    (match q.state with
     | .any => true
     | .free => false
     | .inUse st => r.state == st)
      && (match q.aud with
          | some a => r.aud == a
          | none => true)
  | none => q.state == .free && q.aud.isNone

/-- The record entry at an index. -/
def entryAt (s : State) (i : RxIdx) : List Byte :=
  match s.rx? i with
  | some r => recordEntry r
  | none => freeEntry i.val

/-- RX_LIST after its form check: the first 32 matching records from the start index (R155). -/
def actRxList (q : RxListReq) (s : State) : Answer :=
  let found :=
    ((List.finRange 512).filter fun i => decide (q.start ≤ i.val) && listMatches q (s.rx? i)).take 32
  let next := match found.getLast? with
    | some i => if found.length = 32 ∧ i.val < 511 then i.val + 1 else 0xFFFF
    | none => 0xFFFF
  accept s (be8 found.length ++ be16 next ++ found.flatMap (entryAt s))

/-- RX_LIST. -/
def execRxList (s : State) : Host.Outcome State Fault Refusal :=
  takeRequest .rxList (withForm rxList? actRxList) s

/-- One auditorium's numbers in an RX_COUNTS (R156, R184). -/
def audCountsBytes (s : State) (a : Aud) : List Byte :=
  let bound := s.roster.filter fun r => r.aud == a
  let num (p : RxRec → Bool) : List Byte := be16 (bound.filter p).length
  num (fun r => r.state == .issued) ++ num (fun r => r.state == .joined)
    ++ num (fun r => r.state == .silent) ++ num (fun r => r.state == .lost)
    ++ num (fun r => r.state == .moving) ++ num (fun r => r.poor) ++ num (fun r => r.unmatched)

/-- RX_COUNTS after its form check (R156). -/
def actRxCounts (_ : Unit) (s : State) : Answer :=
  accept s (allAuds.flatMap (audCountsBytes s) ++ be16 s.freeRx)

/-- RX_COUNTS. -/
def execRxCounts (s : State) : Host.Outcome State Fault Refusal :=
  takeRequest .rxCounts (withForm noBody? actRxCounts) s

/-! ### Expiries (R147, R148) -/

/-- Whether a deadline is held and has been reached (R17). -/
def expired (s : State) (dl : Option SiteTime) : Bool :=
  match dl with
  | some d => s.phase != .inReset && reached s.clock.time d
  | none => false

/-- JOIN_DEADLINE_EXPIRY (R147): an ISSUED or MOVING record becomes LOST. -/
def execJoinDeadlineExpiry (i : RxIdx) (s : State) : Host.Outcome State Fault Refusal :=
  match s.rx? i with
  | some r =>
    if expired s r.joinDl then
      match r.state with
      | .issued => done (enterLost r .neverJoined s)
      | .moving => done (enterLost r .moveUnheard s)
      | .joined | .silent | .lost => noEvent s
    else noEvent s
  | none => noEvent s

/-- SILENCE_DEADLINE_EXPIRY (R147): a JOINED record becomes SILENT. -/
def execSilenceDeadlineExpiry (i : RxIdx) (s : State) : Host.Outcome State Fault Refusal :=
  match s.rx? i with
  | some r =>
    if r.state = .joined ∧ expired s r.silenceDl then done (s.putRx { r with state := .silent })
    else noEvent s
  | none => noEvent s

/-- LOSS_DEADLINE_EXPIRY (R147): a SILENT record becomes LOST. -/
def execLossDeadlineExpiry (i : RxIdx) (s : State) : Host.Outcome State Fault Refusal :=
  match s.rx? i with
  | some r =>
    if r.state = .silent ∧ expired s r.lossDl then done (enterLost r .silentTooLong s)
    else noEvent s
  | none => noEvent s

end Sys2Proof.Machine
end

