-- ==== Sys2Proof/Machine/SettingRequests.lean ====
section
/-! DEFINITION. Settings, identity, restart, and messages of no request kind (chapter 9): SET, GET,
IDENTIFY, RESTART, BAD_KIND. -/

namespace Sys2Proof.Machine

/-! ### SET and GET (R166 to R168) -/

/-- A setting's range (R166). A mask's range is the sets of the sixteen conditions. -/
def settingRange : Setting → Nat × Nat
  | .tLock => (1, 250)
  | .jumpConfirm => (1, 4)
  | .reportTimeout => (250, 10000)
  | .coastLimit => (1000, 60000)
  | .pairWindow => (20, 1000)
  | .captionLead => (100, 5000)
  | .descLeadBase => (0, 2000)
  | .segmentMax => (32, 1024)
  | .captionRepeat => (0, 1)
  | .retainMs => (0, 30000)
  | .repairFloor => (0, 1024)
  | .repairSegmentMax => (32, 1024)
  | .holdFrames => (0, 8)
  | .noticeRepeat => (1, 5)
  | .announceEvery => (1, 50)
  | .announceCap => (1, 16)
  | .silentAfter => (5000, 60000)
  | .lostAfter => (10000, 600000)
  | .joinWindow => (10000, 900000)
  | .lagWarn => (1, 255)
  | .audCueQuota => (16, 2048)
  | .poolLowMark => (0, 1024)
  | .faultMask => (0, 65535)
  | .noticeMask => (0, 65535)
  | .attnOnStatus => (0, 1)

/-- Whether a setting is a mask (R166). -/
def Setting.isMask : Setting → Bool
  | .faultMask | .noticeMask => true
  | _ => false

/-- A number brought into a range. -/
def clampTo (lo hi v : Nat) : Nat := if v < lo then lo else if hi < v then hi else v

/-- A value brought into a setting's range: a number is bounded, and a mask keeps the members that name
conditions, which are bits 0 to 15 (R167, R181). -/
def boundSetting (k : Setting) (v : Nat) : Nat :=
  if k.isMask then v % 65536 else clampTo (settingRange k).1 (settingRange k).2 v

/-- The value a SET puts in effect: bounded, and raised where its partner requires it (R167). -/
def effective (s : State) (k : Setting) (v : Nat) : Nat :=
  let b := boundSetting k v
  match k with
  | .coastLimit => max b (s.setting .reportTimeout)
  | .lostAfter => if b ≤ s.setting .silentAfter then s.setting .silentAfter + 1000 else b
  | _ => b

/-- A setting's partner (R167). -/
def partner : Setting → Option Setting
  | .reportTimeout => some .coastLimit
  | .coastLimit => some .reportTimeout
  | .silentAfter => some .lostAfter
  | .lostAfter => some .silentAfter
  | _ => none

/-- The partner raised by a new value that would push it out of line (R167). -/
def raisePartner (k : Setting) (v : Nat) (s : State) : State :=
  match k with
  | .reportTimeout => if s.setting .coastLimit < v then s.withSetting .coastLimit v else s
  | .silentAfter => if s.setting .lostAfter ≤ v then s.withSetting .lostAfter (v + 1000) else s
  | _ => s

/-- The number of a setting (R181). -/
def settingNumber (k : Setting) : Nat := (settingIdx k).val + 1

/-- SET after its form check (R167). -/
def actSet (q : Setting × Nat) (s : State) : Answer :=
  let k := q.1
  let old := s.setting k
  let v := effective s k q.2
  let s1 := s.withSetting k v
  let s2 := raisePartner k v s1
  let raised := match partner k with
    | some p => s2.setting p != s1.setting p
    | none => false
  let s3 := if k = .poolLowMark then s2.judgePool .nobody else s2
  .ok ⟨s3, be8 (settingNumber k) ++ be32 old ++ be32 v
    ++ (match partner k with
        | some p => be8 (settingNumber p) ++ be32 (s3.setting p)
        | none => be8 0 ++ be32 0), v != q.2 || raised⟩

/-- SET. -/
def execSetSetting (s : State) : Host.Outcome State Fault Refusal :=
  takeRequest .setSetting (withForm set? actSet) s

/-- A setting and its value (R168, R184). -/
def settingEntry (s : State) (k : Setting) : List Byte :=
  be8 (settingNumber k) ++ be32 (s.setting k)

/-- GET after its form check; no setting named is ALL (R168). -/
def actGet (q : Option Setting) (s : State) : Answer :=
  match q with
  | some k => accept s (settingEntry s k)
  | none => accept s (allSettings.flatMap (settingEntry s))

/-- GET. -/
def execGetSetting (s : State) : Host.Outcome State Fault Refusal :=
  takeRequest .getSetting (withForm get? actGet) s

/-! ### IDENTIFY (R169) -/

/-- IDENTIFY after its form check: part code, revision, auditoriums, roster records, cue records,
payload blocks. -/
def actIdentify (_ : Unit) (s : State) : Answer :=
  accept s (be16 2450 ++ be8 3 ++ be8 24 ++ be16 512 ++ be16 Config.cueSlots
    ++ be16 Config.payloadBlocks)

/-- IDENTIFY. -/
def execIdentify (s : State) : Host.Outcome State Fault Refusal :=
  takeRequest .identify (withForm noBody? actIdentify) s

/-! ### RESTART (R171) -/

/-- A RESTART of correct form: 4 bytes delivered, kind RESTART, body length 0 (R163). -/
def Msg.isRestart (m : Msg) : Bool :=
  m.delivered == 4 && rowOf m == .restart && m.bodyLength == 0

/-- The part enters reset and leaves it at once, keeping its settings (R171). -/
def restarted (s : State) : State := { afterReset s with settings := s.settings }

/-- RESTART (R171): one of correct form is taken even when the outbox is full and is answered by no
response; any other is refused with BAD_FORMAT. -/
def execRestart (s : State) : Host.Outcome State Fault Refusal :=
  match s.link.inbox with
  | m :: _ =>
    if s.phase = .ready ∧ m.isRestart = true then done (restarted s)
    else takeRequest .restart (fun _ _ => .error .badFormat) s
  | [] => noEvent s

/-! ### BAD_KIND (R164) -/

/-- BAD_KIND (R164, checks 1 and 2): a message shorter than its header is refused with BAD_FORMAT, one
of no request kind with BAD_KIND. -/
def execBadKind (s : State) : Host.Outcome State Fault Refusal :=
  match takeable .badKind s with
  | none => noEvent s
  | some (m, s1) => done (answer m s1 (.error (if m.delivered < 4 then .badFormat else .badKind)))

end Sys2Proof.Machine
end

