-- ==== Sys2Proof/Machine/Shows.lean ====
section
/-! DEFINITION. Shows and tracks (chapter 1): SHOW_OPEN, SHOW_CLOSE, SHOW_WINDOW. -/

namespace Sys2Proof.Machine

/-! ### SHOW_OPEN (R4 to R9) -/

/-- The Timeline of a new run (R6): the gate, if active, is recorded as in ACQUIRING (R37). -/
def openedTimeline (old : Timeline) (rate : Option Nat) (gate : Bool) : Timeline :=
  { state := .acquiring, anchor := none
    rate := match rate with
      | some r => clampRate r
      | none => 65536
    frozen := none, epoch := old.epoch + 1, strikes := 0, candidate := none, lastAccepted := none
    lastKind := none, gated := gate }

/-- Rewrite the unmatched flags of the records bound to an auditorium (R7). -/
def recountFlags (a : Aud) (s : State) : State :=
  { s with
    roster := s.roster.map fun r => if r.aud = a then { r with unmatched := !s.matched r } else r }

/-- The listener count of a track by the recount: its counted records (R7, R137). -/
def recountOf (s : State) (a : Aud) (t : Track) : Nat :=
  (s.roster.filter fun r => r.aud == a && r.track == t && s.counted r).length

/-- Set the listener counts of an opened auditorium's tracks (R7). -/
def recountTracks (a : Aud) (s : State) : State :=
  allTracks.foldl (fun s t => s.modTrack a t fun w => { w with listeners := recountOf s a t }) s

/-- Whether the lane comparison of R8 makes a record MOVING. -/
def movesAtOpen (l : LaneId) (r : RxRec) : Bool :=
  (r.state == .joined || r.state == .silent) && !r.unmatched
    && (match r.heard with
        | some h => h.lane != l
        | none => false)

/-- Re-place one record bound to the opened auditorium, by R8's table and its rotation rules. DESIGN CHOICE
(log entry 36): the record leaves the other lane's rotation also when it stood in the new lane's already and
was not appended. -/
def rePlaceOne (a : Aud) (l : LaneId) (s : State) (r0 : RxRec) : State :=
  let r := if movesAtOpen l r0 then
      { r0 with state := .moving, movedFrom := some a,
                joinDl := some (after s.clock.time (s.setting .joinWindow)) }
    else r0
  let s := s.putRx r
  if r.state = .lost then s
  else
    let s := if s.inRotation l r.index then s else s.rotAppend l r.index
    if r.state = .moving ∧ (r.movedFrom.map fun m => s.openOn m l.other).getD false = true then s
    else s.rotRemove l.other r.index

/-- Re-place the records bound to the opened auditorium, in ascending index order (R8). -/
def rePlace (a : Aud) (l : LaneId) (s : State) : State :=
  (s.roster.filter fun r => r.aud == a).foldl (rePlaceOne a l) s

/-- SHOW_OPEN after its form check. -/
def actShowOpen (q : ShowOpenReq) (s : State) : Answer :=
  if s.isOpen q.aud then .error .busy
  else
    let a := q.aud
    let s := { s with directory := vput s.directory a (some ⟨q.lane, q.tracks, 0⟩) }
    let s := s.withTimeline a (openedTimeline (s.timeline a) q.rate (s.syncIn a).gate)
    let s := s.withSync a { s.syncIn a with capture := none }
    let s := recountTracks a (recountFlags a s)
    let bound := s.roster.filter fun r => r.aud == a
    let unmatched := (bound.filter fun r => r.unmatched).length
    let moving := (bound.filter (movesAtOpen q.lane)).length
    let s := rePlace a q.lane s
    let counts := (allTracks.take q.tracks.length).flatMap fun t => be16 (s.listeners a t)
    .ok ⟨s, [(s.timeline a).epoch] ++ be32 (s.timeline a).rate ++ counts ++ be16 unmatched
      ++ be16 moving, rateClamped q.rate⟩

/-- SHOW_OPEN. -/
def execShowOpen (s : State) : Host.Outcome State Fault Refusal :=
  takeRequest .showOpen (withForm showOpen? actShowOpen) s

/-! ### SHOW_CLOSE (R13 to R15) -/

/-- A build in progress when an auditorium is closed places nothing further for it: one not yet stamped
gets no stamp, one stamped is positioned no longer (R14, R101). DESIGN CHOICE (log entry 30): an ANNOUNCE
already begun for a receiver of the auditorium is finished and placed all the same, as R153 gives. -/
def Build.closeAud (slotAud : Nat → Option Aud) (a : Aud) (b : Build) : Build :=
  let b := b.forgetAud slotAud a
  let b := { b with readings := b.readings.filter fun r => r.1 != a }
  match b.stage with
  | .stamps left => { b with stage := .stamps (left.filter (· != a)) }
  | _ => b

/-- Whether a notice is a WITHDRAW that names an auditorium (R14). -/
def Notice.withdraws (a : Aud) (n : Notice) : Bool :=
  match n.item with
  | .withdraw x _ _ => x == a
  | .release .. => false

/-- Clear a closed auditorium's traffic from its lane (R14). -/
def clearTraffic (a : Aud) (l : LaneId) (s : State) : State :=
  let slotAud (k : Nat) := (s.cueAt k).map Cue.aud
  let x := s.lane l
  s.withLane l
    (((x.modBuild (Build.closeAud slotAud a)).removeRepairs fun e => e.aud == a).removeNotices
      (Notice.withdraws a))

/-- SHOW_CLOSE after its form check. -/
def actShowClose (a : Aud) (s : State) : Answer :=
  match s.theShow? a with
  | none => .error .notOpen
  | some w =>
    let cues := (s.slotsOf a).filterMap s.cueAt
    let blocks := (cues.map fun c => c.blocks.length).sum
    let repairs := ((s.lane w.lane).repairs.filter fun e => e.aud == a).length
    let notices := ((s.lane w.lane).notices.filter (Notice.withdraws a)).length
    let s := clearTraffic a w.lane s
    let s := State.forCues (fun c s => s.freeCue c) (s.slotsOf a) s
    let s := { s with directory := vput s.directory a none }
    let s := s.withTimeline a { Timeline.reset with epoch := (s.timeline a).epoch }
    let s := s.withSync a { s.syncIn a with capture := none }
    let s := s.judgeTimelines a
    accept s (be16 cues.length ++ be16 blocks ++ be8 repairs ++ be8 notices)

/-- SHOW_CLOSE. -/
def execShowClose (s : State) : Host.Outcome State Fault Refusal :=
  takeRequest .showClose (withForm showClose? actShowClose) s

/-! ### SHOW_WINDOW (R11) -/

/-- Whether a track's show window admits a cue number (R11). -/
def TrackRec.admits (r : TrackRec) (num : Nat) : Bool := decide (r.base ≤ num ∧ num ≤ r.limit)

/-- SHOW_WINDOW after its form check. -/
def actShowWindow (q : ShowWindowReq) (s : State) : Answer :=
  if s.isOpen q.aud then
    match s.track? q.aud q.track with
    | none => .error .noTrack
    | some r =>
      accept (s.modTrack q.aud q.track fun r => { r with base := q.base, limit := q.limit })
        (be16 r.base ++ be16 r.limit ++ be16 q.base ++ be16 q.limit)
  else .error .notOpen

/-- SHOW_WINDOW. -/
def execShowWindow (s : State) : Host.Outcome State Fault Refusal :=
  takeRequest .showWindow (withForm showWindow? actShowWindow) s

end Sys2Proof.Machine
end

