-- ==== Sys2Proof/Machine/StatusRequests.lean ====
section
/-! DEFINITION. The Status Unit's requests (chapter 10): STATUS, STATUS_CLEAR, STATUS_FORCE,
COUNTERS. -/

namespace Sys2Proof.Machine

/-- Two flags as a byte, bit 0 fault and bit 1 notice (R184). -/
def twoFlags (fault notice : Bool) : Nat := flagBit fault 0 + flagBit notice 1

/-! ### STATUS (R177) -/

/-- The body of a STATUS, all as it stands at the taking (R177, R184). -/
def statusBytes (s : State) : List Byte :=
  be32 (condSet s currentConds) ++ be32 (condSet s latchedConds) ++ be32 (condSet s [.tlGlitch])
    ++ allConds.flatMap (fun c => be8 (condRecCode (s.cond c).who))
    ++ be8 (twoFlags (faultFlag s) (noticeFlag s))
    ++ be8 (twoFlags s.status.forcedFault s.status.forcedNotice)
    ++ be32 s.clock.time.toNat
    ++ allAuds.flatMap (fun a => be8 (tlStateCode (s.timeline a).state))
    ++ be8 (laneStateCode (s.lane .A).state) ++ be8 (laneStateCode (s.lane .B).state)

/-- STATUS after its form check: the capture of TL_GLITCH ends once it is reported. -/
def actStatus (_ : Unit) (s : State) : Answer := accept (s.clearCond .tlGlitch) (statusBytes s)

/-- STATUS. -/
def execStatus (s : State) : Host.Outcome State Fault Refusal :=
  takeRequest .status (withForm noBody? actStatus) s

/-! ### STATUS_CLEAR (R178) -/

/-- Every latched condition named in the set becomes clear, its record kept. -/
def clearLatched (mask : Nat) (s : State) : State :=
  latchedConds.foldl (fun s c => if inMask mask c then s.clearCond c else s) s

/-- STATUS_CLEAR after its form check: the clear set, and whether the counters are zeroed. -/
def actStatusClear (q : Nat × Bool) (s : State) : Answer :=
  let s' := clearLatched q.1 s
  let s' := if q.2 then s'.zeroCounters else s'
  accept s' (be32 (condSet s latchedConds) ++ be32 (condSet s' latchedConds) ++ be8 (flagBit q.2 0))

/-- STATUS_CLEAR. -/
def execStatusClear (s : State) : Host.Outcome State Fault Refusal :=
  takeRequest .statusClear (withForm statusClear? actStatusClear) s

/-! ### STATUS_FORCE (R179) -/

/-- A forced flag after its action. -/
def forceTo (f : Force) (old : Bool) : Bool :=
  match f with
  | .keep => old
  | .set => true
  | .clear => false

/-- STATUS_FORCE after its form check. -/
def actStatusForce (q : Force × Force) (s : State) : Answer :=
  let s := { s with
    status := { s.status with
      forcedFault := forceTo q.1 s.status.forcedFault
      forcedNotice := forceTo q.2 s.status.forcedNotice } }
  accept s (be8 (twoFlags s.status.forcedFault s.status.forcedNotice)
    ++ be8 (twoFlags (faultFlag s) (noticeFlag s)))

/-- STATUS_FORCE. -/
def execStatusForce (s : State) : Host.Outcome State Fault Refusal :=
  takeRequest .statusForce (withForm statusForce? actStatusForce) s

/-! ### COUNTERS (R180) -/

/-- The body of a COUNTERS: auditoriums 0 to 23, then lanes A and B, eight counters each (R180). -/
def countersBytes (s : State) : List Byte :=
  allAuds.flatMap (fun a => (s.audCounters.get a).toList.flatMap be16)
    ++ s.laneCounters.a.toList.flatMap be16 ++ s.laneCounters.b.toList.flatMap be16

/-- COUNTERS after its form check. -/
def actCounters (_ : Unit) (s : State) : Answer := accept s (countersBytes s)

/-- COUNTERS. -/
def execCounters (s : State) : Host.Outcome State Fault Refusal :=
  takeRequest .counters (withForm noBody? actCounters) s

end Sys2Proof.Machine
end

