-- ==== Sys2Proof/Machine/Timelines.lean ====
section
/-! DEFINITION. Sync lines, gates, position reports and their deadlines (chapter 2): SYNC_MODE,
TIMELINE_REPORT, ACTIVE_EDGE, GATE_ACTIVE, GATE_RELEASE, COAST_DEADLINE, TIMELINE_LOSS_DEADLINE. -/

namespace Sys2Proof.Machine

/-! ### Sync lines (R19 to R21) -/

/-- Whether a sensitivity is an edge mode (R19). -/
def Sens.isEdge : Sens → Bool
  | .rise | .fall => true
  | .noneMode | .gateHigh | .gateLow => false

/-- The level that means the booth is paused, in a gate mode (R19). -/
def Sens.gateLevel? : Sens → Option Bool
  | .gateHigh => some true
  | .gateLow => some false
  | .noneMode | .rise | .fall => none

/-- Whether a change to `level` is an active edge (R20). -/
def Sens.activeEdge (m : Sens) (level : Bool) : Bool :=
  match m with
  | .rise => level
  | .fall => !level
  | .noneMode | .gateHigh | .gateLow => false

/-- The gate state that a level gives under a sensitivity (R19, R22). -/
def gateOf (m : Sens) (level : Bool) : Bool := m.gateLevel? == some level

/-! ### Gates (R37, R39) -/

/-- The Timeline after its gate becomes active at site time t (R37). -/
def gatedTimeline (t : SiteTime) (x : Timeline) : Timeline :=
  match x.state with
  | .running | .coasting =>
    { x with state := .held, frozen := x.project t, anchor := none, strikes := 0,
             candidate := none, lastKind := none, gated := true }
  | .held => { x with lastKind := some .paused, gated := true }
  | .acquiring | .stopped | .lost => { x with lastKind := none, gated := true }
  | .inactive => x

/-- The Timeline after its gate is released at site time t (R39). -/
def releasedTimeline (t : SiteTime) (x : Timeline) : Timeline :=
  match x.state with
  | .held =>
    if x.lastKind = some .paused then { x with gated := false }
    else
      { x with state := .running, anchor := x.frozen.map fun p => ⟨t, p⟩, frozen := none,
               lastAccepted := some t, strikes := 0, gated := false }
  | .acquiring | .stopped | .lost => { x with gated := false }
  | .running | .coasting | .inactive => x

/-- The gate of an auditorium becomes active now: its Timeline acts if it is OPEN (R21, R37). -/
def gateBecomesActive (a : Aud) (s : State) : State :=
  if s.isOpen a then
    (s.withTimeline a (gatedTimeline s.clock.time (s.timeline a))).judgeTimelines a
  else s

/-- The gate of an auditorium is released now: its Timeline acts if it is OPEN (R21, R39). -/
def gateIsReleased (a : Aud) (s : State) : State :=
  if s.isOpen a then
    (s.withTimeline a (releasedTimeline s.clock.time (s.timeline a))).judgeTimelines a
  else s

/-- ACTIVE_EDGE (R20): the line, in NONE or an edge mode, changes to `level`. The level is recorded;
an active edge captures the site time, and overwriting a full slot of an open auditorium latches
EDGE_OVERRUN. In reset only the level is recorded. A line in a gate mode changes by GATE_ACTIVE and
GATE_RELEASE instead (log entry 6). -/
def execActiveEdge (a : Aud) (level : Bool) (s : State) : Host.Outcome State Fault Refusal :=
  let x := s.syncIn a
  if x.level = level then noEvent s
  else if s.phase = .inReset then done (s.withSync a { x with level := level })
  else if x.sens.gateLevel?.isSome then noEvent s
  else if x.sens.activeEdge level then
    let s' := s.withSync a { x with level := level, capture := some s.clock.time }
    done (if x.capture.isSome && s.isOpen a then s'.latch .edgeOverrun (.aud a) else s')
  else done (s.withSync a { x with level := level })

/-- GATE_ACTIVE (R21, R37): the line, in a gate mode and not at its gate level, moves to it. -/
def execGateActive (a : Aud) (s : State) : Host.Outcome State Fault Refusal :=
  let x := s.syncIn a
  match x.sens.gateLevel? with
  | none => noEvent s
  | some g =>
    if s.phase = .inReset ∨ x.level = g then noEvent s
    else done (gateBecomesActive a (s.withSync a { x with level := g, gate := true }))

/-- GATE_RELEASE (R21, R39): the line, in a gate mode and at its gate level, leaves it. -/
def execGateRelease (a : Aud) (s : State) : Host.Outcome State Fault Refusal :=
  let x := s.syncIn a
  match x.sens.gateLevel? with
  | none => noEvent s
  | some g =>
    if s.phase = .inReset ∨ x.level ≠ g then noEvent s
    else done (gateIsReleased a (s.withSync a { x with level := !g, gate := false }))

/-! ### SYNC_MODE (R22) -/

/-- SYNC_MODE after its form check: the four steps of R22, in order. -/
def actSyncMode (q : Aud × Sens) (s : State) : Answer :=
  let a := q.1
  let old := s.syncIn a
  let s := s.withSync a { old with capture := none }
  let s := if (s.timeline a).gated then gateIsReleased a s else s
  let gate := gateOf q.2 old.level
  let s := s.withSync a { s.syncIn a with sens := q.2, gate := gate }
  let s := if gate then gateBecomesActive a s else s
  accept s (be8 (sensCode old.sens) ++ be8 (sensCode q.2) ++ be8 (flagBit old.level 0)
    ++ be8 (tlStateCode (s.timeline a).state))

/-- SYNC_MODE. -/
def execSyncMode (s : State) : Host.Outcome State Fault Refusal :=
  takeRequest .syncMode (withForm syncMode? actSyncMode) s

/-! ### TIMELINE_REPORT (R27 to R38) -/

/-- What pairing gives (R29): the reference time, whether the report was paired, whether it counts as
unpaired. -/
structure Pairing where
  tRef : SiteTime
  paired : Bool
  counts : Bool
deriving DecidableEq, Repr

/-- Pair a PLAYING or PAUSED report taken at `now` (R29). In an edge mode the capture, fresh or not,
leaves the slot; in the other modes the slot is empty already. -/
def pairReport (x : SyncInput) (now : SiteTime) (window : Nat) : Pairing :=
  let unpaired : Pairing := ⟨now, false, x.sens != .noneMode⟩
  if x.sens.isEdge then
    match x.capture with
    | some t => if sdiff now t ≤ (window : Int) then ⟨t, true, false⟩ else unpaired
    | none => unpaired
  else unpaired

/-- What a report does to its Timeline: the Timeline, the outcome, the offset where a comparison was
made, and whether a strike was counted. -/
structure ReportEffect where
  tl : Timeline
  outcome : ReportOutcome
  offset : Option Int
  struck : Bool
deriving DecidableEq, Repr

/-- Within T_LOCK (R31, R34, R35, R38). -/
def within (e : Int) (tLock : Nat) : Bool := decide (e.natAbs ≤ tLock)

/-- The Timeline of a report that is, when `far`, also a jump: the epoch is incremented and the strike
count and candidate offset cleared (R33). -/
def jumpIf (far : Bool) (x : Timeline) : Timeline :=
  if far then { x with epoch := x.epoch + 1, strikes := 0, candidate := none } else x

/-- A PLAYING report in RUNNING or COASTING (R31, R32); `x` already has the report's kind, not its
rate. -/
def playingInMotion (tLock confirm : Nat) (tRef : SiteTime) (pos rate : Nat) (x : Timeline) :
    ReportEffect :=
  let e : Int := (pos : Int) - ((x.project tRef).getD 0 : Int)
  if within e tLock then
    { tl := { x with state := .running, anchor := some ⟨tRef, pos⟩, rate := rate, strikes := 0,
                     candidate := none }
      outcome := .snapped, offset := some e, struck := false }
  else
    let fresh : Bool := x.strikes == 0 || (match x.candidate with
      | some c => !within (e - c) tLock
      | none => true)
    let strikes := if fresh then 1 else x.strikes + 1
    let candidate := if fresh then some e else x.candidate
    if confirm ≤ strikes then
      { tl := jumpIf true
          { x with state := .running, anchor := some ⟨tRef, pos⟩, rate := rate }
        outcome := .jump, offset := some e, struck := true }
    else
      { tl := { x with strikes := strikes, candidate := candidate }
        outcome := .strike, offset := some e, struck := true }

/-- A PAUSED report in RUNNING or COASTING (R34). -/
def pausedInMotion (tLock : Nat) (tRef : SiteTime) (pos rate : Nat) (x : Timeline) : ReportEffect :=
  let e : Int := (pos : Int) - ((x.project tRef).getD 0 : Int)
  let far := !within e tLock
  { tl := jumpIf far
      { x with state := .held, frozen := some pos, anchor := none, rate := rate, strikes := 0 }
    outcome := if far then .jump else .held, offset := some e, struck := false }

/-- A PLAYING report in HELD: it resumes when ungated (R35) and refines the frozen position when gated
(R38). -/
def playingInHeld (tLock : Nat) (tRef : SiteTime) (pos rate : Nat) (x : Timeline) : ReportEffect :=
  let e : Int := (pos : Int) - (x.frozen.getD 0 : Int)
  let far := !within e tLock
  if x.gated then
    { tl := jumpIf far { x with frozen := some pos, rate := rate }
      outcome := if far then .jump else .gated, offset := some e, struck := false }
  else
    { tl := jumpIf far
        { x with state := .running, anchor := some ⟨tRef, pos⟩, frozen := none, rate := rate,
                 strikes := 0 }
      outcome := if far then .jump else .snapped, offset := some e, struck := false }

/-- A PAUSED report in HELD, gated or not (R35, R38). -/
def pausedInHeld (tLock : Nat) (pos rate : Nat) (x : Timeline) : ReportEffect :=
  let e : Int := (pos : Int) - (x.frozen.getD 0 : Int)
  let far := !within e tLock
  { tl := jumpIf far { x with frozen := some pos, rate := rate }
    outcome := if far then .jump else .held, offset := some e, struck := false }

/-- A PLAYING or PAUSED report in ACQUIRING, STOPPED or LOST: an acquisition (R30). -/
def acquire (playing : Bool) (tRef : SiteTime) (pos rate : Nat) (x : Timeline) : ReportEffect :=
  let x' := { x with rate := rate, strikes := 0, candidate := none, epoch := x.epoch + 1 }
  if playing ∧ x.gated = false then
    { tl := { x' with state := .running, anchor := some ⟨tRef, pos⟩ }
      outcome := .acquired, offset := none, struck := false }
  else
    { tl := { x' with state := .held, frozen := some pos }
      outcome := if playing then .gated else .held, offset := none, struck := false }

/-- A STOPPED report in any state but INACTIVE (R30, R36). -/
def stopReport (rate : Nat) (x : Timeline) : ReportEffect :=
  { tl := { x with state := .stopped, anchor := none, frozen := none, strikes := 0,
                   candidate := none, rate := rate }
    outcome := .stopped, offset := none, struck := false }

/-- How a report acts, by the Timeline's state and the report's kind (R30 to R38); `x` already has the
report's kind as its last report kind (R28). An INACTIVE Timeline belongs to a closed auditorium,
which takes no report. -/
def reportEffect (tLock confirm : Nat) (kind : ReportKind) (tRef : SiteTime) (pos rate : Nat)
    (x : Timeline) : ReportEffect :=
  match kind with
  | .stopped => stopReport rate x
  | .playing =>
    match x.state with
    | .running | .coasting => playingInMotion tLock confirm tRef pos rate x
    | .held => playingInHeld tLock tRef pos rate x
    | .acquiring | .stopped | .lost | .inactive => acquire true tRef pos rate x
  | .paused =>
    match x.state with
    | .running | .coasting => pausedInMotion tLock tRef pos rate x
    | .held => pausedInHeld tLock pos rate x
    | .acquiring | .stopped | .lost | .inactive => acquire false tRef pos rate x

/-- The last accepted report time after a report: its taking, except for a strike (R28). -/
def acceptReport (now : SiteTime) (e : ReportEffect) : Timeline :=
  if e.outcome = .strike then e.tl else { e.tl with lastAccepted := some now }

/-- A build in progress on a lane makes no further phase pass, launch test or placement for an auditorium
that jumps after the build has read it; its reading stands (R88, R124; log entry 14). -/
def forgetInBuild (a : Aud) (s : State) : State :=
  match s.laneOf? a with
  | some l =>
    let slotAud (k : Nat) := (s.cueAt k).map Cue.aud
    s.withLane l ((s.lane l).modBuild fun b =>
      if (b.readings.any fun r => r.1 == a) then
        { b.forgetAud slotAud a with jumped := a :: b.jumped }
      else b)
  | none => s

/-- The Repair Queue of the auditorium's lane removes every entry of the auditorium (R131). -/
def purgeRepairs (a : Aud) (s : State) : State :=
  match s.laneOf? a with
  | some l => s.withLane l ((s.lane l).removeRepairs fun e => e.aud == a)
  | none => s

/-- What a jump does outside the Timeline: latched, counted, and passed to the builder, the Cue Table
and the Repair Queue (R33, steps 3 to 5; R88). -/
def jumpEffects (a : Aud) (pos : Nat) (s : State) : State :=
  let s := (s.latch .tlJump (.aud a)).countAud a .jumps
  purgeRepairs a (jumpCues a pos (forgetInBuild a s))

/-- The flags byte of a TIMELINE_REPORT response (R184). -/
def reportBody (e : ReportEffect) (paired : Bool) (x : Timeline) : List Byte :=
  be8 (outcomeCode e.outcome) ++ be8 (flagBit paired 0 + flagBit x.gated 1)
    ++ optField 4 (e.offset.map fun d => be32 (BitVec.ofInt 32 d).toNat)
    ++ be8 x.strikes ++ be8 (tlStateCode x.state) ++ [x.epoch]

/-- TIMELINE_REPORT after its form check. -/
def actTimelineReport (q : ReportReq) (s : State) : Answer :=
  if s.isOpen q.aud then
    let a := q.aud
    let now := s.clock.time
    let pr : Pairing :=
      if q.kind = .stopped then ⟨now, false, false⟩
      else pairReport (s.syncIn a) now (s.setting .pairWindow)
    let x := { s.timeline a with lastKind := some q.kind }
    let rate := match q.rate with
      | some r => clampRate r
      | none => x.rate
    let e := reportEffect (s.setting .tLock) (s.setting .jumpConfirm) q.kind pr.tRef q.pos rate x
    let s := s.withSync a { s.syncIn a with capture := none }
    let s := if pr.counts then s.countAud a .unpaired else s
    let s := s.withTimeline a (acceptReport now e)
    let s := if e.struck then s.countAud a .strikes else s
    let s := if e.outcome = .strike then s.latch .tlGlitch (.aud a) else s
    let s := if e.outcome = .jump then jumpEffects a q.pos s else s
    let s := s.judgeTimelines a
    .ok ⟨s, reportBody e pr.paired (s.timeline a), rateClamped q.rate⟩
  else .error .notOpen

/-- TIMELINE_REPORT. -/
def execTimelineReport (s : State) : Host.Outcome State Fault Refusal :=
  takeRequest .timelineReport (withForm timelineReport? actTimelineReport) s

/-! ### Coasting and loss (R40, R41) -/

/-- Whether the deadline `ms` after the last accepted report has been reached (R17, R40). -/
def reportOverdue (s : State) (a : Aud) (ms : Nat) : Bool :=
  match (s.timeline a).lastAccepted with
  | some t => reached s.clock.time (after t ms)
  | none => false

/-- A Timeline that has become LOST (R41). -/
def lostTimeline (x : Timeline) : Timeline :=
  { x with state := .lost, anchor := none, strikes := 0, candidate := none }

/-- COAST_DEADLINE (R40): a RUNNING Timeline that has reached its coast deadline becomes COASTING, or
LOST when its loss deadline has been reached too. -/
def execCoastDeadline (a : Aud) (s : State) : Host.Outcome State Fault Refusal :=
  let x := s.timeline a
  if s.phase ≠ .inReset ∧ x.state = .running ∧ reportOverdue s a (s.setting .reportTimeout) then
    let x' := if reportOverdue s a (s.setting .coastLimit) then lostTimeline x
      else { x with state := .coasting }
    done ((s.withTimeline a x').judgeTimelines a)
  else noEvent s

/-- TIMELINE_LOSS_DEADLINE (R41): a COASTING Timeline that has reached its loss deadline becomes
LOST. -/
def execTimelineLossDeadline (a : Aud) (s : State) : Host.Outcome State Fault Refusal :=
  let x := s.timeline a
  if s.phase ≠ .inReset ∧ x.state = .coasting ∧ reportOverdue s a (s.setting .coastLimit) then
    done ((s.withTimeline a (lostTimeline x)).judgeTimelines a)
  else noEvent s

end Sys2Proof.Machine
end

