-- ==== Sys2Proof/Machine/Uplink.lean ====
section
/-! DEFINITION. The uplink (chapter 6): UPLINK_PURGE, CHECKIN and ASK. -/

namespace Sys2Proof.Machine

/-! ### UPLINK_PURGE (R112) -/

/-- UPLINK_PURGE (R112): a message whose verdict is BAD, or that is neither a CHECKIN nor an ASK in
form. Messages are discarded unless the part is ready (R111). -/
def execUplinkPurge (l : LaneId) (good : Bool) (msg : List Byte) (s : State) :
    Host.Outcome State Fault Refusal :=
  if s.phase = .ready ∧ isPurged good msg = true then
    done ((s.countLane l .uplinkBad).latch .uplinkBad (.lane l))
  else noEvent s

/-! ### CHECKIN (R114 to R117) -/

/-- A stray CHECKIN (R114). -/
def strayCheckin (l : LaneId) (m : CheckinMsg) (s : State) : State :=
  let s := (s.addNotice l (.release m.addr m.check)).1
  (s.latch .rxStray (.lane l)).countLane l .strays

/-- The lag of two cue numbers: their difference modulo 65,536, taken as 0 from 32,768 on, stored as at
most 255 (R117). -/
def lagBetween (lastDone lastCue : Nat) : Nat :=
  let d := (lastDone + 65536 - lastCue) % 65536
  if 32768 ≤ d then 0 else min d 255

/-- The lag that a CHECKIN assesses (R117). -/
def lagOf (s : State) (r : RxRec) (m : CheckinMsg) : Nat :=
  if m.aud = r.aud ∧ m.track = r.track ∧ m.epoch = (s.timeline r.aud).epoch then
    match (s.track? r.aud r.track).bind TrackRec.lastDone with
    | some d => lagBetween d m.lastCue
    | none => 0
  else 0

/-- The record after the fields of R115 are set at site time t. -/
def refreshed (s : State) (l : LaneId) (m : CheckinMsg) (r : RxRec) : RxRec :=
  let lag := lagOf s r m
  let t := s.clock.time
  { r with
    heard := some { time := t, lane := l, battery := m.battery, link := m.link, lag := lag }
    poor := decide (s.setting .lagWarn ≤ lag)
    silenceDl := some (after t (s.setting .silentAfter))
    lossDl := some (after t (s.setting .lostAfter)) }

/-- The record's state after a CHECKIN, with the fields that the move discards (R115, R116). -/
def checkedIn (m : CheckinMsg) (r : RxRec) : RxRec :=
  match r.state with
  | .issued => { r with state := .joined, joinDl := none }
  | .joined => r
  | .silent => { r with state := .joined }
  | .lost => { r with state := .joined, loss := none }
  | .moving =>
    if m.aud = r.aud ∧ m.track = r.track then
      { r with state := .joined, movedFrom := none, joinDl := none }
    else r

/-- The lane of a record's auditorium, or the arrival lane when it is closed (R116). -/
def laneOrArrival (s : State) (r : RxRec) (l : LaneId) : LaneId := (s.laneOf? r.aud).getD l

/-- A record that leaves LOST comes back into counting and announcement (R116). -/
def rejoin (l : LaneId) (r : RxRec) (s : State) : State :=
  let before := s.listeners r.aud r.track
  let s' := s.rotAppend (laneOrArrival s r l) r.index
  if s.matched r then (s'.countUp r.aud r.track).tellIfRisen r.aud r.track before else s'

/-- What a CHECKIN that is not a stray does to the record it names (R115 to R117). -/
def heardCheckin (l : LaneId) (m : CheckinMsg) (r : RxRec) (s : State) : State :=
  let r' := checkedIn m (refreshed s l m r)
  let s' := s.putRx r'
  match r.state with
  | .issued | .joined | .silent => s'
  | .lost => rejoin l r' s'
  | .moving =>
    if r'.state = .joined then s'.rotRemove (laneOrArrival s' r' l).other r.index else s'

/-- A CHECKIN is first tested for being a stray (R114). -/
def takeCheckin (l : LaneId) (m : CheckinMsg) (s : State) : State :=
  match s.rx? m.addr with
  | some r => if m.check = serialCheck r.serial then heardCheckin l m r s else strayCheckin l m s
  | none => strayCheckin l m s

/-- CHECKIN (R114 to R117). Messages are discarded unless the part is ready (R111). -/
def execCheckin (l : LaneId) (msg : List Byte) (s : State) : Host.Outcome State Fault Refusal :=
  match checkin? msg with
  | some m => if s.phase = .ready then done (takeCheckin l m s) else noEvent s
  | none => noEvent s

/-! ### ASK (R118, R119) -/

/-- Whether a record's state lets it ask (R118). -/
def mayAsk : RxState → Bool
  | .joined | .silent | .moving => true
  | .issued | .lost => false

/-- The validation of an ASK that arrived on a lane (R118). -/
def askValid (l : LaneId) (m : AskMsg) (s : State) : Bool :=
  match s.rx? m.addr with
  | some r =>
    mayAsk r.state && m.check == serialCheck r.serial && m.aud == r.aud && m.track == r.track
      && (s.track? m.aud m.track).isSome && s.openOn m.aud l
      && m.epoch == (s.timeline m.aud).epoch
  | none => false

/-- ASK (R118, R119): ignored and counted, or handed to the lane's Repair Queue with the lane's frame
number. Messages are discarded unless the part is ready (R111). -/
def execAsk (l : LaneId) (msg : List Byte) (s : State) : Host.Outcome State Fault Refusal :=
  match ask? msg with
  | some m =>
    if s.phase = .ready then
      done (if askValid l m s then takeAsk l m.aud m.track m.num (s.lane l).frameNo s
        else s.countLane l .asksIgnored)
    else noEvent s
  | none => noEvent s

end Sys2Proof.Machine
end

