-- ==== Sys2Proof/Machine/Dispatch.lean ====
section
/-! DEFINITION. The meaning of every command: one arm per constructor of Instr, in the table's order. -/

namespace Sys2Proof.Machine

def exec (i : Instr) (s : State) : Host.Outcome State Fault Refusal :=
  match i with
  | .showOpen => Sys2Proof.Machine.execShowOpen s
  | .showClose => Sys2Proof.Machine.execShowClose s
  | .showWindow => Sys2Proof.Machine.execShowWindow s
  | .syncMode => Sys2Proof.Machine.execSyncMode s
  | .timelineReport => Sys2Proof.Machine.execTimelineReport s
  | .cuePost => Sys2Proof.Machine.execCuePost s
  | .cueData => Sys2Proof.Machine.execCueData s
  | .cueRevise => Sys2Proof.Machine.execCueRevise s
  | .cueWithdraw => Sys2Proof.Machine.execCueWithdraw s
  | .cueQueryByCue => Sys2Proof.Machine.execCueQueryByCue s
  | .cueQueryByTrack => Sys2Proof.Machine.execCueQueryByTrack s
  | .rxIssue => Sys2Proof.Machine.execRxIssue s
  | .rxMove => Sys2Proof.Machine.execRxMove s
  | .rxReturn => Sys2Proof.Machine.execRxReturn s
  | .rxLookup => Sys2Proof.Machine.execRxLookup s
  | .rxList => Sys2Proof.Machine.execRxList s
  | .rxCounts => Sys2Proof.Machine.execRxCounts s
  | .laneStart => Sys2Proof.Machine.execLaneStart s
  | .laneStop => Sys2Proof.Machine.execLaneStop s
  | .setSetting => Sys2Proof.Machine.execSetSetting s
  | .getSetting => Sys2Proof.Machine.execGetSetting s
  | .status => Sys2Proof.Machine.execStatus s
  | .statusClear => Sys2Proof.Machine.execStatusClear s
  | .statusForce => Sys2Proof.Machine.execStatusForce s
  | .counters => Sys2Proof.Machine.execCounters s
  | .identify => Sys2Proof.Machine.execIdentify s
  | .restart => Sys2Proof.Machine.execRestart s
  | .badKind => Sys2Proof.Machine.execBadKind s
  | .writeMsg => Sys2Proof.Machine.execWriteMsg s
  | .writeMsgEnd bytes => Sys2Proof.Machine.execWriteMsgEnd bytes s
  | .readMsg => Sys2Proof.Machine.execReadMsg s
  | .readMsgEnd clocked => Sys2Proof.Machine.execReadMsgEnd clocked s
  | .readState what => Sys2Proof.Machine.execReadState what s
  | .voidOperation op clocked => Sys2Proof.Machine.execVoidOperation op clocked s
  | .pinReset => Sys2Proof.Machine.execPinReset s
  | .leaveReset => Sys2Proof.Machine.execLeaveReset s
  | .startUpCompletion => Sys2Proof.Machine.execStartUpCompletion s
  | .activeEdge a level => Sys2Proof.Machine.execActiveEdge a level s
  | .gateActive a => Sys2Proof.Machine.execGateActive a s
  | .gateRelease a => Sys2Proof.Machine.execGateRelease a s
  | .coastDeadline a => Sys2Proof.Machine.execCoastDeadline a s
  | .timelineLossDeadline a => Sys2Proof.Machine.execTimelineLossDeadline a s
  | .joinDeadlineExpiry k => Sys2Proof.Machine.execJoinDeadlineExpiry k s
  | .silenceDeadlineExpiry k => Sys2Proof.Machine.execSilenceDeadlineExpiry k s
  | .lossDeadlineExpiry k => Sys2Proof.Machine.execLossDeadlineExpiry k s
  | .laneBoundary l => Sys2Proof.Machine.execLaneBoundary l s
  | .buildComplete l => Sys2Proof.Machine.execBuildComplete l s
  | .sent l => Sys2Proof.Machine.execSent l s
  | .rfReadyRelease l => Sys2Proof.Machine.execRfReadyRelease l s
  | .rfReadyAssert l => Sys2Proof.Machine.execRfReadyAssert l s
  | .uplinkPurge l good msg => Sys2Proof.Machine.execUplinkPurge l good msg s
  | .checkin l msg => Sys2Proof.Machine.execCheckin l msg s
  | .ask l msg => Sys2Proof.Machine.execAsk l msg s
  | .siteTimeAdvance => Sys2Proof.Machine.execSiteTimeAdvance s
  | .buildProgress l => Sys2Proof.Machine.execBuildProgress l s

end Sys2Proof.Machine
end

