-- ==== Sys2Proof/Safety.lean ====
section
/-! DEFINITION. The terms in which claims about the part are stated: what a command leaves alone, what
an answered request shows, and what holds of every state the part can be in. -/

namespace Sys2Proof.Machine

/-! ### What a command leaves alone -/

/-- The parts of the state that a claim can say are unchanged. Together they are the whole state but for
the judged summary flags and ATTN_N, which `Judged` gives. -/
inductive Part where
  | queue | phase | clock
  | sync (a : Aud) | timeline (a : Aud) | show_ (a : Aud)
  | cues | freeBlocks | payload
  | lane (l : LaneId) | roster | setting (k : Setting)
  | inbox | outbox | txn | miso
  | cond (c : Cond) | forced
  | audCounter (a : Aud) (c : AudCounter) | laneCounter (l : LaneId) (c : LaneCounter)
deriving DecidableEq, Repr

/-- A part is the same in two states. -/
def Part.same (p : Part) (s t : State) : Prop :=
  match p with
  | .queue => t.pending = s.pending
  | .phase => t.phase = s.phase
  | .clock => t.clock = s.clock
  | .sync a => t.syncIn a = s.syncIn a
  | .timeline a => t.timeline a = s.timeline a
  | .show_ a => t.theShow? a = s.theShow? a
  | .cues => t.table.cues = s.table.cues
  | .freeBlocks => t.table.free = s.table.free
  | .payload => t.table.payload = s.table.payload
  | .lane l => t.lane l = s.lane l
  | .roster => t.roster = s.roster
  | .setting k => t.setting k = s.setting k
  | .inbox => t.link.inbox = s.link.inbox
  | .outbox => t.link.outbox = s.link.outbox
  | .txn => t.link.txn = s.link.txn ∧ t.link.csSample = s.link.csSample
  | .miso => t.link.miso = s.link.miso
  | .cond c => t.cond c = s.cond c
  | .forced =>
    t.status.forcedFault = s.status.forcedFault ∧ t.status.forcedNotice = s.status.forcedNotice
  | .audCounter a c => t.audCount a c = s.audCount a c
  | .laneCounter l c => t.laneCount l c = s.laneCount l c

/-- The summary flags and ATTN_N are what R176 and R165 make of the rest of the state. -/
def Judged (s : State) : Prop :=
  s.status.fault = faultFlag s ∧ s.status.notice = noticeFlag s ∧ s.status.attn = attnLine s

/-- From `s` to `t` nothing changes outside the named parts, and the summary flags and ATTN_N of `t`
are judged. -/
def ChangesOnly (ps : List Part) (s t : State) : Prop := (∀ p, p ∉ ps → p.same s t) ∧ Judged t

/-- The parts a phase pass or a walk on a lane can touch. -/
def walkParts (l : LaneId) : List Part :=
  [.lane l, .cues, .freeBlocks, .cond .cueLate, .cond .clipUnderrun, .cond .poolLow]
    ++ allAuds.flatMap fun a =>
        [.show_ a, .audCounter a .late, .audCounter a .lateDropped, .audCounter a .underruns]

/-! ### Requests -/

/-- The command that takes a request of a row. -/
def rowCommand : ReqRow → Instr
  | .showOpen => .showOpen
  | .showClose => .showClose
  | .showWindow => .showWindow
  | .syncMode => .syncMode
  | .timelineReport => .timelineReport
  | .cuePost => .cuePost
  | .cueData => .cueData
  | .cueRevise => .cueRevise
  | .cueWithdraw => .cueWithdraw
  | .cueQueryByCue => .cueQueryByCue
  | .cueQueryByTrack => .cueQueryByTrack
  | .rxIssue => .rxIssue
  | .rxMove => .rxMove
  | .rxReturn => .rxReturn
  | .rxLookup => .rxLookup
  | .rxList => .rxList
  | .rxCounts => .rxCounts
  | .laneStart => .laneStart
  | .laneStop => .laneStop
  | .setSetting => .setSetting
  | .getSetting => .getSetting
  | .status => .status
  | .statusClear => .statusClear
  | .statusForce => .statusForce
  | .counters => .counters
  | .identify => .identify
  | .restart => .restart
  | .badKind => .badKind

/-- The Request Engine is about to take message `m`, the oldest of the inbox, as a request of a row, and
its header passes (R163, R164). -/
def Taken (row : ReqRow) (m : Msg) (rest : List Msg) (s : State) : Prop :=
  s.phase = .ready ∧ s.link.inbox = m :: rest ∧ s.link.outbox.length < Config.linkSlots
    ∧ rowOf m = row ∧ m.lengthOk = true

/-- The message has left the inbox, and one response stands at the tail of the outbox: kind and tag
echoed, the summary flags as they stand in `t` (R163, R164). -/
def Responded (m : Msg) (rest : List Msg) (res : Result) (clamped : Bool) (body : List Byte)
    (s t : State) : Prop :=
  t.link.inbox = rest
    ∧ t.link.outbox = s.link.outbox ++
        [{ kind := m.bytes.getD 0 0, tag := m.bytes.getD 1 0, result := res,
           fault := t.status.fault, notice := t.status.notice, clamped := clamped, body := body }]

/-- A request message is refused: it is answered with the result, without a body, and nothing else changes
(R164). -/
def Refused (c : Instr) (m : Msg) (rest : List Msg) (res : Result) (s : State) : Prop :=
  ∃ t, exec c s = .next t ∧ Responded m rest res false [] s t ∧ ChangesOnly [.inbox, .outbox] s t

/-- The two checks that a request on a track begins with after its form: a CLOSED auditorium and a missing
track are refused, in that order (R52, R139). -/
def RefusedOffTrack (c : Instr) (m : Msg) (rest : List Msg) (a : Aud) (u : Track) (s : State) : Prop :=
  (s.isOpen a = false → Refused c m rest .notOpen s)
    ∧ (s.isOpen a = true → s.track? a u = none → Refused c m rest .noTrack s)

/-! ### Invariants -/

/-- The inbox, with a claimed slot, and the outbox hold at most 8; a message stores the first 1,024 of
the bytes its transaction delivered, which are at least one (R159, R162). -/
def LinkOk (s : State) : Prop :=
  s.link.inbox.length + (if s.link.claimed then 1 else 0) ≤ Config.linkSlots
    ∧ s.link.outbox.length ≤ Config.linkSlots
    ∧ ∀ m ∈ s.link.inbox, m.bytes.length = min m.delivered Config.slotBytes ∧ 0 < m.delivered

/-- Every setting lies in its range, COAST_LIMIT is not below REPORT_TIMEOUT, and LOST_AFTER is above
SILENT_AFTER (R166, R167). -/
def SettingsOk (s : State) : Prop :=
  (∀ k, (settingRange k).1 ≤ s.setting k ∧ s.setting k ≤ (settingRange k).2)
    ∧ s.setting .reportTimeout ≤ s.setting .coastLimit
    ∧ s.setting .silentAfter < s.setting .lostAfter

/-- A buffer that waits for the air: BUILDING or READY. -/
def Buffer.isUnaired (b : Buffer) : Bool := b.isBuilding || b.isReady

/-- At most one buffer of a lane is ON_AIR and at most one is BUILDING or READY; the Frame Builder has a
build exactly while its buffer is BUILDING; only a RUNNING lane has a buffer that is BUILDING or READY;
the missed-completion count is at most 3, and below 3 while the lane is RUNNING (R90, R91, R96, R97). -/
def Lane.ok (x : Lane) : Prop :=
  ¬(x.buf0.isOnAir = true ∧ x.buf1.isOnAir = true)
    ∧ ¬(x.buf0.isUnaired = true ∧ x.buf1.isUnaired = true)
    ∧ (match x.build with
       | some b => (x.buf b.buf).isBuilding = true
       | none => x.buf0.isBuilding = false ∧ x.buf1.isBuilding = false)
    ∧ (x.state ≠ .running → x.buf0.isUnaired = false ∧ x.buf1.isUnaired = false)
    ∧ x.missed ≤ 3 ∧ (x.state = .running → x.missed < 3)

/-- Both lanes' buffers and builds are as R96 and R97 allow. -/
def LanesOk (s : State) : Prop := ∀ l, (s.lane l).ok

/-- A lane's Notice List holds at most 32 notices, no two of them equal in kind and fields; its Repair
Queue at most 32 entries, no two for one cue; its Announcement Rotation no record twice (R108, R120,
R151). -/
def Lane.listsOk (x : Lane) : Prop :=
  x.notices.length ≤ Config.noticeSlots ∧ (x.notices.map Notice.item).Nodup
    ∧ x.repairs.length ≤ Config.repairSlots
    ∧ (x.repairs.map fun e => (e.aud, e.track, e.num)).Nodup
    ∧ x.rotation.Nodup

/-- Both lanes' lists are within their bounds. -/
def ListsOk (s : State) : Prop := ∀ l, (s.lane l).listsOk

/-- Every entry of a lane's Repair Queue names an auditorium open on that lane, and a CONTENT entry a cue
in the table that is SENT, with that cue's revision (R120, R121). -/
def RepairsOk (s : State) : Prop :=
  ∀ l, ∀ e ∈ (s.lane l).repairs, s.openOn e.aud l = true
    ∧ (e.kind = .content → ∃ c ∈ s.table.cues, c.aud = e.aud ∧ c.track = e.track ∧ c.num = e.num
        ∧ c.delivery = .sent ∧ e.rev = some c.rev)

/-- A Timeline has an anchor just when RUNNING or COASTING and a frozen position just when HELD, its
positions are at most 16,777,215, its rate is in 57,344 to 73,728, and it is gated only in ACQUIRING,
HELD, STOPPED or LOST (R23, R24, R26, R37). -/
def Timeline.ok (x : Timeline) : Prop :=
  (x.anchor.isSome = true ↔ x.state = .running ∨ x.state = .coasting)
    ∧ (x.frozen.isSome = true ↔ x.state = .held)
    ∧ (∀ p, x.anchor = some p → p.pos ≤ Config.maxPosition)
    ∧ (∀ p, x.frozen = some p → p ≤ Config.maxPosition)
    ∧ rateMin ≤ x.rate ∧ x.rate ≤ rateMax
    ∧ (x.gated = true → x.state = .acquiring ∨ x.state = .held ∨ x.state = .stopped ∨ x.state = .lost)

/-- Every Timeline has the shape of its state, and it is INACTIVE just when its auditorium is CLOSED. -/
def TimelinesOk (s : State) : Prop :=
  ∀ a, (s.timeline a).ok ∧ ((s.timeline a).state = .inactive ↔ s.isOpen a = false)

/-- Every counter is at most 65,535 (R180). -/
def CountersOk (s : State) : Prop :=
  (∀ a c, s.audCount a c ≤ 65535) ∧ ∀ l c, s.laneCount l c ≤ 65535

/-- The roster lists its records in use in index order, each index once, and no serial twice (R135). -/
def RosterOk (s : State) : Prop :=
  (s.roster.map fun r => r.index.val).Pairwise (· < ·) ∧ (s.roster.map RxRec.serial).Nodup

/-- A record of an open auditorium is flagged unmatched just when its track does not exist or does not
suit its kind, and a track's listener count is the number of its counted records (R7, R137, R138). -/
def ListenersOk (s : State) : Prop :=
  (∀ r ∈ s.roster, s.isOpen r.aud = true → r.unmatched = !s.matched r)
    ∧ ∀ a t w, s.track? a t = some w →
        w.listeners
          = (s.roster.filter fun r => r.aud == a && r.track == t && s.counted r).length

/-- Each current condition is set exactly while the state it follows holds (R42, R51, R91, R174). -/
def ConditionsFollow (s : State) : Prop :=
  ((s.cond .tlCoast).on = true ↔ ∃ a, s.isOpen a = true ∧ (s.timeline a).state = .coasting)
    ∧ ((s.cond .tlLost).on = true ↔ ∃ a, s.isOpen a = true ∧ (s.timeline a).state = .lost)
    ∧ ((s.cond .laneFault).on = true ↔ ∃ l, (s.lane l).state = .fault)
    ∧ ((s.cond .poolLow).on = true ↔ s.table.free.length < s.setting .poolLowMark)

/-- The cue records stand in slot order with slots below 2,048; a cue holds as many blocks as its declared
length needs, and its fill mark is within that length; a track's lineup names exactly its cues, each
once; an open auditorium's cue count is the sum of its lineups' lengths; every payload block stands in
the free-block list or in one cue's block list, once (R12, R45, R46, R48, R50). -/
def CueTableOk (s : State) : Prop :=
  (s.table.cues.map Cue.slot).Pairwise (· < ·)
    ∧ (∀ c ∈ s.table.cues,
        c.slot < Config.cueSlots ∧ c.blocks.length = blocksFor c.declared ∧ c.fill ≤ c.declared)
    ∧ (∀ a t, (s.lineup a t).Nodup)
    ∧ (∀ a t k, k ∈ s.lineup a t ↔ ∃ c ∈ s.table.cues, c.slot = k ∧ c.aud = a ∧ c.track = t)
    ∧ (∀ a w, s.theShow? a = some w → w.cueCount = (w.tracks.map fun r => r.lineup.length).sum)
    ∧ (s.table.free ++ s.table.cues.flatMap Cue.blocks).Perm (List.range Config.payloadBlocks)

/-- A track holds a cue number once, its lineup stands in rising order of in-point and then cue number,
and a cue's send offset is within its fill mark (R46, R48). -/
def LineupsOk (s : State) : Prop :=
  (s.table.cues.map fun c => (c.aud, c.track, c.num)).Nodup
    ∧ (∀ a t, (s.lineup a t).Pairwise fun x y => keyLt (s.lineupKey x) (s.lineupKey y) = true)
    ∧ ∀ c ∈ s.table.cues, c.off ≤ c.fill

/-! ### What several commands do -/

/-- Of an auditorium's show only one track's lineup changes, and with it the cue count (R12, R48). -/
def LineupOnly (a : Aud) (u : Track) (s t : State) : Prop :=
  t.laneOf? a = s.laneOf? a
    ∧ ∀ v, t.track? a v = (s.track? a v).map fun w =>
        if v = u then { w with lineup := t.lineup a u } else w

/-- Of every show only the listener counts of the named tracks change (R138). -/
def ListenersOnly (places : List (Aud × Track)) (s t : State) : Prop :=
  ∀ a, t.laneOf? a = s.laneOf? a ∧ t.cueCount a = s.cueCount a
    ∧ ∀ v, t.track? a v = (s.track? a v).map fun w =>
        if (a, v) ∈ places then { w with listeners := t.listeners a v } else w

/-- A stage of the build order with the tracks, the cues and the offers that do not pass left out. -/
def stageKeeps (walks : Aud × Track → Bool) (reaches : Nat → Bool) (offers : Offer → Bool)
    (st : Stage) : Stage :=
  match st with
  | .walk work slots os => .walk (work.filter walks) (slots.filter reaches) (os.filter offers)
  | .reserve os => .reserve (os.filter offers)
  | .content os allowance kept => .content (os.filter offers) allowance kept
  | st => st

/-- What is left of a stage once cues have gone from the table between two states and, where `out` says so,
nothing more is to be done for an auditorium: its tracks and cues are not walked and its offers lapse; a cue
that has gone is neither walked nor offered (R14, R69, R88). -/
def stageLeft (a : Aud) (out : Bool) (s t : State) : Stage → Stage :=
  let gone (k : Nat) : Bool := (s.cueAt k).isSome && (t.cueAt k).isNone
  stageKeeps (fun w => !(out && w.1 == a))
    (fun k => !gone k && !(out && (s.cueAt k).map Cue.aud == some a))
    (fun o => !gone o.slot && !(out && o.aud == a))

/-- A lane whose Repair Queue has lost the entries that `p` names: the others keep their order, and step 7 of
a build keeps its place among them (R120, R133; log entry 19). -/
def lessRepairs (p : Repair → Bool) (x : Lane) : Lane :=
  { x with
    repairs := x.repairs.filter fun e => !p e
    build := x.build.map fun b => { b with
      stage := match b.stage with
        | .repairs passed room =>
          .repairs ((x.repairs.take passed).filter fun e => !p e).length room
        | st => st } }

/-- What a jump of an auditorium open on lane `l` to position `pos` does outside its Timeline: TL_JUMP is
latched and the jump counted; each cue ahead is relaunched, each other is retired at its retire mark or
else RETAINED, a WAITING or SENDING one SENT and no longer to be relaunched; the lane's Repair Queue loses
every entry of the auditorium and keeps the others in order; a build in progress that has read the
auditorium's Timeline has nothing left to walk or offer for it and bars it from the rest of its steps; one
that has not read it yet loses the retired cues alone; nothing else of the lane changes (R33, R69, R83, R84,
R88, R131; log entries 14 and 19). -/
def JumpTold (a : Aud) (l : LaneId) (pos : Nat) (s t : State) : Prop :=
  t.cond .tlJump = ⟨true, .aud a⟩
    ∧ t.audCount a .jumps = bump (s.audCount a .jumps)
    ∧ (∀ c ∈ s.table.cues,
        (c.aud ≠ a → t.cueAt c.slot = some c)
        ∧ (c.aud = a → pos < c.outP →
            t.cueAt c.slot = some { c with
              delivery := .waiting, off := 0, phase := .ahead, relaunch := true, late := false,
              underrun := false, repeatDue := false })
        ∧ (c.aud = a → c.outP ≤ pos → retireMark s c ≤ pos → t.cueAt c.slot = none)
        ∧ (c.aud = a → c.outP ≤ pos → pos < retireMark s c →
            t.cueAt c.slot = some { c with
              delivery := .sent, phase := .retained, repeatDue := false
              relaunch := if c.delivery = .sent then c.relaunch else false }))
    ∧ let x := lessRepairs (fun e => e.aud == a) (s.lane l)
      t.lane l = { x with
        build := x.build.map fun b =>
          let read : Bool := b.readings.any fun y => y.1 == a
          { b with
            jumped := if read then a :: b.jumped else b.jumped
            stage := stageLeft a read s t b.stage } }

/-- A cue that was passed over unattended: air count 0, AHEAD, SENT (R68). -/
def passedOver (a : Aud) (u : Track) (c : Cue) : Bool :=
  c.aud == a && c.track == u && c.air == 0 && c.phase == .ahead && c.delivery == .sent

/-- A lane whose Repair Queue has lost the CONTENT entries for the cues of a track that were passed over
unattended (R130). -/
def lessPassedOver (a : Aud) (u : Track) (s : State) : Lane → Lane :=
  lessRepairs fun e => e.kind == .content && s.table.cues.any fun c =>
    passedOver a u c && e.aud == c.aud && e.track == c.track && e.num == c.num

/-- The cues of a track of an auditorium open on lane `l` that were passed over unattended wait again with
send offset 0, no other cue changes, and of the lane's repair entries just the CONTENT ones for those cues are
gone; the others keep their order, and a build its place among them (R68, R120, R130). -/
def ReWaited (a : Aud) (u : Track) (l : LaneId) (s t : State) : Prop :=
  t.table.cues = s.table.cues.map (fun c =>
      if passedOver a u c then { c with delivery := .waiting, off := 0 } else c)
    ∧ (t.lane l).repairs = (lessPassedOver a u s (s.lane l)).repairs
    ∧ (t.lane l).build = (lessPassedOver a u s (s.lane l)).build

end Sys2Proof.Machine
end

