-- ==== Sys2Proof/Certificates/Slice0/Obligations.lean ====
section
/-! DEFINITION. The statements about the part that the provers settle. -/

open Sys2Proof Sys2Proof.Machine

/-! ### The whole machine -/

/-- A step takes the command at the front of the queue and runs it on the state with the queue's rest;
on an empty queue nothing changes. The model's own queue (log entry 1). -/
def Obligations.StepRunsTheFrontCommand : Prop :=
  (∀ c rest s, s.pending = c :: rest → step s = exec c { s with pending := rest })
    ∧ ∀ s, s.pending = [] → step s = .next s

/-- Every command has a next state in every state, and leaves the queue of waiting commands alone (log
entries 1 and 2). -/
def Obligations.EveryCommandAnswersAndKeepsTheQueue : Prop :=
  ∀ c s, ∃ t, exec c s = .next t ∧ t.pending = s.pending

/-- The state after a reset meets every invariant below, those of the lineups, the listener counts and the
Repair Queues among them. The levels of the input pins in it are the
model's (log entries 6 and 7). -/
def Obligations.ResetMeetsTheInvariants : Prop :=
  Judged State.reset ∧ LinkOk State.reset ∧ SettingsOk State.reset ∧ LanesOk State.reset
    ∧ ListsOk State.reset ∧ TimelinesOk State.reset ∧ CountersOk State.reset ∧ RosterOk State.reset
    ∧ CueTableOk State.reset ∧ LineupsOk State.reset ∧ ListenersOk State.reset
    ∧ RepairsOk State.reset ∧ ConditionsFollow State.reset ∧ Memory.wf State.reset.table.payload = true

/-- Every step leaves the summary flags and ATTN_N as R176 and R165 make them of the conditions, masks,
forced flags, outbox and phase. -/
def Obligations.SummaryFlagsAreAlwaysJudged : Prop :=
  ∀ s t, Judged s → step s = .next t → Judged t

/-- Every step keeps the inbox and the outbox within their slots. -/
def Obligations.LinkStaysWithinItsSlots : Prop :=
  ∀ s t, LinkOk s → step s = .next t → LinkOk t

/-- Every step keeps every setting in its range and in line with its partner. -/
def Obligations.SettingsStayInRange : Prop :=
  ∀ s t, SettingsOk s → step s = .next t → SettingsOk t

/-- Every step keeps the frame buffers of both lanes as R96 allows. -/
def Obligations.LaneBuffersStayExclusive : Prop :=
  ∀ s t, LanesOk s → step s = .next t → LanesOk t

/-- Every step keeps the Notice Lists, Repair Queues and Announcement Rotations bounded and without
repeats (R108, R120, R151). While the Cue Table is in accord, every step also keeps each repair entry for an
auditorium open on its lane, and each CONTENT entry for a SENT cue at that cue's revision (R120, R121). -/
def Obligations.ListsStayBounded : Prop :=
  (∀ s t, ListsOk s → step s = .next t → ListsOk t)
    ∧ ∀ s t, CueTableOk s → LineupsOk s → RepairsOk s → step s = .next t → RepairsOk t

/-- Every step keeps every Timeline in the shape of its state. -/
def Obligations.TimelinesKeepTheirShape : Prop :=
  ∀ s t, TimelinesOk s → step s = .next t → TimelinesOk t

/-- Every step keeps every counter within 16 bits. -/
def Obligations.CountersStaySixteenBits : Prop :=
  ∀ s t, CountersOk s → step s = .next t → CountersOk t

/-- Every step keeps the roster in index order with no serial twice (R135), and then also keeps the
unmatched flags of an open auditorium's records true and every listener count equal to the number of its
track's counted records (R7, R137, R138). -/
def Obligations.RosterStaysDistinct : Prop :=
  (∀ s t, RosterOk s → step s = .next t → RosterOk t)
    ∧ ∀ s t, RosterOk s → ListenersOk s → step s = .next t → ListenersOk t

/-- Every step keeps the cue records, the lineups, the cue counts and the payload blocks in accord: no
block is lost and none is held twice (R12, R45, R46, R48, R50). It then also keeps each cue number once in
its track, each lineup in order of in-point and cue number, and each send offset within its fill mark (R46,
R48). -/
def Obligations.CueTableStaysConsistent : Prop :=
  (∀ s t, CueTableOk s → step s = .next t → CueTableOk t)
    ∧ ∀ s t, CueTableOk s → LineupsOk s → step s = .next t → LineupsOk t

/-- Every step keeps each current condition set exactly while the state it follows holds. The settings'
own invariant is a premise, because a RESTART keeps POOL_LOW_MARK. -/
def Obligations.CurrentConditionsFollowTheState : Prop :=
  ∀ s t, SettingsOk s → ConditionsFollow s → step s = .next t → ConditionsFollow t

/-- Every step keeps the payload store in its canonical form (log entry 12). -/
def Obligations.PayloadStoreStaysCanonical : Prop :=
  ∀ s t, Memory.wf s.table.payload = true → step s = .next t → Memory.wf t.table.payload = true

/-- The epoch of a Timeline changes only where R23 says: by 1 at a SHOW_OPEN or a TIMELINE_REPORT, and to
0 at a reset. -/
def Obligations.EpochChangesOnlyAtOpensAndReports : Prop :=
  ∀ c s t a, exec c s = .next t → (t.timeline a).epoch ≠ (s.timeline a).epoch →
    ((c = .showOpen ∨ c = .timelineReport) ∧ (t.timeline a).epoch = (s.timeline a).epoch + 1)
      ∨ ((c = .leaveReset ∨ c = .restart) ∧ (t.timeline a).epoch = 0)

/-- The forced flags change only by a STATUS_FORCE or a reset (R179), and a setting only by a SET or by
the end of a pin reset (R166). -/
def Obligations.ForcedFlagsAndSettingsKeep : Prop :=
  ∀ c s t, exec c s = .next t →
    (c ≠ .statusForce → c ≠ .leaveReset → c ≠ .restart →
      t.status.forcedFault = s.status.forcedFault ∧ t.status.forcedNotice = s.status.forcedNotice)
    ∧ (c ≠ .setSetting → c ≠ .leaveReset → ∀ k, t.setting k = s.setting k)

/-- The lane of an open auditorium stays the one given at its SHOW_OPEN until it is closed by a
SHOW_CLOSE or a reset (R10); a lane leaves FAULT only by a LANE_STOP or a reset (R91). -/
def Obligations.ShowKeepsItsLaneAndFaultsLast : Prop :=
  ∀ c s t, exec c s = .next t → c ≠ .leaveReset → c ≠ .restart →
    (∀ a l, s.laneOf? a = some l → t.laneOf? a = some l ∨ (c = .showClose ∧ t.laneOf? a = none))
    ∧ ∀ l, (s.lane l).state = .fault →
      (t.lane l).state = .fault ∨ (c = .laneStop ∧ (t.lane l).state = .stopped)

/-! ### The Request Engine (chapter 9) -/

/-- A request that is answered with anything but OK changes nothing beyond its own message and its
response, and the response has no body (R164). -/
def Obligations.RefusedRequestChangesNothing : Prop :=
  ∀ row s t r, exec (rowCommand row) s = .next t → t.link.outbox = s.link.outbox ++ [r] →
    r.result ≠ .ok → r.body = [] ∧ ChangesOnly [.inbox, .outbox] s t

/-- While the outbox is full, or the part is not ready, no message is taken: no request but a RESTART
of correct form changes anything (R163, R172). -/
def Obligations.EngineWaitsForTheOutbox : Prop :=
  ∀ row s,
    Config.linkSlots ≤ s.link.outbox.length ∨ s.phase ≠ .ready →
    (∀ m rest, s.link.inbox = m :: rest → s.phase = .ready → m.isRestart = false) →
    exec (rowCommand row) s = .next s

/-- A message shorter than its header is answered with BAD_FORMAT, one of no request kind with BAD_KIND,
and one of a request kind whose length is not what its header says with BAD_FORMAT; nothing else changes
(R164, checks 1 to 3). -/
def Obligations.BadHeadersAreRefused : Prop :=
  ∀ row m rest s, s.phase = .ready → s.link.inbox = m :: rest →
    s.link.outbox.length < Config.linkSlots → rowOf m = row → row = .badKind ∨ m.lengthOk = false →
    ∃ t, exec (rowCommand row) s = .next t ∧ ChangesOnly [.inbox, .outbox] s t
      ∧ Responded m rest (if row = .badKind ∧ 4 ≤ m.delivered then .badKind else .badFormat) false
          [] s t

/-- An IDENTIFY without a body is answered with part code 2450, revision 3, 24 auditoriums, 512 roster
records, 2,048 cue records and 1,024 payload blocks, and changes nothing; one with a body is refused
with BAD_FORMAT (R169). -/
def Obligations.IdentifyGivesThePart : Prop :=
  ∀ m rest s, Taken .identify m rest s →
    ∃ t, exec .identify s = .next t ∧ ChangesOnly [.inbox, .outbox] s t
      ∧ (m.body = [] → Responded m rest .ok false
          [0x09, 0x92, 0x03, 0x18, 0x02, 0x00, 0x08, 0x00, 0x04, 0x00] s t)
      ∧ (m.body ≠ [] → Responded m rest .badFormat false [] s t)

/-- A GET of one setting is answered with its number and value, a GET of ALL with all 25 in order, and a
GET of anything else, or of a wrong length, with BAD_FORMAT; nothing changes (R168). -/
def Obligations.GetReadsTheSettings : Prop :=
  ∀ m rest s, Taken .getSetting m rest s →
    ∃ t, exec .getSetting s = .next t ∧ ChangesOnly [.inbox, .outbox] s t
      ∧ (∀ k, m.body = be8 (settingNumber k) →
          Responded m rest .ok false (be8 (settingNumber k) ++ be32 (s.setting k)) s t)
      ∧ (m.body = [0] →
          Responded m rest .ok false
            (allSettings.flatMap fun k => be8 (settingNumber k) ++ be32 (s.setting k)) s t)
      ∧ (m.body.length ≠ 1 ∨ 25 < rd8 m.body 0 → Responded m rest .badFormat false [] s t)

/-- The queries change nothing but the inbox and the outbox, and are answered in the layout of R184. A
CUE_QUERY by cue carries every field of the record and its lineup index; by track the track's kind, window,
lineup length, first AHEAD cue, last completed cue and listener count; either is refused for a CLOSED
auditorium, a missing track or a missing cue. An RX_LOOKUP carries every field of the record, the deadline
its state judges, whether it is counted and which rotations hold it; by index a FREE record is answered too,
with its index and zeros, and a serial that no record holds is refused. An RX_LIST carries, in ascending
order from the start index, the first 32 records that pass both filters, and the index after the last when 32
were returned and more may follow, else END. An RX_COUNTS carries, for each auditorium, its records by state,
with poor reception and unmatched, then the FREE records; a COUNTERS the 208 counters in order (R52, R61, R63,
R64, R136, R137, R154, R155, R156, R180, R184). -/
def Obligations.QueriesOnlyAnswer : Prop :=
  ∀ m rest s,
    let ends (c : Instr) (res : Result) (b : List Byte) : Prop :=
      ∃ t, exec c s = .next t ∧ ChangesOnly [.inbox, .outbox] s t ∧ Responded m rest res false b s t
    let answers (c : Instr) (n : Nat) (b : List Byte) : Prop := ends c .ok b ∧ b.length = n
    let opt2 (x : Option Nat) : List Byte := match x with
      | some n => 1 :: be16 n
      | none => [0, 0, 0]
    let time (x : Option SiteTime) : List Byte := match x with
      | some d => be32 d.toNat
      | none => [0, 0, 0, 0]
    let bit (b : Bool) (n : Nat) : Nat := if b then n else 0
    let entry (r : RxRec) : List Byte :=
      be16 r.index.val ++ be24 r.serial ++ be8 (rxKindCode r.kind) ++ be8 (rxStateCode r.state)
        ++ be8 r.aud.val ++ be8 r.track.val ++ be8 r.seat.length ++ padTo 6 r.seat
        ++ be8 (bit r.heard.isSome 1 + bit r.poor 2 + bit r.unmatched 4 + bit r.movedFrom.isSome 8
            + bit r.loss.isSome 16)
        ++ (match r.heard with
            | some h => be32 h.time.toNat ++ be8 (laneCode h.lane) ++ be8 h.battery ++ be8 h.link
                ++ be8 h.lag
            | none => [0, 0, 0, 0, 0, 0, 0, 0])
        ++ (match r.movedFrom with
            | some a => be8 a.val
            | none => [0])
        ++ (match r.loss with
            | some why => be8 (lossCode why)
            | none => [0])
    (∀ q, Taken .cueQueryByCue m rest s → cueQueryByCue? m.body = some q →
      (s.isOpen q.aud = false → ends .cueQueryByCue .notOpen [])
      ∧ (s.isOpen q.aud = true → s.track? q.aud q.track = none → ends .cueQueryByCue .noTrack [])
      ∧ ((s.track? q.aud q.track).isSome = true → s.findCue q.aud q.track q.num = none →
          ends .cueQueryByCue .noSuch [])
      ∧ ∀ c, (s.track? q.aud q.track).isSome = true → s.findCue q.aud q.track q.num = some c →
        answers .cueQueryByCue (31 + 2 * c.blocks.length)
          (be16 c.slot ++ be8 q.aud.val ++ be8 q.track.val ++ be16 q.num ++ be8 (cueKindCode c.kind)
            ++ be32 c.inP ++ be32 c.outP ++ [c.rev] ++ be16 c.declared ++ be16 c.fill ++ be16 c.off
            ++ (match c.attrs with
                | some x => 1 :: be8 (attrsCode x)
                | none => [0, 0])
            ++ be8 (deliveryCode c.delivery) ++ be8 (phaseCode c.phase) ++ be8 c.air
            ++ be8 (bit c.late 1 + bit c.relaunch 2 + bit c.repeatDue 4 + bit c.underrun 8)
            ++ be16 ((s.lineup q.aud q.track).idxOf c.slot)
            ++ be8 c.blocks.length ++ c.blocks.flatMap be16))
    ∧ (∀ a u, Taken .cueQueryByTrack m rest s → cueQueryByTrack? m.body = some (a, u) →
      (s.isOpen a = false → ends .cueQueryByTrack .notOpen [])
      ∧ (s.isOpen a = true → s.track? a u = none → ends .cueQueryByTrack .noTrack [])
      ∧ ∀ w, s.track? a u = some w →
        answers .cueQueryByTrack 15
          (be8 (cueKindCode w.kind) ++ be16 w.base ++ be16 w.limit ++ be16 w.lineup.length
            ++ opt2 (((w.lineup.filterMap s.cueAt).filter fun c => c.phase == .ahead).head?.map Cue.num)
            ++ opt2 w.lastDone ++ be16 w.listeners))
    ∧ (∀ sel, Taken .rxLookup m rest s → rxNamed? m.body = some sel →
      (∀ r, s.rxNamed sel = some r →
        let judged : Nat × Option SiteTime := match r.state with
          | .issued | .moving => (1, r.joinDl)
          | .joined => (2, r.silenceDl)
          | .silent => (3, r.lossDl)
          | .lost => (0, none)
        let counted : Bool := r.state != .lost && (s.track? r.aud r.track).isSome && !r.unmatched
        answers .rxLookup 53
          (entry r ++ be32 r.issuedAt.toNat
            ++ be8 (bit r.joinDl.isSome 1 + bit r.silenceDl.isSome 2 + bit r.lossDl.isSome 4
                + bit r.marks.a.isSome 8 + bit r.marks.b.isSome 16 + bit counted 32
                + bit (decide (r.index ∈ (s.lane .A).rotation)) 64
                + bit (decide (r.index ∈ (s.lane .B).rotation)) 128)
            ++ time r.joinDl ++ time r.silenceDl ++ time r.lossDl
            ++ be16 ((r.marks.a.map BitVec.toNat).getD 0) ++ be16 ((r.marks.b.map BitVec.toNat).getD 0)
            ++ (if judged.2.isSome then be8 judged.1 else [0]) ++ time judged.2))
      ∧ (∀ i, sel = .index i → s.rx? i = none →
          answers .rxLookup 53 (be16 i.val ++ List.replicate 51 0))
      ∧ (∀ n, sel = .serial n → s.rxBySerial? n = none → ends .rxLookup .noSuch []))
    ∧ (∀ q, Taken .rxList m rest s → rxList? m.body = some q →
      let passes (i : RxIdx) : Prop := q.start ≤ i.val
        ∧ ((∃ r, s.rx? i = some r ∧ (q.state = .any ∨ q.state = .inUse r.state)
              ∧ (q.aud = none ∨ q.aud = some r.aud))
            ∨ s.rx? i = none ∧ q.state = .free ∧ q.aud = none)
      ∃ (found : List RxIdx) (next : Nat),
        answers .rxList (3 + 27 * found.length)
          (be8 found.length ++ be16 next ++ found.flatMap fun i => match s.rx? i with
            | some r => entry r
            | none => be16 i.val ++ List.replicate 25 0)
        ∧ found.length ≤ 32 ∧ found.Pairwise (fun i j => i.val < j.val) ∧ (∀ i ∈ found, passes i)
        ∧ (∀ i, passes i → i ∉ found → found.length = 32 ∧ ∀ j ∈ found, j.val < i.val)
        ∧ (∀ i, found.getLast? = some i → found.length = 32 → i.val < 511 → next = i.val + 1)
        ∧ (found.length < 32 ∨ found.getLast? = some 511 → next = 65535))
    ∧ (Taken .rxCounts m rest s → m.body = [] →
      answers .rxCounts 338
        (allAuds.flatMap (fun a =>
            let count (p : RxRec → Bool) : List Byte :=
              be16 (s.roster.filter fun r => r.aud == a && p r).length
            count (fun r => r.state == .issued) ++ count (fun r => r.state == .joined)
              ++ count (fun r => r.state == .silent) ++ count (fun r => r.state == .lost)
              ++ count (fun r => r.state == .moving) ++ count (fun r => r.poor)
              ++ count (fun r => r.unmatched))
          ++ be16 (512 - s.roster.length)))
    ∧ (Taken .counters m rest s → m.body = [] →
      answers .counters 416
        (allAuds.flatMap (fun a =>
            [AudCounter.jumps, .strikes, .unpaired, .late, .lateDropped, .underruns, .repairsAnswered,
              .repairsLate].flatMap fun c => be16 (s.audCount a c))
          ++ [LaneId.A, .B].flatMap fun l =>
            [LaneCounter.sent, .skipped, .cut, .uplinkBad, .asksIgnored, .asksCrossed, .asksDropped,
              .strays].flatMap fun c => be16 (s.laneCount l c)))

/-- A SET puts a value in effect that is the value carried when that lies in the setting's range, else
the nearer bound, and keeps COAST_LIMIT and LOST_AFTER in line with their partners; the response shows
the setting, its previous value, its value in effect and its partner, and flags any change of the value
carried or of the partner (R167). -/
def Obligations.SetBoundsTheValue : Prop :=
  ∀ m rest s k v, Taken .setSetting m rest s → set? m.body = some (k, v) →
    k ≠ .faultMask → k ≠ .noticeMask →
    ∃ t, exec .setSetting s = .next t
      ∧ ((k ≠ .coastLimit ∧ k ≠ .lostAfter) →
          t.setting k = max (settingRange k).1 (min v (settingRange k).2))
      ∧ (k = .coastLimit →
          t.setting k = max (max 1000 (min v 60000)) (s.setting .reportTimeout))
      ∧ (k = .lostAfter → t.setting k =
          if max 10000 (min v 600000) ≤ s.setting .silentAfter then s.setting .silentAfter + 1000
          else max 10000 (min v 600000))
      ∧ (k = .reportTimeout →
          t.setting .coastLimit = max (s.setting .coastLimit) (t.setting .reportTimeout))
      ∧ (k = .silentAfter →
          t.setting .lostAfter = if s.setting .lostAfter ≤ t.setting .silentAfter
            then t.setting .silentAfter + 1000 else s.setting .lostAfter)
      ∧ Responded m rest .ok
          (t.setting k != v || (match partner k with
            | some p => t.setting p != s.setting p
            | none => false))
          (be8 (settingNumber k) ++ be32 (s.setting k) ++ be32 (t.setting k)
            ++ (match partner k with
                | some p => be8 (settingNumber p) ++ be32 (t.setting p)
                | none => [0, 0, 0, 0, 0])) s t
      ∧ ChangesOnly
          [.setting k, .setting (if k = .reportTimeout then .coastLimit else
             if k = .silentAfter then .lostAfter else k),
           .cond .poolLow, .inbox, .outbox] s t
      ∧ (k ≠ .poolLowMark → t.cond .poolLow = s.cond .poolLow)
      ∧ (k = .poolLowMark →
          (t.cond .poolLow).on = decide (s.table.free.length < t.setting .poolLowMark))

/-- A SET of a mask keeps the members that name one of the sixteen conditions and drops the others; the
response is flagged when any was dropped (R167). -/
def Obligations.SetOfAMaskDropsNamelessMembers : Prop :=
  ∀ m rest s k v, Taken .setSetting m rest s → set? m.body = some (k, v) →
    k = .faultMask ∨ k = .noticeMask →
    ∃ t, exec .setSetting s = .next t
      ∧ (∀ c, inMask (t.setting k) c = inMask v c) ∧ t.setting k < 65536
      ∧ Responded m rest .ok (decide (65536 ≤ v))
          (be8 (settingNumber k) ++ be32 (s.setting k) ++ be32 (t.setting k) ++ [0, 0, 0, 0, 0]) s t
      ∧ ChangesOnly [.setting k, .inbox, .outbox] s t

/-- A RESTART of correct form is taken even when the outbox is full: every setting, the input levels and
the waiting commands stay, and all else is as a reset leaves it, with no response. One with a body is
refused with BAD_FORMAT like any other request (R163, R171). The queue of waiting commands is log entry 1,
the boundary marks log entry 5, the record of bytes sent log entry 8, the payload store's contents log entry
12 and the record of the frame handed over log entry 13. -/
def Obligations.RestartKeepsOnlyTheSettings : Prop :=
  ∀ m rest s,
    (s.phase = .ready → s.link.inbox = m :: rest → rowOf m = .restart → m.delivered = 4 →
      m.bodyLength = 0 →
      ∃ t, exec .restart s = .next t ∧ (∀ k, t.setting k = s.setting k) ∧ t.pending = s.pending
        ∧ t.phase = .startUp ∧ t.clock = State.reset.clock ∧ t.link = State.reset.link
        ∧ t.timelines = State.reset.timelines ∧ t.directory = State.reset.directory
        ∧ t.table = State.reset.table ∧ t.roster = [] ∧ t.status.conds = State.reset.status.conds
        ∧ t.status.forcedFault = false ∧ t.status.forcedNotice = false ∧ t.status.attn = false
        ∧ t.audCounters = State.reset.audCounters ∧ t.laneCounters = State.reset.laneCounters
        ∧ (∀ l, t.lane l = Lane.reset (s.lane l).rfReady)
        ∧ ∀ a, t.syncIn a = SyncInput.reset (s.syncIn a).level)
    ∧ (Taken .restart m rest s → m.bodyLength ≠ 0 →
      ∃ t, exec .restart s = .next t ∧ Responded m rest .badFormat false [] s t
        ∧ ChangesOnly [.inbox, .outbox] s t)

/-! ### The link (chapter 9) -/

/-- WRITE_MSG and its end: with a free slot the bytes that follow become a message at the tail of the
inbox, the first 1,024 stored and all counted; with none free they are lost and INBOX_OVERFLOW is
latched with no one recorded; a transaction of no byte delivers nothing; one whose operation byte falls
in start-up or in reset is ignored whole. The part sends the first port state byte as sampled when CS_N
fell, or now where no command marked that moment, the second, and zeros, as the model's record of them
shows (R158, R159, R170, R172; log entry 8). That zeros follow in a transaction that claims no slot too is
log entry 35. -/
def Obligations.WriteMsgDeliversOrOverflows : Prop :=
  ∀ s bytes, s.link.txn = none →
    ∃ t u, exec .writeMsg s = .next t ∧ exec (.writeMsgEnd bytes) t = .next u ∧ u.link.txn = none
      ∧ u.link.miso = s.link.csSample.getD (portByte1 s) :: padTo bytes.length [portByte2 s]
      ∧ (s.phase ≠ .ready → ChangesOnly [.txn, .miso] s t ∧ ChangesOnly [.txn, .miso] t u)
      ∧ (s.phase = .ready → s.link.inbox.length < Config.linkSlots →
          t.link.freeSlots + 1 = s.link.freeSlots
          ∧ ChangesOnly [.txn, .miso] s t
          ∧ ChangesOnly [.inbox, .txn, .miso] t u
          ∧ u.link.inbox = (if bytes = [] then s.link.inbox
              else s.link.inbox ++ [⟨bytes.take 1024, bytes.length⟩]))
      ∧ (s.phase = .ready → Config.linkSlots ≤ s.link.inbox.length →
          t.cond .inboxOverflow = ⟨true, .nobody⟩
          ∧ ChangesOnly [.txn, .miso, .cond .inboxOverflow] s t
          ∧ ChangesOnly [.txn, .miso] t u)

/-- READ_MSG and its end: the part sends the port state bytes and the oldest response, zeros after it;
the response leaves the outbox just when at least one byte of it was clocked, the first byte after the
operation byte being the second port state byte. With nothing to read it sends an empty header and
nothing leaves; in start-up and in reset it sends zeros after the first byte and nothing leaves (R158, R160,
R170, R172). The bytes sent are read from the model's record of them, the first as sampled when CS_N fell
(log entry 8); the zeros in reset are log entry 35. -/
def Obligations.ReadMsgReadsTheOldestResponse : Prop :=
  ∀ s n, s.link.txn = none →
    let first := s.link.csSample.getD (portByte1 s)
    ∃ t u, exec .readMsg s = .next t ∧ exec (.readMsgEnd n) t = .next u
      ∧ ChangesOnly [.txn, .miso] s t ∧ ChangesOnly [.outbox, .txn, .miso] t u ∧ u.link.txn = none
      ∧ (∀ r rest, s.phase = .ready → s.link.outbox = r :: rest →
          u.link.outbox = (if 2 ≤ n then rest else r :: rest)
          ∧ u.link.miso = first :: padTo n (portByte2 s :: responseBytes r))
      ∧ (s.phase = .ready → s.link.outbox = [] → u.link.outbox = []
          ∧ u.link.miso = first :: padTo n (portByte2 s :: emptyHeader s))
      ∧ (s.phase ≠ .ready → u.link.outbox = s.link.outbox
          ∧ u.link.miso = first :: List.replicate n 0)

/-- A READ_STATE sends the two port state bytes and zeros, and a void operation the first port state
byte and zeros; neither changes anything, in start-up, in reset or when ready. Before the part is ready
both port state bytes are 0. The operation bytes 0x10, 0x20 and 0x30 are WRITE_MSG, READ_MSG and READ_STATE,
and every other is void. The first byte is the one sampled when CS_N fell; the second, in a WRITE_MSG or
READ_MSG, the one sampled when its byte began, whatever came in between, and the end of the transaction
sends it (R157, R158, R161, R170, R182). The bytes sent are read from the model's record of them, and the
two moments of sampling are commands of the model (log entry 8); that a WRITE_MSG which claims no slot is sent
zeros after them is log entry 35. -/
def Obligations.PortStateReadsChangeNothing : Prop :=
  ∀ (s : State) (n : Nat) (op : Byte),
    (s.link.txn = none →
      (∃ t, exec (.readState .firstByte) s = .next t ∧ ChangesOnly [.txn, .miso] s t
        ∧ t.link.txn = none ∧ t.link.csSample = some (portByte1 s))
      ∧ (∃ t, exec (.readState (.whole n)) s = .next t ∧ ChangesOnly [.txn, .miso] s t
        ∧ t.link.txn = none
        ∧ t.link.miso = s.link.csSample.getD (portByte1 s) :: padTo n [portByte2 s])
      ∧ (op ≠ 0x10 → op ≠ 0x20 → op ≠ 0x30 →
        ∃ t, exec (.voidOperation op n) s = .next t ∧ ChangesOnly [.txn, .miso] s t
          ∧ t.link.txn = none
          ∧ t.link.miso = s.link.csSample.getD (portByte1 s) :: List.replicate n 0))
    ∧ (∀ x, s.link.txn = some x → x.begun = false →
      ∃ t, exec (.readState .secondByte) s = .next t ∧ ChangesOnly [.txn] s t
        ∧ t.link.csSample = s.link.csSample
        ∧ t.link.txn = some { x with begun := true, out := portByte2 s :: x.out.tail })
    ∧ (∀ x bytes, s.link.txn = some x →
      ∃ t, exec (match x.kind with
            | .write _ => .writeMsgEnd bytes
            | .read _ => .readMsgEnd bytes.length) s = .next t
        ∧ t.link.txn = none ∧ t.link.miso = s.link.miso ++ padTo bytes.length x.out)
    ∧ (s.phase ≠ .ready → portByte1 s = 0 ∧ portByte2 s = 0)
    ∧ linkCommand 0x10 n = .writeMsg ∧ linkCommand 0x20 n = .readMsg
    ∧ linkCommand 0x30 n = .readState (.whole n)
    ∧ (op ≠ 0x10 → op ≠ 0x20 → op ≠ 0x30 → linkCommand op n = .voidOperation op n)

/-! ### Resets and the clock (chapters 2 and 9) -/

/-- A pin reset, the leaving of it and the completion of start-up. In every state a PIN_RESET puts the part
in reset, ATTN_N released, both port state bytes 0 and a transaction abandoned. In every state in reset, LEAVE_RESET
gives every block its reset value and every setting its default, the input levels as the pins stand. In
every state in start-up, its completion makes the part ready and changes nothing else; after a pin reset
ATTN_N stays released through it (R16, R165, R166, R170, R172). The model's choices in it: the kept queue of
waiting commands is log entry 1, the boundary marks 5, the record of bytes sent 8, the clearing of the blocks
on leaving and not on entering 9, the emptied payload store 12 and the record of the frame handed over 13. -/
def Obligations.PinResetRestoresEveryBlock : Prop :=
  ∀ s,
    let cleared (u : State) : Prop :=
      u.pending = s.pending ∧ u.phase = .startUp ∧ u.clock = State.reset.clock
        ∧ u.settings = State.reset.settings ∧ u.link = State.reset.link
        ∧ u.timelines = State.reset.timelines ∧ u.directory = State.reset.directory
        ∧ u.table = State.reset.table ∧ u.roster = [] ∧ u.status = State.reset.status
        ∧ u.audCounters = State.reset.audCounters ∧ u.laneCounters = State.reset.laneCounters
        ∧ (∀ l, u.lane l = Lane.reset (s.lane l).rfReady)
        ∧ (∀ a, u.syncIn a = SyncInput.reset (s.syncIn a).level)
    (∃ t, exec .pinReset s = .next t ∧ ChangesOnly [.phase, .txn] s t ∧ t.phase = .inReset
      ∧ t.link.txn = none ∧ t.link.csSample = none
      ∧ t.status.attn = false ∧ portByte1 t = 0 ∧ portByte2 t = 0
      ∧ ∃ u v, exec .leaveReset t = .next u ∧ cleared u
        ∧ exec .startUpCompletion u = .next v
        ∧ ChangesOnly [.phase] u v ∧ v.phase = .ready ∧ v.status.attn = false)
    ∧ (s.phase = .inReset → ∃ u, exec .leaveReset s = .next u ∧ cleared u)
    ∧ (s.phase = .startUp →
        ∃ v, exec .startUpCompletion s = .next v ∧ ChangesOnly [.phase] s v ∧ v.phase = .ready)

/-- Outside reset, SITE_TIME_ADVANCE raises site time by 1 modulo 2^32 and changes nothing else but the
marks of the boundaries: lane A's when the new time is a multiple of 20, lane B's when it is 10 more
than one (R16, R18; the marks are log entry 5). -/
def Obligations.SiteTimeAdvancesByOne : Prop :=
  ∀ s, s.phase ≠ .inReset →
    ∃ t, exec .siteTimeAdvance s = .next t ∧ ChangesOnly [.clock] s t
      ∧ t.clock.time.toNat = (s.clock.time.toNat + 1) % 4294967296
      ∧ (t.clock.due.a = true ↔ t.clock.time.toNat % 20 = 0)
      ∧ (t.clock.due.b = true ↔ t.clock.time.toNat % 20 = 10)

/-! ### Sync lines and Timelines (chapter 2) -/

/-- An active edge captures the site time, and one that meets a full slot of an open auditorium
replaces it and latches EDGE_OVERRUN; every other change of the line only changes its level (R20; log entry 6). -/
def Obligations.ActiveEdgeIsCaptured : Prop :=
  ∀ a lev s, s.phase ≠ .inReset → (s.syncIn a).level ≠ lev → (s.syncIn a).sens.gateLevel? = none →
    ∃ t, exec (.activeEdge a lev) s = .next t
      ∧ ((s.syncIn a).sens = .rise ∧ lev = true ∨ (s.syncIn a).sens = .fall ∧ lev = false →
          t.syncIn a = { s.syncIn a with level := lev, capture := some s.clock.time }
          ∧ ((s.syncIn a).capture.isSome = true ∧ s.isOpen a = true →
              t.cond .edgeOverrun = ⟨true, .aud a⟩ ∧ ChangesOnly [.sync a, .cond .edgeOverrun] s t)
          ∧ ((s.syncIn a).capture = none ∨ s.isOpen a = false → ChangesOnly [.sync a] s t))
      ∧ (¬((s.syncIn a).sens = .rise ∧ lev = true ∨ (s.syncIn a).sens = .fall ∧ lev = false) →
          t.syncIn a = { s.syncIn a with level := lev } ∧ ChangesOnly [.sync a] s t)

/-- A gate that becomes active makes a RUNNING or COASTING Timeline HELD and gated at its projected
position, with no anchor, strikes or last report kind; in HELD the last report kind becomes PAUSED; in
ACQUIRING, STOPPED and LOST only the gated flag and the last report kind change. Of a CLOSED auditorium
only the gate state and the level follow the line (R21, R37; log entry 6). -/
def Obligations.GateHoldsTheTimeline : Prop :=
  ∀ a lev s, s.phase ≠ .inReset → (s.syncIn a).sens.gateLevel? = some lev →
    (s.syncIn a).level ≠ lev →
    ∃ t, exec (.gateActive a) s = .next t
      ∧ t.syncIn a = { s.syncIn a with level := lev, gate := true }
      ∧ (s.isOpen a = false → ChangesOnly [.sync a] s t)
      ∧ (s.isOpen a = true → (s.timeline a).state = .running ∨ (s.timeline a).state = .coasting →
          ∀ p, (s.timeline a).anchor = some p →
          t.timeline a = { s.timeline a with
            state := .held, anchor := none, strikes := 0, candidate := none, lastKind := none,
            gated := true,
            frozen := some (projectFrom p (s.timeline a).rate s.clock.time) })
      ∧ (s.isOpen a = true → (s.timeline a).state = .held →
          t.timeline a = { s.timeline a with lastKind := some .paused, gated := true })
      ∧ (s.isOpen a = true → (s.timeline a).state = .acquiring ∨ (s.timeline a).state = .stopped
            ∨ (s.timeline a).state = .lost →
          t.timeline a = { s.timeline a with lastKind := none, gated := true })
      ∧ ChangesOnly [.sync a, .timeline a, .cond .tlCoast, .cond .tlLost] s t

/-- A gate that is released clears the gated flag; a HELD Timeline whose last report kind is not PAUSED
then runs on from its frozen position, with no change of epoch. Of a CLOSED auditorium only the gate state
and the level follow the line (R21, R39; log entry 6). -/
def Obligations.GateReleaseLetsTheTimelineRun : Prop :=
  ∀ a lev s, s.phase ≠ .inReset → (s.syncIn a).sens.gateLevel? = some lev →
    (s.syncIn a).level = lev →
    ∃ t, exec (.gateRelease a) s = .next t
      ∧ t.syncIn a = { s.syncIn a with level := !lev, gate := false }
      ∧ (s.isOpen a = false → ChangesOnly [.sync a] s t)
      ∧ (s.isOpen a = true → (s.timeline a).state = .held → (s.timeline a).lastKind = some .paused →
          t.timeline a = { s.timeline a with gated := false })
      ∧ (s.isOpen a = true → (s.timeline a).state = .held → (s.timeline a).lastKind ≠ some .paused →
          ∀ p, (s.timeline a).frozen = some p →
          t.timeline a = { s.timeline a with
            state := .running, anchor := some ⟨s.clock.time, p⟩, frozen := none,
            lastAccepted := some s.clock.time, strikes := 0, gated := false })
      ∧ (s.isOpen a = true → (s.timeline a).state = .acquiring ∨ (s.timeline a).state = .stopped
            ∨ (s.timeline a).state = .lost →
          t.timeline a = { s.timeline a with gated := false })
      ∧ ChangesOnly [.sync a, .timeline a, .cond .tlCoast, .cond .tlLost] s t

/-- A SYNC_MODE is accepted in every state of the auditorium: the capture slot is emptied, the
sensitivity stored, the gate judged from the line's level under it; a gated Timeline of an open
auditorium is released first, and held again if the new gate is active (R22). -/
def Obligations.SyncModeRewritesTheGate : Prop :=
  ∀ m rest s a mode, Taken .syncMode m rest s → syncMode? m.body = some (a, mode) →
    ∃ t, exec .syncMode s = .next t
      ∧ t.syncIn a =
          ⟨(s.syncIn a).level, mode, none, decide (mode.gateLevel? = some (s.syncIn a).level)⟩
      ∧ (s.isOpen a = false → t.timeline a = s.timeline a)
      ∧ (s.isOpen a = true → (s.timeline a).gated = false → (t.syncIn a).gate = false →
          t.timeline a = s.timeline a)
      ∧ (s.isOpen a = true → (s.timeline a).gated = true → (t.syncIn a).gate = false →
          t.timeline a = releasedTimeline s.clock.time (s.timeline a))
      ∧ (s.isOpen a = true → (s.timeline a).gated = false → (t.syncIn a).gate = true →
          t.timeline a = gatedTimeline s.clock.time (s.timeline a))
      ∧ (s.isOpen a = true → (s.timeline a).gated = true → (t.syncIn a).gate = true →
          t.timeline a =
            gatedTimeline s.clock.time (releasedTimeline s.clock.time (s.timeline a)))
      ∧ Responded m rest .ok false
          (be8 (sensCode (s.syncIn a).sens) ++ be8 (sensCode mode)
            ++ be8 (if (s.syncIn a).level then 1 else 0)
            ++ be8 (tlStateCode (t.timeline a).state)) s t
      ∧ ChangesOnly
          [.sync a, .timeline a, .cond .tlCoast, .cond .tlLost, .inbox, .outbox] s t

/-- A RUNNING Timeline whose last accepted report is REPORT_TIMEOUT old becomes COASTING on its anchor,
or LOST when it is COAST_LIMIT old too; a COASTING one COAST_LIMIT old becomes LOST, with no anchor,
strikes or candidate offset; before its deadline nothing happens (R17, R40, R41). The expiry is a command that may come late (log
entry 4). -/
def Obligations.ReportDeadlinesCoastAndLose : Prop :=
  ∀ a s d, s.phase ≠ .inReset → (s.timeline a).lastAccepted = some d →
    ((s.timeline a).state = .running →
      ∃ t, exec (.coastDeadline a) s = .next t
        ∧ (0 ≤ sdiff s.clock.time (after d (s.setting .reportTimeout)) →
            ChangesOnly [.timeline a, .cond .tlCoast, .cond .tlLost] s t
            ∧ t.timeline a =
                if 0 ≤ sdiff s.clock.time (after d (s.setting .coastLimit)) then
                  { s.timeline a with
                    state := .lost, anchor := none, strikes := 0, candidate := none }
                else { s.timeline a with state := .coasting })
        ∧ (sdiff s.clock.time (after d (s.setting .reportTimeout)) < 0 → t = s))
    ∧ ((s.timeline a).state = .coasting →
      ∃ t, exec (.timelineLossDeadline a) s = .next t
        ∧ (0 ≤ sdiff s.clock.time (after d (s.setting .coastLimit)) →
            ChangesOnly [.timeline a, .cond .tlCoast, .cond .tlLost] s t
            ∧ t.timeline a =
                { s.timeline a with
                  state := .lost, anchor := none, strikes := 0, candidate := none })
        ∧ (sdiff s.clock.time (after d (s.setting .coastLimit)) < 0 → t = s))

/-- A PLAYING or PAUSED report in ACQUIRING, STOPPED or LOST acquires the Timeline with the next epoch
and without a comparison: RUNNING on the reference time when PLAYING and ungated, HELD otherwise; the
rate carried is stored, clamped; the capture slot is emptied; the response says so, with no offset (R26, R27,
R28, R29, R30). -/
def Obligations.ReportAcquiresTheTimeline : Prop :=
  ∀ m rest s q, Taken .timelineReport m rest s → timelineReport? m.body = some q →
    s.isOpen q.aud = true → q.kind ≠ .stopped →
    ((s.timeline q.aud).state = .acquiring ∨ (s.timeline q.aud).state = .stopped
      ∨ (s.timeline q.aud).state = .lost) →
    ∃ t, exec .timelineReport s = .next t
      ∧ (q.kind = .playing → (s.timeline q.aud).gated = false →
          t.timeline q.aud = { s.timeline q.aud with
            state := .running
            anchor := some ⟨(pairReport (s.syncIn q.aud) s.clock.time (s.setting .pairWindow)).tRef,
              q.pos⟩
            rate := (q.rate.map clampRate).getD (s.timeline q.aud).rate
            strikes := 0, candidate := none, epoch := (s.timeline q.aud).epoch + 1
            lastAccepted := some s.clock.time, lastKind := some .playing })
      ∧ (q.kind = .paused ∨ (s.timeline q.aud).gated = true →
          t.timeline q.aud = { s.timeline q.aud with
            state := .held, frozen := some q.pos
            rate := (q.rate.map clampRate).getD (s.timeline q.aud).rate
            strikes := 0, candidate := none, epoch := (s.timeline q.aud).epoch + 1
            lastAccepted := some s.clock.time, lastKind := some q.kind })
      ∧ t.syncIn q.aud = { s.syncIn q.aud with capture := none }
      ∧ Responded m rest .ok (rateClamped q.rate)
          (be8 (if q.kind = .paused then 4 else if (s.timeline q.aud).gated then 6 else 0)
            ++ be8 ((if (pairReport (s.syncIn q.aud) s.clock.time (s.setting .pairWindow)).paired
                then 1 else 0) + (if (s.timeline q.aud).gated then 2 else 0))
            ++ [0, 0, 0, 0, 0] ++ be8 0 ++ be8 (tlStateCode (t.timeline q.aud).state)
            ++ [(s.timeline q.aud).epoch + 1]) s t
      ∧ ChangesOnly
          [.sync q.aud, .timeline q.aud, .audCounter q.aud .unpaired, .cond .tlCoast, .cond .tlLost,
           .inbox, .outbox] s t

/-- A report pairs with a capture no older than PAIR_WINDOW in an edge mode, and is else unpaired, taken at
its own site time and counted unless the sensitivity is NONE; the capture slot is emptied (R29). In RUNNING
or COASTING a PLAYING report within T_LOCK of the projection snaps; one further off that does not confirm
a jump is a held strike, a fresh one or one that agrees with the candidate offset, and changes only the
strike count, the candidate offset and the last report kind, captures TL_GLITCH and is counted; a PAUSED
report holds. In HELD a PLAYING report runs on when ungated and moves the frozen position when gated, and a
PAUSED one moves it. A PAUSED report and any report in HELD further off than T_LOCK is a jump. A STOPPED
report stops the Timeline in every state. The response carries the outcome, whether the report was paired, the
offset where a comparison was made, and the Timeline's strike count, state, epoch and gated flag. A report of
bad form is refused, and then one for a CLOSED auditorium, and changes nothing (R20, R26,
R27, R28, R29, R31 to R36, R38, R83, R84, R88, R131). That a pause or a resume within T_LOCK keeps the
candidate offset is log entry 17 (DEDUCED); that a jump stands in the build's list of jumped auditoriums is log
entry 14, and that its step 7 keeps its place, 19. -/
def Obligations.ReportActsByTheState : Prop :=
  ∀ m rest s, Taken .timelineReport m rest s →
    (timelineReport? m.body = none → Refused .timelineReport m rest .badFormat s)
    ∧ ∀ q, timelineReport? m.body = some q →
    (s.isOpen q.aud = false → Refused .timelineReport m rest .notOpen s)
    ∧ (s.isOpen q.aud = true →
    let a := q.aud
    let x := s.timeline a
    let y := s.syncIn a
    let rate := (q.rate.map clampRate).getD x.rate
    let tLock := s.setting .tLock
    let paired (c : SiteTime) : Prop := (y.sens = .rise ∨ y.sens = .fall) ∧ y.capture = some c
      ∧ Machine.sdiff s.clock.time c ≤ (s.setting .pairWindow : Int)
    let accepted (z : Timeline) : Timeline :=
      { z with rate := rate, lastAccepted := some s.clock.time, lastKind := some q.kind }
    let answers (t : State) (code : Nat) (offset : List Byte) : Prop :=
      exec .timelineReport s = .next t ∧ t.syncIn a = { y with capture := none }
        ∧ ∃ pair : Bool, (pair = true ↔ q.kind ≠ .stopped ∧ ∃ c, paired c)
          ∧ Responded m rest .ok (rateClamped q.rate)
              (be8 code ++ be8 ((if pair then 1 else 0) + (if x.gated then 2 else 0)) ++ offset
                ++ be8 (t.timeline a).strikes ++ be8 (tlStateCode (t.timeline a).state)
                ++ [(t.timeline a).epoch]) s t
    let off (e : Int) : List Byte := 1 :: be32 (BitVec.ofInt 32 e).toNat
    let plain : List Machine.Part :=
      [.sync a, .timeline a, .audCounter a .unpaired, .cond .tlCoast, .cond .tlLost, .inbox,
       .outbox]
    let near (e : Int) (z : Timeline) (code : Nat) : Prop := e.natAbs ≤ tLock →
      ∃ t, answers t code (off e) ∧ t.timeline a = accepted z ∧ ChangesOnly plain s t
    let far (e : Int) (z : Timeline) : Prop := tLock < e.natAbs → CueTableOk s →
      ∀ l, s.laneOf? a = some l →
      ∃ t, answers t 3 (off e) ∧ JumpTold a l q.pos s t
        ∧ t.timeline a =
            accepted { z with epoch := x.epoch + 1, strikes := 0, candidate := none }
        ∧ ChangesOnly
            (plain ++ [.show_ a, .cues, .freeBlocks, .lane l, .audCounter a .jumps, .cond .tlJump,
              .cond .poolLow]) s t
    let strike (e : Int) (n : Nat) (cand : Int) : Prop :=
      ∃ t, answers t 2 (off e)
        ∧ t.timeline a =
            { x with strikes := n, candidate := some cand, lastKind := some .playing }
        ∧ t.cond .tlGlitch = ⟨true, .aud a⟩
        ∧ t.audCount a .strikes = bump (s.audCount a .strikes)
        ∧ ChangesOnly (plain ++ [.audCounter a .strikes, .cond .tlGlitch]) s t
    (q.kind = .stopped → x.state ≠ .inactive →
      ∃ t, answers t 5 [0, 0, 0, 0, 0]
        ∧ t.timeline a = accepted { x with
            state := .stopped, anchor := none, frozen := none, strikes := 0, candidate := none }
        ∧ ChangesOnly [.sync a, .timeline a, .cond .tlCoast, .cond .tlLost, .inbox, .outbox] s t)
    ∧ (q.kind ≠ .stopped →
      (∀ t, exec .timelineReport s = .next t →
        t.audCount a .unpaired =
          if (∃ c, paired c) ∨ y.sens = .noneMode then s.audCount a .unpaired
          else bump (s.audCount a .unpaired))
      ∧ ∀ tRef, (paired tRef ∨ ((∀ c, ¬paired c) ∧ tRef = s.clock.time)) →
        (∀ p, x.state = .running ∨ x.state = .coasting → x.anchor = some p →
          let e : Int := (q.pos : Int) - (projectFrom p x.rate tRef : Int)
          let agrees : Prop := x.strikes ≠ 0 ∧ ∃ c, x.candidate = some c ∧ (e - c).natAbs ≤ tLock
          (q.kind = .playing →
            near e { x with
              state := .running, anchor := some ⟨tRef, q.pos⟩, strikes := 0, candidate := none } 1
            ∧ (tLock < e.natAbs → ¬agrees → 1 < s.setting .jumpConfirm → strike e 1 e)
            ∧ (∀ c, tLock < e.natAbs → agrees → x.candidate = some c →
                x.strikes + 1 < s.setting .jumpConfirm → strike e (x.strikes + 1) c))
          ∧ (q.kind = .paused →
            let z : Timeline :=
              { x with state := .held, frozen := some q.pos, anchor := none, strikes := 0 }
            near e z 4 ∧ far e z))
        ∧ (∀ p, x.state = .held → x.frozen = some p →
          let e : Int := (q.pos : Int) - (p : Int)
          (q.kind = .playing → x.gated = false →
            let z : Timeline :=
              { x with state := .running, anchor := some ⟨tRef, q.pos⟩, frozen := none, strikes := 0 }
            near e z 1 ∧ far e z)
          ∧ (q.kind = .playing → x.gated = true →
            near e { x with frozen := some q.pos } 6 ∧ far e { x with frozen := some q.pos })
          ∧ (q.kind = .paused →
            near e { x with frozen := some q.pos } 4 ∧ far e { x with frozen := some q.pos }))))

/-- A strike that brings the strike count to JUMP_CONFIRM is a jump: the Timeline runs from the report,
with the next epoch and no strikes; TL_JUMP is latched, the strike and the jump are counted; every cue
of the auditorium with its out-point ahead of the new position is relaunched, every other is retired at
its retire mark or else RETAINED, a WAITING or SENDING one then SENT and no longer to be relaunched, and
nothing is counted; the lane's Repair Queue loses every entry of the auditorium and keeps the others in order;
a build of the lane that has read the auditorium's Timeline walks, launches and places no more cues of it, and
nothing else of the lane changes; the response is JUMP, with the offset (R26, R27, R29, R32, R33, R83, R84,
R88, R131). That the jump stands in the build's list of jumped auditoriums is log entry 14, and that
its step 7 keeps its place, 19. -/
def Obligations.ConfirmedJumpRelaunchesTheCues : Prop :=
  ∀ m rest s q p l, Taken .timelineReport m rest s → timelineReport? m.body = some q →
    s.laneOf? q.aud = some l → q.kind = .playing → CueTableOk s →
    ((s.timeline q.aud).state = .running ∨ (s.timeline q.aud).state = .coasting) →
    (s.timeline q.aud).anchor = some p →
    let x := s.timeline q.aud
    let tRef := (pairReport (s.syncIn q.aud) s.clock.time (s.setting .pairWindow)).tRef
    let e : Int := (q.pos : Int) - (projectFrom p x.rate tRef : Int)
    s.setting .tLock < e.natAbs →
    (s.setting .jumpConfirm ≤ 1 ∨
      x.strikes ≠ 0 ∧ s.setting .jumpConfirm ≤ x.strikes + 1 ∧
        ∃ c, x.candidate = some c ∧ (e - c).natAbs ≤ s.setting .tLock) →
    ∃ t, exec .timelineReport s = .next t
      ∧ Responded m rest .ok (rateClamped q.rate)
          (be8 3 ++ be8 ((if (pairReport (s.syncIn q.aud) s.clock.time
                (s.setting .pairWindow)).paired then 1 else 0) + (if x.gated then 2 else 0))
            ++ [1] ++ be32 (BitVec.ofInt 32 e).toNat ++ be8 0 ++ be8 (tlStateCode .running)
            ++ [x.epoch + 1]) s t
      ∧ t.timeline q.aud = { x with
          state := .running, anchor := some ⟨tRef, q.pos⟩
          rate := (q.rate.map clampRate).getD x.rate, strikes := 0, candidate := none
          epoch := x.epoch + 1, lastAccepted := some s.clock.time, lastKind := some .playing }
      ∧ JumpTold q.aud l q.pos s t
      ∧ t.audCount q.aud .strikes = bump (s.audCount q.aud .strikes)
      ∧ ChangesOnly
          [.sync q.aud, .timeline q.aud, .show_ q.aud, .cues, .freeBlocks, .lane l,
           .audCounter q.aud .unpaired, .audCounter q.aud .strikes, .audCounter q.aud .jumps,
           .cond .tlJump, .cond .tlCoast, .cond .tlLost, .cond .poolLow, .inbox, .outbox] s t

/-! ### Shows (chapter 1) -/

/-- A SHOW_OPEN of a closed auditorium opens it on the lane given with the tracks given, no cues, and
listener counts that count the matched records bound to each track that are not LOST; its Timeline
begins a new run with the next epoch; its capture slot is emptied. Each record bound to it is flagged
unmatched just when it is, and a matched JOINED or SILENT one last heard on another lane becomes MOVING with
a join deadline. Those not LOST and not yet in the new lane's rotation join its tail in index order, and
leave the other lane's unless MOVING from an auditorium open there. Records bound elsewhere are not touched,
and of the lanes only the rotations change. The response carries the epoch, the rate, the listener counts, and
how many records were left unmatched and made MOVING. A SHOW_OPEN of bad form is refused, and then one of an
open auditorium, with BUSY (R4, R5, R6, R7, R8, R9, R26). That a record which already
stood in the new lane's rotation leaves the other lane's too is log entry 36. -/
def Obligations.ShowOpenBeginsARun : Prop :=
  ∀ m rest s, Taken .showOpen m rest s →
    (showOpen? m.body = none → Refused .showOpen m rest .badFormat s)
    ∧ ∀ q, showOpen? m.body = some q →
    (s.isOpen q.aud = true → Refused .showOpen m rest .busy s)
    ∧ (s.isOpen q.aud = false → RosterOk s →
    ∃ (t : State) (w : Show), exec .showOpen s = .next t ∧ t.theShow? q.aud = some w
      ∧ w.lane = q.lane ∧ w.cueCount = 0 ∧ w.tracks.length = q.tracks.length
      ∧ (∀ (u : Nat) (r : TrackRec), q.tracks[u]? = some r →
          w.tracks[u]? = some { r with
            listeners := (s.roster.filter fun x =>
              x.aud == q.aud && x.track.val == u && suits x.kind r.kind
                && x.state != .lost).length
            lastDone := none, lineup := [] })
      ∧ t.timeline q.aud =
          { state := .acquiring, anchor := none, rate := (q.rate.map clampRate).getD 65536,
            frozen := none, epoch := (s.timeline q.aud).epoch + 1, strikes := 0,
            candidate := none, lastAccepted := none, lastKind := none,
            gated := (s.syncIn q.aud).gate }
      ∧ t.syncIn q.aud = { s.syncIn q.aud with capture := none }
      ∧ (∀ i r, s.rx? i = some r → r.aud ≠ q.aud → t.rx? i = some r)
      ∧ (∀ i r, s.rx? i = some r → r.aud = q.aud →
          let matched : Prop :=
            ∃ w, q.tracks[r.track.val]? = some w ∧ suits r.kind w.kind = true
          let moves : Prop := matched ∧ (r.state = .joined ∨ r.state = .silent)
            ∧ ∃ h, r.heard = some h ∧ h.lane ≠ q.lane
          (¬matched → t.rx? i = some { r with unmatched := true })
          ∧ (matched → ¬moves → t.rx? i = some { r with unmatched := false })
          ∧ (moves → t.rx? i = some { r with
              unmatched := false, state := .moving, movedFrom := some q.aud
              joinDl := some (after s.clock.time (s.setting .joinWindow)) }))
      ∧ (t.lane q.lane).rotation = (s.lane q.lane).rotation
          ++ (s.roster.filter fun r => r.aud == q.aud && r.state != .lost
                && !(s.lane q.lane).rotation.contains r.index).map RxRec.index
      ∧ (t.lane q.lane.other).rotation = (s.lane q.lane.other).rotation.filter (fun i =>
          !(s.roster.any fun r => r.index == i && r.aud == q.aud && r.state != .lost
              && !(r.state == .moving
                    && (r.movedFrom.map fun b => s.openOn b q.lane.other).getD false)))
      ∧ (∀ l, t.lane l = { s.lane l with rotation := (t.lane l).rotation })
      ∧ Responded m rest .ok (rateClamped q.rate)
          ([(t.timeline q.aud).epoch] ++ be32 (t.timeline q.aud).rate
            ++ (w.tracks.flatMap fun r => be16 r.listeners)
            ++ be16 (t.roster.filter fun r => r.aud == q.aud && r.unmatched).length
            ++ be16 (t.roster.filter fun r => r.aud == q.aud && r.state == .moving
                && ((s.rx? r.index).map RxRec.state == some .joined
                  || (s.rx? r.index).map RxRec.state == some .silent)).length) s t
      ∧ ChangesOnly
          [.show_ q.aud, .timeline q.aud, .sync q.aud, .roster, .lane .A, .lane .B, .inbox,
           .outbox] s t)

/-- A SHOW_CLOSE of an open auditorium frees every cue of it, appends their blocks to the free-block
list track by track in lineup order, removes its repair entries and WITHDRAW notices from its lane and
nothing else from their lists, and leaves its Timeline INACTIVE with the epoch kept; a build of the lane in
progress then stamps it no more, has no reading of it, and walks, offers and serves nothing for it; the response
counts what was freed and removed. A SHOW_CLOSE of bad form is refused, and then one of a CLOSED auditorium
(R13, R14, R15, R69, R101). That an ANNOUNCE already begun for a receiver of the
auditorium is kept is log entry 30; that steps 2 and 7 keep their place, 19. -/
def Obligations.ShowCloseFreesEverything : Prop :=
  ∀ m rest s, Taken .showClose m rest s →
    (showClose? m.body = none → Refused .showClose m rest .badFormat s)
    ∧ ∀ a, showClose? m.body = some a →
    (s.isOpen a = false → Refused .showClose m rest .notOpen s)
    ∧ ∀ w, s.theShow? a = some w → CueTableOk s →
    let stays (n : Notice) : Bool := match n.item with
      | .withdraw x _ _ => x != a
      | .release _ _ => true
    ∃ t, exec .showClose s = .next t ∧ t.theShow? a = none
      ∧ t.table.cues = s.table.cues.filter (fun c => c.aud != a)
      ∧ t.table.free = s.table.free ++ ((s.slotsOf a).filterMap s.cueAt).flatMap Cue.blocks
      ∧ t.timeline a = { Timeline.reset with epoch := (s.timeline a).epoch }
      ∧ t.syncIn a = { s.syncIn a with capture := none }
      ∧ (let x := lessRepairs (fun e => e.aud == a) (s.lane w.lane)
        t.lane w.lane = { x with
          notices := x.notices.filter stays
          build := x.build.map fun b => { b with
            readings := b.readings.filter fun y => y.1 != a
            stage := match b.stage with
              | .stamps left => .stamps (left.filter fun x => x != a)
              | .notices passed placed =>
                .notices ((x.notices.take passed).filter stays).length placed
              | st => stageLeft a true s t st } })
      ∧ Responded m rest .ok false
          (be16 (s.table.cues.length - t.table.cues.length)
            ++ be16 (t.table.free.length - s.table.free.length)
            ++ be8 ((s.lane w.lane).repairs.length - (t.lane w.lane).repairs.length)
            ++ be8 ((s.lane w.lane).notices.length - (t.lane w.lane).notices.length)) s t
      ∧ ChangesOnly
          [.show_ a, .timeline a, .sync a, .cues, .freeBlocks, .lane w.lane, .cond .tlCoast,
           .cond .tlLost, .cond .poolLow, .inbox, .outbox] s t

/-- A SHOW_WINDOW of an existing track replaces its base and limit, changes nothing else of the track,
and answers with the previous and the new window; for a closed auditorium or a missing track it is
refused (R11). -/
def Obligations.ShowWindowReplacesTheWindow : Prop :=
  ∀ m rest s q, Taken .showWindow m rest s → showWindow? m.body = some q →
    (s.isOpen q.aud = false →
      ∃ t, exec .showWindow s = .next t ∧ Responded m rest .notOpen false [] s t
        ∧ ChangesOnly [.inbox, .outbox] s t)
    ∧ (s.isOpen q.aud = true → s.track? q.aud q.track = none →
      ∃ t, exec .showWindow s = .next t ∧ Responded m rest .noTrack false [] s t
        ∧ ChangesOnly [.inbox, .outbox] s t)
    ∧ ∀ r, s.track? q.aud q.track = some r →
      ∃ t, exec .showWindow s = .next t
        ∧ t.track? q.aud q.track = some { r with base := q.base, limit := q.limit }
        ∧ (∀ u, u ≠ q.track → t.track? q.aud u = s.track? q.aud u)
        ∧ t.laneOf? q.aud = s.laneOf? q.aud ∧ t.cueCount q.aud = s.cueCount q.aud
        ∧ Responded m rest .ok false
            (be16 r.base ++ be16 r.limit ++ be16 q.base ++ be16 q.limit) s t
        ∧ ChangesOnly [.show_ q.aud, .inbox, .outbox] s t

/-! ### The Cue Table (chapter 3) -/

/-- A CUE_POST that passes the checks of R53 takes the lowest free slot and blocks from the head of the
free-block list, writes the record as WAITING and AHEAD with revision 0, stores its inline bytes and no
others, stands in its track's lineup by (in-point, cue number), raises the cue count, and removes a
repair entry for its number; nothing else of the show or of the lane changes, and POOL_LOW follows the
free-block count. Any other is refused by the first check it fails: form, a CLOSED auditorium, a missing
track, another kind, a number out of the window, a number in use, points or lengths out of order, an
out-point the film has passed, the quota, the pool (R51 to R55, R120, R130). That step 7 of a build keeps its
place is log entry 19. -/
def Obligations.CuePostWritesTheRecord : Prop :=
  ∀ m rest s, Taken .cuePost m rest s →
    (cuePost? m.body = none → Refused .cuePost m rest .badFormat s)
    ∧ ∀ q, cuePost? m.body = some q → RefusedOffTrack .cuePost m rest q.aud q.track s
    ∧ ∀ r, s.isOpen q.aud = true → s.track? q.aud q.track = some r →
    let admitted : Prop := r.base ≤ q.num ∧ q.num ≤ r.limit
    let isNew : Prop := s.findCue q.aud q.track q.num = none
    let formed : Prop := q.body.inP < q.body.outP
      ∧ (q.kind = .caption → 1 ≤ q.body.declared ∧ q.body.declared ≤ 512)
      ∧ (q.kind = .clip → 1 ≤ q.body.declared ∧ q.body.declared ≤ 16384 ∧ q.body.attrs = none)
      ∧ q.body.inline.length ≤ q.body.declared
    let inTime : Prop := ∀ p, (s.timeline q.aud).project s.clock.time = some p → p < q.body.outP
    let inQuota : Prop := s.cueCount q.aud < s.setting .audCueQuota
    let hasRoom : Prop := blocksFor q.body.declared ≤ s.table.free.length
    (q.kind ≠ r.kind → Refused .cuePost m rest .kind s)
    ∧ (q.kind = r.kind → ¬admitted → Refused .cuePost m rest .outOfWindow s)
    ∧ (q.kind = r.kind → admitted → ¬isNew → Refused .cuePost m rest .exists_ s)
    ∧ (q.kind = r.kind → admitted → isNew → ¬formed → Refused .cuePost m rest .badFormat s)
    ∧ (q.kind = r.kind → admitted → isNew → formed → ¬inTime → Refused .cuePost m rest .late s)
    ∧ (q.kind = r.kind → admitted → isNew → formed → inTime → ¬inQuota →
        Refused .cuePost m rest .quota s)
    ∧ (q.kind = r.kind → admitted → isNew → formed → inTime → inQuota → ¬hasRoom →
        Refused .cuePost m rest .noRoom s)
    ∧ ∀ l k, q.kind = r.kind → admitted → isNew → formed → inTime → inQuota → hasRoom →
    s.laneOf? q.aud = some l → s.lowestFreeSlot = some k → CueTableOk s →
    Memory.wf s.table.payload = true →
    ∃ (t : State) (c : Cue), exec .cuePost s = .next t
      ∧ c = { slot := k, aud := q.aud, track := q.track, num := q.num, kind := q.kind,
              inP := q.body.inP, outP := q.body.outP, rev := 0, declared := q.body.declared,
              fill := q.body.inline.length, off := 0,
              blocks := s.table.free.take (blocksFor q.body.declared),
              attrs := if q.kind = .caption
                then some (q.body.attrs.getD ⟨0, .centre, false, false⟩) else none,
              delivery := .waiting, phase := .ahead, air := 0, late := false, relaunch := false,
              repeatDue := false, underrun := false }
      ∧ (∀ d, d ∈ t.table.cues ↔ d = c ∨ d ∈ s.table.cues)
      ∧ t.table.free = s.table.free.drop (blocksFor q.body.declared)
      ∧ (∀ (i : Nat) (v : Byte), q.body.inline[i]? = some v →
          payloadByte c.blocks t.table.payload i = v)
      ∧ (∀ j, (∀ i, i < q.body.inline.length → payloadAddr c.blocks i ≠ some j) →
          memRead t.table.payload j = memRead s.table.payload j)
      ∧ (∃ l1 l2, s.lineup q.aud q.track = l1 ++ l2 ∧ t.lineup q.aud q.track = l1 ++ k :: l2
          ∧ (∀ x ∈ l1, keyLt (c.inP, c.num) (s.lineupKey x) = false)
          ∧ (∀ x, l2.head? = some x → keyLt (c.inP, c.num) (s.lineupKey x) = true))
      ∧ t.cueCount q.aud = s.cueCount q.aud + 1 ∧ LineupOnly q.aud q.track s t
      ∧ t.lane l =
          lessRepairs (fun e => e.aud == q.aud && e.track == q.track && e.num == q.num) (s.lane l)
      ∧ (t.cond .poolLow).on = decide (t.table.free.length < s.setting .poolLowMark)
      ∧ Responded m rest .ok false
          (be16 k ++ be16 ((t.lineup q.aud q.track).idxOf k) ++ be8 0 ++ be8 c.blocks.length
            ++ be16 t.table.free.length ++ be16 (2048 - t.table.cues.length)) s t
      ∧ ChangesOnly
          [.show_ q.aud, .cues, .freeBlocks, .payload, .lane l, .cond .poolLow, .inbox, .outbox] s t

/-- A CUE_DATA at the fill mark of a cue that is not RETAINED stores its bytes after those already there,
raises the fill mark by their number, and touches no other byte and no other cue. It is refused, with
no change, with ORDER when its offset is not the fill mark, else with BAD_FORMAT when its bytes pass the
declared length, else with LATE when the cue is RETAINED; before that for its form, a CLOSED auditorium, a
missing track or a missing cue (R52, R56, R57). -/
def Obligations.CueDataRaisesTheFillMark : Prop :=
  ∀ m rest s, Taken .cueData m rest s →
    (cueData? m.body = none → Refused .cueData m rest .badFormat s)
    ∧ ∀ q, cueData? m.body = some q → RefusedOffTrack .cueData m rest q.aud q.track s
    ∧ ((s.track? q.aud q.track).isSome = true → s.findCue q.aud q.track q.num = none →
        Refused .cueData m rest .noSuch s)
    ∧ ∀ c, (s.track? q.aud q.track).isSome = true → s.findCue q.aud q.track q.num = some c →
    CueTableOk s → Memory.wf s.table.payload = true →
    (q.offset = c.fill → c.fill + q.data.length ≤ c.declared → c.phase ≠ .retained →
      ∃ t, exec .cueData s = .next t
        ∧ t.table.cues = s.table.cues.map (fun d =>
            if d.slot = c.slot then { d with fill := c.fill + q.data.length } else d)
        ∧ (∀ (i : Nat) (v : Byte), q.data[i]? = some v →
            payloadByte c.blocks t.table.payload (c.fill + i) = v)
        ∧ (∀ j, (∀ i, i < q.data.length → payloadAddr c.blocks (c.fill + i) ≠ some j) →
            memRead t.table.payload j = memRead s.table.payload j)
        ∧ Responded m rest .ok false
            ([c.rev] ++ be16 (c.fill + q.data.length) ++ be16 c.declared) s t
        ∧ ChangesOnly [.cues, .payload, .inbox, .outbox] s t)
    ∧ (q.offset ≠ c.fill ∨ c.declared < c.fill + q.data.length ∨ c.phase = .retained →
      ∃ t, exec .cueData s = .next t ∧ ChangesOnly [.inbox, .outbox] s t
        ∧ Responded m rest
            (if q.offset ≠ c.fill then .order
             else if c.declared < c.fill + q.data.length then .badFormat else .late) false [] s t)

/-- A CUE_REVISE that passes the checks of R58 rewrites the cue in its slot with the next revision,
WAITING and AHEAD, with new blocks from the head of the free-block list that its old blocks first join;
its inline bytes are stored and no other byte changes; the relaunch flag stays; with another in-point it
takes its place in the lineup anew, and with the same one keeps it; its repair entries are removed; nothing
else of the show or of the lane changes, and POOL_LOW follows the free-block count. Any other is refused by the
first check it fails: form, a CLOSED auditorium, a missing track, a missing cue, points or lengths out of
order, an out-point the film has passed, the pool (R48, R51, R52, R58, R59, R60, R120, R130). That step 7 of a
build keeps its place is log entry 19. -/
def Obligations.CueReviseRewritesTheRecord : Prop :=
  ∀ m rest s, Taken .cueRevise m rest s →
    (cueRevise? m.body = none → Refused .cueRevise m rest .badFormat s)
    ∧ ∀ q, cueRevise? m.body = some q → RefusedOffTrack .cueRevise m rest q.aud q.track s
    ∧ ((s.track? q.aud q.track).isSome = true → s.findCue q.aud q.track q.num = none →
        Refused .cueRevise m rest .noSuch s)
    ∧ ∀ c, (s.track? q.aud q.track).isSome = true → s.findCue q.aud q.track q.num = some c →
    let formed : Prop := q.body.inP < q.body.outP
      ∧ (c.kind = .caption → 1 ≤ q.body.declared ∧ q.body.declared ≤ 512)
      ∧ (c.kind = .clip → 1 ≤ q.body.declared ∧ q.body.declared ≤ 16384 ∧ q.body.attrs = none)
      ∧ q.body.inline.length ≤ q.body.declared
    let inTime : Prop := ∀ p, (s.timeline q.aud).project s.clock.time = some p → p < q.body.outP
    let hasRoom : Prop := blocksFor q.body.declared ≤ s.table.free.length + c.blocks.length
    (¬formed → Refused .cueRevise m rest .badFormat s)
    ∧ (formed → ¬inTime → Refused .cueRevise m rest .late s)
    ∧ (formed → inTime → ¬hasRoom → Refused .cueRevise m rest .noRoom s)
    ∧ ∀ l, formed → inTime → hasRoom → s.laneOf? q.aud = some l → CueTableOk s →
    Memory.wf s.table.payload = true →
    ∃ (t : State) (c' : Cue), exec .cueRevise s = .next t
      ∧ c' = { c with
          inP := q.body.inP, outP := q.body.outP, rev := c.rev + 1, declared := q.body.declared,
          fill := q.body.inline.length, off := 0,
          blocks := (s.table.free ++ c.blocks).take (blocksFor q.body.declared),
          attrs := if c.kind = .caption
            then some (q.body.attrs.getD ⟨0, .centre, false, false⟩) else none,
          delivery := .waiting, phase := .ahead, air := 0, late := false, repeatDue := false,
          underrun := false }
      ∧ t.table.cues = s.table.cues.map (fun d => if d.slot = c.slot then c' else d)
      ∧ t.table.free = (s.table.free ++ c.blocks).drop (blocksFor q.body.declared)
      ∧ (∀ (i : Nat) (v : Byte), q.body.inline[i]? = some v →
          payloadByte c'.blocks t.table.payload i = v)
      ∧ (∀ j, (∀ i, i < q.body.inline.length → payloadAddr c'.blocks i ≠ some j) →
          memRead t.table.payload j = memRead s.table.payload j)
      ∧ (q.body.inP = c.inP → t.lineup q.aud q.track = s.lineup q.aud q.track)
      ∧ (q.body.inP ≠ c.inP → ∃ l1 l2,
          (s.lineup q.aud q.track).filter (fun k => k != c.slot) = l1 ++ l2
          ∧ t.lineup q.aud q.track = l1 ++ c.slot :: l2
          ∧ (∀ k ∈ l1, keyLt (c'.inP, c'.num) (s.lineupKey k) = false)
          ∧ (∀ k, l2.head? = some k → keyLt (c'.inP, c'.num) (s.lineupKey k) = true))
      ∧ t.cueCount q.aud = s.cueCount q.aud ∧ LineupOnly q.aud q.track s t
      ∧ t.lane l =
          lessRepairs (fun e => e.aud == q.aud && e.track == q.track && e.num == q.num) (s.lane l)
      ∧ (t.cond .poolLow).on = decide (t.table.free.length < s.setting .poolLowMark)
      ∧ Responded m rest .ok false
          ([c.rev + 1] ++ be16 ((t.lineup q.aud q.track).idxOf c.slot) ++ be8 c'.blocks.length
            ++ be16 t.table.free.length) s t
      ∧ ChangesOnly
          [.show_ q.aud, .cues, .freeBlocks, .payload, .lane l, .cond .poolLow, .inbox, .outbox] s t

/-- A CUE_WITHDRAW frees the cue: its record goes, its blocks join the tail of the free-block list, the
cue count falls by 1, its repair entry becomes a WAITING GONE entry in its place with its ask count and
revision kept. No WITHDRAW notice is needed for a WAITING or RETAINED cue; for any other it is dropped just
when the list holds 32 other notices, and is else placed, at the tail or by renewing the equal one; the
response says which. A build of the lane neither walks nor offers the freed slot, nothing else of the lane or of
the show changes, and POOL_LOW follows the free-block count. It is refused for its form, a CLOSED auditorium, a
missing track or a missing cue (R51, R52, R61, R62, R69, R108, R132). That an offer lapses when its slot has been
taken again is log entry 24. -/
def Obligations.CueWithdrawFreesTheCue : Prop :=
  ∀ m rest s, Taken .cueWithdraw m rest s →
    (cueWithdraw? m.body = none → Refused .cueWithdraw m rest .badFormat s)
    ∧ ∀ q, cueWithdraw? m.body = some q → RefusedOffTrack .cueWithdraw m rest q.aud q.track s
    ∧ ((s.track? q.aud q.track).isSome = true → s.findCue q.aud q.track q.num = none →
        Refused .cueWithdraw m rest .noSuch s)
    ∧ ∀ c l, (s.track? q.aud q.track).isSome = true → s.findCue q.aud q.track q.num = some c →
    s.laneOf? q.aud = some l → CueTableOk s →
    let item : NoticeItem := .withdraw q.aud q.track q.num
    ∃ (t : State) (out : NoticeOutcome), exec .cueWithdraw s = .next t
      ∧ t.table.cues = s.table.cues.filter (fun d => d.slot != c.slot)
      ∧ t.table.free = s.table.free ++ c.blocks
      ∧ t.cueCount q.aud = s.cueCount q.aud - 1
      ∧ t.lineup q.aud q.track = (s.lineup q.aud q.track).filter (fun k => k != c.slot)
      ∧ LineupOnly q.aud q.track s t
      ∧ t.lane l = { s.lane l with
          repairs := (s.lane l).repairs.map (fun e =>
            if e.aud = q.aud ∧ e.track = q.track ∧ e.num = q.num
            then { e with kind := .gone, state := .waiting, off := 0, hold := 0 } else e)
          notices := (t.lane l).notices
          build := (s.lane l).build.map fun b => { b with
            stage := stageKeeps (fun _ => true) (fun k => k != c.slot) (fun o => o.slot != c.slot)
              b.stage } }
      ∧ (t.cond .poolLow).on = decide (t.table.free.length < s.setting .poolLowMark)
      ∧ (out = .notNeeded ↔ c.delivery = .waiting ∨ c.phase = .retained)
      ∧ (out = .dropped ↔ c.delivery ≠ .waiting ∧ c.phase ≠ .retained
          ∧ 32 ≤ (s.lane l).notices.length ∧ ∀ n ∈ (s.lane l).notices, n.item ≠ item)
      ∧ (out = .placed → (t.lane l).notices =
          if ∃ n ∈ (s.lane l).notices, n.item = item then
            (s.lane l).notices.map fun n =>
              if n.item = item then { n with left := s.setting .noticeRepeat } else n
          else (s.lane l).notices ++ [⟨item, s.setting .noticeRepeat⟩])
      ∧ (out ≠ .placed → (t.lane l).notices = (s.lane l).notices)
      ∧ (out = .dropped → t.cond .noticeDropped = ⟨true, .lane l⟩)
      ∧ (out ≠ .dropped → t.cond .noticeDropped = s.cond .noticeDropped)
      ∧ Responded m rest .ok false
          (be8 (noticeOutcomeCode out) ++ be8 c.blocks.length ++ be16 t.table.free.length) s t
      ∧ ChangesOnly
          [.show_ q.aud, .cues, .freeBlocks, .lane l, .cond .noticeDropped, .cond .poolLow, .inbox,
           .outbox] s t

/-! ### The Receiver Roster (chapter 8) -/

/-- An RX_ISSUE that passes the checks of R139 writes the lowest FREE record as ISSUED with a join
deadline JOIN_WINDOW away, raises its track's listener count by 1 and appends the record to the rotation
of its auditorium's lane; a rise from 0 takes the CONTENT repair entries for the cues passed over unattended
from the queue; no other record, and nothing else of the lane or of any show, changes. Any other is refused by
the first check it fails: form, a CLOSED auditorium, a missing track, a kind that does not suit the track's, a
serial in use, no FREE record (R52, R68, R120, R130, R138, R139, R140, R151). That step 7 of a build keeps its
place is log entry 19. -/
def Obligations.RxIssueWritesTheLowestFreeRecord : Prop :=
  ∀ m rest s, Taken .rxIssue m rest s →
    (rxIssue? m.body = none → Refused .rxIssue m rest .badFormat s)
    ∧ ∀ q, rxIssue? m.body = some q → RefusedOffTrack .rxIssue m rest q.aud q.track s
    ∧ ∀ w, s.isOpen q.aud = true → s.track? q.aud q.track = some w →
    (suits q.kind w.kind = false → Refused .rxIssue m rest .kind s)
    ∧ (suits q.kind w.kind = true → (s.rxBySerial? q.serial).isSome = true →
        Refused .rxIssue m rest .duplicate s)
    ∧ (suits q.kind w.kind = true → s.rxBySerial? q.serial = none →
        (∀ j, (s.rx? j).isSome = true) → Refused .rxIssue m rest .full s)
    ∧ ∀ l i, suits q.kind w.kind = true → s.rxBySerial? q.serial = none → s.rx? i = none →
    (∀ j, j.val < i.val → (s.rx? j).isSome = true) → s.laneOf? q.aud = some l → CueTableOk s →
    ∃ t, exec .rxIssue s = .next t
      ∧ t.rx? i = some
          { index := i, serial := q.serial, kind := q.kind, state := .issued, aud := q.aud,
            track := q.track, seat := q.seat, issuedAt := s.clock.time, heard := none,
            poor := false, unmatched := false, movedFrom := none, loss := none,
            joinDl := some (after s.clock.time (s.setting .joinWindow)), silenceDl := none,
            lossDl := none, marks := ⟨none, none⟩ }
      ∧ (∀ j, j ≠ i → t.rx? j = s.rx? j)
      ∧ t.listeners q.aud q.track = w.listeners + 1
      ∧ ListenersOnly [(q.aud, q.track)] s t
      ∧ t.lane l = { (if w.listeners = 0 then lessPassedOver q.aud q.track s (s.lane l) else s.lane l) with
          rotation := (s.lane l).rotation.filter (fun x => x != i) ++ [i] }
      ∧ (0 < w.listeners → t.table.cues = s.table.cues)
      ∧ Responded m rest .ok false
          (be16 i.val ++ [BitVec.ofNat 8 q.serial]
            ++ be32 (after s.clock.time (s.setting .joinWindow)).toNat
            ++ be16 (t.listeners q.aud q.track) ++ be16 (512 - t.roster.length)) s t
      ∧ ChangesOnly [.show_ q.aud, .cues, .lane l, .roster, .inbox, .outbox] s t

/-- When an RX_ISSUE, an RX_MOVE or a CHECKIN that leaves LOST raises a listener count from 0, every cue of
the track that was passed over unattended (air count 0, AHEAD, SENT) waits again with send offset 0, no
other cue changes, and the CONTENT repair entries for the cues that wait again are removed, the others keeping
their order. A rise from above 0 tells the Cue Table nothing (R68, R120, R130, R138). That step 7 of a build keeps
its place is log entry 19. -/
def Obligations.RisingCountReWaitsUnattendedCues : Prop :=
  ∀ s, CueTableOk s →
    let rises (c : Instr) (a : Aud) (u : Track) (l : LaneId) (w : TrackRec) : Prop :=
      ∃ t, exec c s = .next t
        ∧ (w.listeners = 0 → ReWaited a u l s t)
        ∧ (0 < w.listeners → t.table.cues = s.table.cues
            ∧ (t.lane l).repairs = (s.lane l).repairs ∧ (t.lane l).build = (s.lane l).build)
    (∀ m rest q w l i, Taken .rxIssue m rest s → rxIssue? m.body = some q →
      s.laneOf? q.aud = some l → s.track? q.aud q.track = some w → suits q.kind w.kind = true →
      s.rxBySerial? q.serial = none → s.lowestFreeRx = some i →
      rises .rxIssue q.aud q.track l w)
    ∧ (∀ m rest q r w l, Taken .rxMove m rest s → rxMove? m.body = some q → RosterOk s →
      s.rxNamed q.sel = some r → s.laneOf? q.aud = some l → s.track? q.aud q.track = some w →
      suits r.kind w.kind = true → rises .rxMove q.aud q.track l w)
    ∧ (∀ arrived msg m r w l, s.phase = .ready → checkin? msg = some m → s.rx? m.addr = some r →
      m.check = BitVec.ofNat 8 r.serial → r.state = .lost → s.laneOf? r.aud = some l →
      s.track? r.aud r.track = some w → suits r.kind w.kind = true →
      rises (.checkin arrived msg) r.aud r.track l w)

/-- An RX_MOVE of a record in use to a track that suits it makes the record MOVING from its old
auditorium with a fresh join deadline, keeps the seat when none is given, moves its count, and places it
in the rotation of its new lane, and in the other lane's just when its old auditorium is open there, its
mark absent for each lane it is placed on. A move to the record's present auditorium and track is such a move too: the
count is unchanged if the record was counted, and otherwise rises by 1. A rise from 0 takes the CONTENT repair
entries for the cues passed over unattended from the queue; nothing else of a lane or of any show changes. The
response carries the places, the deadline, both counts and the rotations. Any other is refused by the first check
it fails: form, no such record, a CLOSED auditorium, a missing track, a kind that does not suit the track's (R68,
R120, R130, R137, R138, R141, R142, R143). That step 7 of a build keeps its place is log entry 19. -/
def Obligations.RxMoveRebindsTheRecord : Prop :=
  ∀ m rest s, Taken .rxMove m rest s →
    (rxMove? m.body = none → Refused .rxMove m rest .badFormat s)
    ∧ ∀ q, rxMove? m.body = some q → (s.rxNamed q.sel = none → Refused .rxMove m rest .noSuch s)
    ∧ ∀ r, s.rxNamed q.sel = some r → RefusedOffTrack .rxMove m rest q.aud q.track s
    ∧ ∀ w, s.isOpen q.aud = true → s.track? q.aud q.track = some w →
    (suits r.kind w.kind = false → Refused .rxMove m rest .kind s)
    ∧ ∀ l, suits r.kind w.kind = true → s.laneOf? q.aud = some l → RosterOk s → CueTableOk s →
    let same : Prop := q.aud = r.aud ∧ q.track = r.track
    let both : Prop := s.openOn r.aud l.other = true
    let expiry := after s.clock.time (s.setting .joinWindow)
    ∃ t, exec .rxMove s = .next t
      ∧ t.rx? r.index = some { r with
          aud := q.aud, track := q.track, seat := if q.seat = [] then r.seat else q.seat,
          state := .moving, unmatched := false, loss := none, movedFrom := some r.aud,
          joinDl := some expiry
          marks := if both then ⟨none, none⟩ else r.marks.put l none }
      ∧ (∀ j, j ≠ r.index → t.rx? j = s.rx? j)
      ∧ (¬same → t.listeners q.aud q.track = s.listeners q.aud q.track + 1
          ∧ t.listeners r.aud r.track =
              (if s.counted r = true then s.listeners r.aud r.track - 1
               else s.listeners r.aud r.track))
      ∧ (same → s.counted r = false → t.listeners r.aud r.track = s.listeners r.aud r.track + 1)
      ∧ (same → s.counted r = true → ListenersOk s →
          t.listeners r.aud r.track = s.listeners r.aud r.track)
      ∧ ListenersOnly [(q.aud, q.track), (r.aud, r.track)] s t
      ∧ t.lane l = { (if w.listeners = 0 then lessPassedOver q.aud q.track s (s.lane l) else s.lane l) with
          rotation := (s.lane l).rotation.filter (fun x => x != r.index) ++ [r.index] }
      ∧ t.lane l.other = { s.lane l.other with
          rotation := (s.lane l.other).rotation.filter (fun x => x != r.index)
            ++ (if both then [r.index] else []) }
      ∧ (0 < w.listeners → t.table.cues = s.table.cues)
      ∧ Responded m rest .ok false
          (be16 r.index.val ++ be8 r.aud.val ++ be8 r.track.val ++ be8 r.aud.val ++ be32 expiry.toNat
            ++ (match t.track? r.aud r.track with
                | some v => 1 :: be16 v.listeners
                | none => [0, 0, 0])
            ++ be16 (t.listeners q.aud q.track)
            ++ be8 ((if r.index ∈ (t.lane .A).rotation then 1 else 0)
                + (if r.index ∈ (t.lane .B).rotation then 2 else 0))) s t
      ∧ ChangesOnly
          [.show_ q.aud, .show_ r.aud, .cues, .lane .A, .lane .B, .roster, .inbox, .outbox] s t

/-- An RX_RETURN of a record in use makes it FREE, lowers its track's count if it was counted, and removes it
from both rotations. On each lane where the auditorium of the record, or the moved-from auditorium of a
MOVING one, is open, a RELEASE notice is placed: an equal one standing there is renewed, full list or not;
else it joins the tail; else, the list holding 32 others, it is dropped and NOTICE_DROPPED latched with the
lane. On any other lane none is needed. The response carries the index, the state before, the serial and each
lane's outcome. An RX_RETURN of bad form is refused, and then one that names no record in use (R108, R137, R138,
R144, R145, R151). That NOTICE_DROPPED names lane B when both lanes drop
theirs is log entry 34. -/
def Obligations.RxReturnFreesTheRecord : Prop :=
  ∀ m rest s, Taken .rxReturn m rest s →
    (rxNamed? m.body = none → Refused .rxReturn m rest .badFormat s)
    ∧ ∀ sel, rxNamed? m.body = some sel → (s.rxNamed sel = none → Refused .rxReturn m rest .noSuch s)
    ∧ ∀ r, s.rxNamed sel = some r →
    let item : NoticeItem := .release r.index (BitVec.ofNat 8 r.serial)
    let wanted (l : LaneId) : Prop := s.openOn r.aud l = true
      ∨ (r.state = .moving ∧ ∃ a, r.movedFrom = some a ∧ s.openOn a l = true)
    let stands (l : LaneId) : Prop := ∃ n ∈ (s.lane l).notices, n.item = item
    let becomes (t : State) (l : LaneId) (ns : List Notice) : Prop :=
      t.lane l = { s.lane l with
        rotation := (s.lane l).rotation.filter (fun x => x != r.index), notices := ns }
    let ends (t : State) (l : LaneId) (out : NoticeOutcome) : Prop :=
      (¬wanted l → out = .notNeeded ∧ becomes t l (s.lane l).notices)
        ∧ (wanted l → stands l → out = .placed
            ∧ becomes t l ((s.lane l).notices.map fun n =>
                if n.item = item then { n with left := s.setting .noticeRepeat } else n))
        ∧ (wanted l → ¬stands l → (s.lane l).notices.length < 32 → out = .placed
            ∧ becomes t l ((s.lane l).notices ++ [⟨item, s.setting .noticeRepeat⟩]))
        ∧ (wanted l → ¬stands l → 32 ≤ (s.lane l).notices.length → out = .dropped
            ∧ becomes t l (s.lane l).notices)
    ∃ (t : State) (outA outB : NoticeOutcome), exec .rxReturn s = .next t
      ∧ t.rx? r.index = none ∧ (∀ j, j ≠ r.index → t.rx? j = s.rx? j)
      ∧ (t.listeners r.aud r.track =
          if s.counted r = true then s.listeners r.aud r.track - 1
          else s.listeners r.aud r.track)
      ∧ ListenersOnly [(r.aud, r.track)] s t ∧ ends t .A outA ∧ ends t .B outB
      ∧ t.cond .noticeDropped =
          (if outB = .dropped then ⟨true, .lane .B⟩
           else if outA = .dropped then ⟨true, .lane .A⟩ else s.cond .noticeDropped)
      ∧ Responded m rest .ok false
          (be16 r.index.val ++ be8 (rxStateCode r.state) ++ be24 r.serial
            ++ be8 (noticeOutcomeCode outA) ++ be8 (noticeOutcomeCode outB)) s t
      ∧ ChangesOnly
          [.show_ r.aud, .lane .A, .lane .B, .roster, .cond .noticeDropped, .inbox, .outbox] s t

/-- A record whose judged deadline has been reached expires: ISSUED or MOVING into LOST at the join
deadline, JOINED into SILENT at the silence deadline, SILENT into LOST at the loss deadline. Entering
LOST uncounts the record, takes it out of both rotations and latches RX_LOST against its auditorium; no
other record changes (R147, R148). The expiry is a command that may come late (log entry 4). -/
def Obligations.DeadlinesExpireRecords : Prop :=
  ∀ (i : RxIdx) (s : State) (r : RxRec) (d : SiteTime), s.phase ≠ .inReset → s.rx? i = some r →
    0 ≤ Machine.sdiff s.clock.time d →
    let lost (c : Instr) (why : LossReason) : Prop := ∃ t, exec c s = .next t
      ∧ t.rx? i = some { r with
          state := .lost, loss := some why, movedFrom := none, joinDl := none }
      ∧ (∀ j, j ≠ i → t.rx? j = s.rx? j)
      ∧ (t.listeners r.aud r.track =
          if s.counted r = true then s.listeners r.aud r.track - 1
          else s.listeners r.aud r.track)
      ∧ ListenersOnly [(r.aud, r.track)] s t
      ∧ (∀ l, t.lane l = { s.lane l with
          rotation := (s.lane l).rotation.filter fun x => x != i })
      ∧ t.cond .rxLost = ⟨true, .aud r.aud⟩
      ∧ ChangesOnly [.show_ r.aud, .lane .A, .lane .B, .roster, .cond .rxLost] s t
    (r.joinDl = some d → r.state = .issued → lost (.joinDeadlineExpiry i) .neverJoined)
    ∧ (r.joinDl = some d → r.state = .moving → lost (.joinDeadlineExpiry i) .moveUnheard)
    ∧ (r.lossDl = some d → r.state = .silent → lost (.lossDeadlineExpiry i) .silentTooLong)
    ∧ (r.silenceDl = some d → r.state = .joined →
      ∃ t, exec (.silenceDeadlineExpiry i) s = .next t
        ∧ t.rx? i = some { r with state := .silent }
        ∧ (∀ j, j ≠ i → t.rx? j = s.rx? j) ∧ ChangesOnly [.roster] s t)

/-! ### Radio Lanes and builds (chapter 5) -/

/-- A LANE_START of a STOPPED lane with RF_READY asserted makes it RUNNING with frame number 0 and begins
at once, in buffer 0, the build of frame 1 for the lane's next boundary strictly later than now; every
record's mark for the lane becomes absent; any other LANE_START is refused. A LANE_STOP makes the lane
STOPPED in every lane state: it abandons the build, empties what is not on the air, the Notice List
and the Repair Queue, and keeps the frame number and the rotation (R92, R93, R95, R131, R153). A start in a
boundary's own millisecond before it is log entry 33. -/
def Obligations.LaneStartBeginsAndLaneStopEmpties : Prop :=
  ∀ m rest s l,
    (Taken .laneStart m rest s → laneOnly? m.body = some l →
      ((s.lane l).state = .stopped → (s.lane l).rfReady = true →
        ∃ t air, exec .laneStart s = .next t
          ∧ t.lane l = { s.lane l with
              state := .running, frameNo := 0, missed := 0
              buf0 := .building ⟨l, 1, air, false, []⟩, buf1 := .empty
              build := some ⟨.b0, air, 1, [], [], .stamps (allAuds.filter fun a => s.openOn a l)⟩ }
          ∧ (∃ n, 0 < n ∧ n ≤ 20 ∧ air = after s.clock.time n ∧ isBoundary l air = true
              ∧ ∀ k, 0 < k → k < n → isBoundary l (after s.clock.time k) = false)
          ∧ t.roster = s.roster.map (fun r => { r with marks := r.marks.put l none })
          ∧ Responded m rest .ok false
              (be8 (laneCode l) ++ be8 1 ++ be32 air.toNat ++ be8 (s.lane l).notices.length) s t
          ∧ ChangesOnly [.lane l, .roster, .inbox, .outbox] s t)
      ∧ ((s.lane l).state ≠ .stopped →
        ∃ t, exec .laneStart s = .next t ∧ Responded m rest .busy false [] s t
          ∧ ChangesOnly [.inbox, .outbox] s t)
      ∧ ((s.lane l).state = .stopped → (s.lane l).rfReady = false →
        ∃ t, exec .laneStart s = .next t ∧ Responded m rest .laneNotReady false [] s t
          ∧ ChangesOnly [.inbox, .outbox] s t))
    ∧ (Taken .laneStop m rest s → laneOnly? m.body = some l →
      ∃ t, exec .laneStop s = .next t
        ∧ t.lane l = { s.lane l with
            state := .stopped, missed := 0, build := none, notices := [], repairs := []
            buf0 := if (s.lane l).buf0.isUnaired then .empty else (s.lane l).buf0
            buf1 := if (s.lane l).buf1.isUnaired then .empty else (s.lane l).buf1 }
        ∧ ((t.cond .laneFault).on = true ↔ (s.lane l.other).state = .fault)
        ∧ Responded m rest .ok false
            (be8 (laneStateCode (s.lane l).state)
              ++ be8 (if (s.lane l).buf0.isOnAir ∨ (s.lane l).buf1.isOnAir then 1 else 0)
              ++ be8 (s.lane l).notices.length ++ be8 (s.lane l).repairs.length) s t
        ∧ ChangesOnly [.lane l, .cond .laneFault, .inbox, .outbox] s t)

/-- At a boundary a RUNNING lane raises its frame number by 1. With no buffer ON_AIR the READY buffer
goes on the air whole, or the BUILDING one is cut and goes on the air as it stands, and a build for the
next boundary begins in the EMPTY buffer. With a buffer still ON_AIR, short of the third miss, nothing
goes on the air: the miss and the skip are counted, a READY buffer is held, a BUILDING one is cut and
becomes READY, and into an EMPTY one a build begins. Site time stays (R90, R95, R96, R97, R99, R185). The
model's choices in it: the bytes handed over stand in its record of them (log entry 13); a boundary is taken
once, its mark then clear (log entry 5); a build cut in step 1 keeps the stamps written so far (log entry 28,
DEDUCED); a build begun in the boundary's own millisecond before it is cut by it and put on the air (log entry
33). -/
def Obligations.BoundaryAirsAFrameOrSkips : Prop :=
  ∀ l s (i j : BufId) f g, s.phase ≠ .inReset → isBoundary l s.clock.time = true →
    s.clock.due.get l = true → (s.lane l).state = .running → i ≠ j →
    let x := s.lane l
    let taken (t : State) : Prop := t.clock = { s.clock with due := s.clock.due.put l false }
    let air := nextBoundary l s.clock.time
    let started : Option Build :=
      some ⟨j, air, x.frameNo + 2, [], [], .stamps (allAuds.filter fun a => s.openOn a l)⟩
    let blank : Frame := ⟨l, x.frameNo + 2, air, false, []⟩
    (x.buf i = .ready f → x.buf j = .empty →
      ∃ t, exec (.laneBoundary l) s = .next t ∧ taken t
        ∧ t.lane l = { (x.withBuf i (.onAir f)).withBuf j (.building blank) with
            frameNo := x.frameNo + 1, frameOut := f.bytes, build := started }
        ∧ ChangesOnly [.clock, .lane l] s t)
    ∧ (x.buf i = .building f → x.buf j = .empty →
      ∃ t, exec (.laneBoundary l) s = .next t ∧ taken t
        ∧ t.lane l =
          { (x.withBuf i (.onAir { f with cut := true })).withBuf j (.building blank) with
            frameNo := x.frameNo + 1, frameOut := Frame.bytes { f with cut := true }
            build := started }
        ∧ t.cond .buildCut = ⟨true, .lane l⟩
        ∧ t.laneCount l .cut = bump (s.laneCount l .cut)
        ∧ ChangesOnly [.clock, .lane l, .cond .buildCut, .laneCounter l .cut] s t)
    ∧ (x.buf i = .onAir g → x.missed + 1 < 3 → x.buf j = .ready f →
      ∃ t, exec (.laneBoundary l) s = .next t ∧ taken t
        ∧ t.lane l = { x with frameNo := x.frameNo + 1, missed := x.missed + 1 }
        ∧ t.laneCount l .skipped = bump (s.laneCount l .skipped)
        ∧ ChangesOnly [.clock, .lane l, .laneCounter l .skipped] s t)
    ∧ (x.buf i = .onAir g → x.missed + 1 < 3 → x.buf j = .building f →
      ∃ t, exec (.laneBoundary l) s = .next t ∧ taken t
        ∧ t.lane l = { x.withBuf j (.ready { f with cut := true }) with
            frameNo := x.frameNo + 1, missed := x.missed + 1, build := none }
        ∧ t.cond .buildCut = ⟨true, .lane l⟩
        ∧ t.laneCount l .cut = bump (s.laneCount l .cut)
        ∧ t.laneCount l .skipped = bump (s.laneCount l .skipped)
        ∧ ChangesOnly
            [.clock, .lane l, .cond .buildCut, .laneCounter l .cut, .laneCounter l .skipped] s t)
    ∧ (x.buf i = .onAir g → x.missed + 1 < 3 → x.buf j = .empty →
      ∃ t, exec (.laneBoundary l) s = .next t ∧ taken t
        ∧ t.lane l = { x.withBuf j (.building blank) with
            frameNo := x.frameNo + 1, missed := x.missed + 1, build := started }
        ∧ t.laneCount l .skipped = bump (s.laneCount l .skipped)
        ∧ ChangesOnly [.clock, .lane l, .laneCounter l .skipped] s t)

/-- At a boundary of a lane that is not RUNNING, and at the third boundary in a row that finds a frame
ON_AIR, which puts a RUNNING lane in FAULT, no frame goes on the air, and the phase pass ages every cue
of the auditoriums open on the lane whose Timeline gives a position: AHEAD to SHOWING from its in-point,
SHOWING to RETAINED from its out-point, and out of the table from its retire mark; every other cue
stays as it is. A SENDING clip that enters RETAINED is SENT with its underrun flag set and counted as an
underrun; a SENDING caption that does is SENT, and it and a WAITING cue retired with listeners are counted
late-dropped. CLIP_UNDERRUN and CUE_LATE are latched with the last auditorium of the pass that had such a cue,
and stay as they were when none had. Site time stays (R71, R72, R73, R87, R90, R91, R97, R175). The model's choices
in it: a boundary is taken once, its mark then clear (log entry 5); a cue that is SENDING and already RETAINED at
its retire mark is counted nowhere (log entry 31); the pass takes the auditoriums in ascending order (log entry
32). -/
def Obligations.UnservedBoundaryAgesTheCues : Prop :=
  ∀ l s, s.phase ≠ .inReset → isBoundary l s.clock.time = true → s.clock.due.get l = true →
    CueTableOk s →
    let x := s.lane l
    let faults : Prop :=
      x.state = .running ∧ (x.buf0.isOnAir = true ∨ x.buf1.isOnAir = true) ∧ 2 ≤ x.missed
    let ends (p : Nat) (c : Cue) : Bool := c.phase != .retained && decide (c.outP ≤ p)
      && (c.phase == .showing || decide (c.inP ≤ p))
    let stops (k : CueKind) (p : Nat) (c : Cue) : Bool :=
      ends p c && c.kind == k && c.delivery == .sending
    let missed (p : Nat) (c : Cue) : Bool := c.delivery == .waiting && (c.phase == .retained || ends p c)
      && decide (retireMark s c ≤ p) && decide (0 < s.listeners c.aud c.track)
    let hit (k : Nat → Cue → Bool) (a : Aud) : Prop := s.openOn a l = true
      ∧ ∃ p, (s.timeline a).project s.clock.time = some p ∧ ∃ c ∈ s.table.cues, c.aud = a ∧ k p c = true
    let latched (t : State) (x : Cond) (k : Nat → Cue → Bool) : Prop :=
      ((∀ a, ¬hit k a) → t.cond x = s.cond x)
        ∧ ∀ a, hit k a → (∀ a', a < a' → ¬hit k a') → t.cond x = ⟨true, .aud a⟩
    (x.state ≠ .running ∨ faults) →
    ∃ t, exec (.laneBoundary l) s = .next t
      ∧ t.clock = { s.clock with due := s.clock.due.put l false }
      ∧ (faults → (t.lane l).state = .fault ∧ (t.lane l).frameNo = x.frameNo + 1
          ∧ (t.lane l).missed = x.missed + 1 ∧ (t.lane l).build = none
          ∧ (t.cond .laneFault).on = true
          ∧ ∀ i, (t.lane l).buf i = if (x.buf i).isUnaired then .empty else x.buf i)
      ∧ (x.state ≠ .running → (t.lane l).state = x.state ∧ (t.lane l).frameNo = x.frameNo
          ∧ (t.lane l).missed = x.missed ∧ (∀ i, (t.lane l).buf i = x.buf i)
          ∧ t.cond .laneFault = s.cond .laneFault)
      ∧ (t.lane l).frameOut = x.frameOut ∧ (t.lane l).notices = x.notices
      ∧ (t.lane l).rotation = x.rotation ∧ (t.lane l).repairs.length = x.repairs.length
      ∧ (∀ c ∈ s.table.cues,
          (s.openOn c.aud l = false ∨ (s.timeline c.aud).project s.clock.time = none →
            t.cueAt c.slot = some c)
          ∧ ∀ p, s.openOn c.aud l = true → (s.timeline c.aud).project s.clock.time = some p →
            (c.phase = .ahead → p < c.inP → t.cueAt c.slot = some c)
            ∧ (c.phase = .showing → p < c.outP → t.cueAt c.slot = some c)
            ∧ (c.phase = .ahead → c.inP ≤ p → p < c.outP →
                t.cueAt c.slot = some { c with
                  phase := .showing
                  repeatDue := c.repeatDue || decide (c.kind = .caption
                    ∧ s.setting .captionRepeat = 1 ∧ c.delivery = .sent
                    ∧ 0 < s.listeners c.aud c.track) })
            ∧ (c.phase = .retained ∨ (c.outP ≤ p ∧ (c.phase = .showing ∨ c.inP ≤ p)) →
                (p < retireMark s c → c.phase = .retained → t.cueAt c.slot = some c)
                ∧ (p < retireMark s c → c.phase ≠ .retained → c.delivery ≠ .sending →
                    t.cueAt c.slot = some { c with phase := .retained, repeatDue := false })
                ∧ (p < retireMark s c → c.phase ≠ .retained → c.delivery = .sending →
                    t.cueAt c.slot = some { c with
                      phase := .retained, repeatDue := false, delivery := .sent, relaunch := false
                      underrun := c.underrun || c.kind == .clip })
                ∧ (retireMark s c ≤ p → t.cueAt c.slot = none)))
      ∧ (∀ a, s.openOn a l = false ∨ (s.timeline a).project s.clock.time = none →
          t.audCount a .underruns = s.audCount a .underruns
            ∧ t.audCount a .lateDropped = s.audCount a .lateDropped)
      ∧ (∀ a p, s.openOn a l = true → (s.timeline a).project s.clock.time = some p → CountersOk s →
          t.audCount a .underruns = min 65535 (s.audCount a .underruns
              + (s.table.cues.filter fun c => c.aud == a && stops .clip p c).length)
            ∧ t.audCount a .lateDropped = min 65535 (s.audCount a .lateDropped
              + (s.table.cues.filter fun c => c.aud == a && (stops .caption p c || missed p c)).length))
      ∧ latched t .clipUnderrun (fun p c => stops .clip p c)
      ∧ latched t .cueLate (fun p c => stops .caption p c || missed p c)
      ∧ ChangesOnly (.clock :: .cond .laneFault :: walkParts l) s t

/-- BUILD_PROGRESS carries out one unit of a build, which leaves the lane's other fields alone. A STAMP gives
the Timeline's one reading; a notice lowers its airings or leaves the list. Step 3 chooses at most ANNOUNCE_CAP
records of the rotation that are due by R152, begins a section for each still due, and when it is whole moves the
record to the tail and marks it. The walk passes each cue on: SHOWING at its in-point, RETAINED at its out-point,
gone from its retire mark, its repair entry GONE, underruns and late drops counted; a cue WAITING within its lead
becomes, by the first that applies, SENT unattended, SENT and late-dropped, held back incomplete, or SENDING and
offered. The reserve is the lesser of REPAIR_FLOOR and the sum of the natural sizes of the queue's entries; the
offers stand with the continuing group first, then by in-point, auditorium, track and cue number. A caption is
placed whole, a segment whole or shortened to no less than 16 bytes, and the send offset counts the bytes; a
placement at or after the in-point is late unless relaunched; the airing is complete at the declared length; a
repeat clears its flag; what does not fit, or qualifies no longer, is left. Each repair entry is counted down while HOLDING, removed late at its deadline, or served GONE, as a whole
caption or as a clip part; what does not fit, has nothing to offer or has jumped is left. A step with nothing left
passes on to the next (R65, R66, R70 to R73, R75 to R82, R88, R99 to R106, R108, R120, R124 to R129, R132, R151 to
R153). The model's choices in it (log entries): the unit 10; an auditorium that has jumped 14, or opened since the
build began 15; the moment of writing 16; an offer's place and key 18; a list that changes under its step 19; a slot
taken again 24; a record that left the rotation and came back 29; an announcement for an auditorium then closed 30;
a cue SENDING at its retire mark 31; the send offset at a repeat 37; a repair of a RETAINED cue not past its
out-point 38. -/
def Obligations.BuildProgressPlacesOneSection : Prop :=
  ∀ l s b f, s.phase ≠ .inReset → (s.lane l).build = some b →
    (s.lane l).buf b.buf = .building f →
    let x := s.lane l
    let passes (t : State) (y : Lane) (st : Stage) : Prop :=
      exec (.buildProgress l) s = .next t
        ∧ t.lane l = { y with build := some { b with stage := st } }
    let places (t : State) (y : Lane) (sec : Section) (st : Stage) : Prop :=
      passes t (y.withBuf b.buf (.building { f with sections := f.sections ++ [sec] })) st
    let moves (st : Stage) : Prop := ∃ t, passes t x st ∧ ChangesOnly [.lane l] s t
    let due (every : Nat) (i : RxIdx) : Prop := i ∈ x.rotation ∧ ∃ r, s.rx? i = some r
      ∧ (s.openOn r.aud l = true
          ∨ (r.state = .moving ∧ ∃ a, r.movedFrom = some a ∧ s.openOn a l = true))
      ∧ r.unmatched = false
      ∧ ∀ mark, r.marks.get l = some mark → every ≤ (b.number - mark).toNat
    let fits (natural room n : Nat) : Prop :=
      20 + natural ≤ room ∧ n = natural
        ∨ room < 20 + natural ∧ 16 ≤ natural ∧ 36 ≤ room ∧ n = room - 20
    let fitsNot (natural room : Nat) : Prop :=
      room < 20 + natural ∧ (natural < 16 ∨ room < 36)
    let position (a : Aud) : Option Nat := (b.readings.find? fun y => y.1 == a).bind fun y => y.2.pos
    let once (n : Nat) : Nat := if n < 255 then n + 1 else n
    let others (t : State) (k : Nat) : Prop := ∀ j, j ≠ k → t.cueAt j = s.cueAt j
    let completed (t : State) (c : Cue) : Prop :=
      (∀ u, t.track? c.aud u = (s.track? c.aud u).map fun w =>
          if u = c.track then { w with lastDone := some c.num } else w)
        ∧ t.laneOf? c.aud = s.laneOf? c.aud ∧ t.cueCount c.aud = s.cueCount c.aud
    let judged (t : State) (a : Aud) (late : Bool) : Prop :=
      if late then
        t.audCount a .late = bump (s.audCount a .late) ∧ t.cond .cueLate = ⟨true, .aud a⟩
      else t.audCount a .late = s.audCount a .late ∧ t.cond .cueLate = s.cond .cueLate
    (∀ a left, b.stage = .stamps (a :: left) →
      ∃ t, exec (.buildProgress l) s = .next t
        ∧ t.lane l = { x.withBuf b.buf (.building { f with sections := f.sections ++
              [.stamp a (s.timeline a).state (s.timeline a).epoch (s.timeline a).gated
                (((s.theShow? a).map fun w => w.tracks.length).getD 0)
                (((s.timeline a).project b.air).getD 0) (s.timeline a).rate] }) with
            build := some { b with
              readings := b.readings ++ [(a, s.reading a b.air)], stage := .stamps left } }
        ∧ ChangesOnly [.lane l] s t)
    ∧ (b.stage = .stamps [] → moves (.notices 0 0))
    ∧ (∀ passed placed n, b.stage = .notices passed placed → x.notices[passed]? = some n →
      placed < 16 →
      ∃ t, places t
          { x with notices := if n.left ≤ 1 then x.notices.eraseIdx passed
              else x.notices.set passed { n with left := n.left - 1 } }
          (match n.item with
            | .withdraw a u num => .withdraw a u num (n.left - 1)
            | .release addr check => .release addr check (n.left - 1))
          (.notices (if n.left ≤ 1 then passed else passed + 1) (placed + 1))
        ∧ ChangesOnly [.lane l] s t)
    ∧ (∀ passed placed, b.stage = .notices passed placed → x.notices[passed]? = none ∨ 16 ≤ placed →
      moves (.select x.rotation [] (s.setting .announceEvery) (s.setting .announceCap)))
    ∧ (∀ chosen every cap, b.stage = .select [] chosen every cap → moves (.announce chosen every))
    ∧ (∀ i left chosen every cap, b.stage = .select (i :: left) chosen every cap →
      (cap ≤ chosen.length → moves (.announce chosen every))
      ∧ (chosen.length < cap → due every i → moves (.select left (chosen ++ [i]) every cap))
      ∧ (chosen.length < cap → ¬due every i → moves (.select left chosen every cap)))
    ∧ (∀ i left every, b.stage = .announce (i :: left) every →
      (∀ r, due every i → s.rx? i = some r →
        moves (.announcing i
          { index := i, serial := r.serial, aud := r.aud, track := r.track, kind := r.kind
            lane := s.laneOf? r.aud
            lang := (s.track? r.aud r.track).map fun w => w.lang
            seat := r.seat, moving := decide (r.state = .moving) } left every))
      ∧ (¬due every i → moves (.announce left every)))
    ∧ (∀ i sec left every, b.stage = .announcing i sec left every → i ∉ x.rotation →
      ∃ t, places t x (.announce sec) (.announce left every) ∧ ChangesOnly [.lane l] s t)
    ∧ (∀ every, b.stage = .announce [] every →
      moves (.walk ((b.readings.filter fun y => y.2.pos.isSome && decide (y.1 ∉ b.jumped)).flatMap
        fun y => (allTracks.filter fun u => (s.track? y.1 u).isSome).map fun u => (y.1, u)) [] []))
    ∧ (∀ a u work offers, b.stage = .walk ((a, u) :: work) [] offers →
      moves (.walk work (s.lineup a u) offers))
    ∧ (∀ offers, b.stage = .walk [] [] offers → moves (.reserve offers))
    ∧ (∀ i sec left every r, b.stage = .announcing i sec left every → i ∈ x.rotation →
      s.rx? i = some r →
      ∃ t, places t { x with rotation := x.rotation.filter (fun k => k != i) ++ [i] }
          (.announce sec) (.announce left every)
        ∧ t.rx? i = some { r with marks := r.marks.put l (some b.number) }
        ∧ (∀ k, k ≠ i → t.rx? k = s.rx? k) ∧ ChangesOnly [.lane l, .roster] s t)
    ∧ (∀ work slot slots offers c a r p, b.stage = .walk work (slot :: slots) offers →
      s.cueAt slot = some c → b.readings.find? (fun y => y.1 == c.aud) = some (a, r) →
      r.pos = some p →
      (c.phase ≠ .retained → p < c.outP) → (c.phase = .retained → p < retireMark s c) →
      let n := s.listeners c.aud c.track
      let owed : Prop := c.kind = .caption ∧ s.setting .captionRepeat = 1 ∧ c.delivery = .sent ∧ 0 < n
      let d : Cue := if c.phase = .ahead ∧ c.inP ≤ p
        then { c with phase := .showing, repeatDue := if owed then true else c.repeatDue } else c
      let lead := (match c.kind with
        | .caption => s.setting .captionLead
        | .clip => min (s.setting .descLeadBase
            + 20 * ((c.declared + (s.setting .segmentMax - 1)) / s.setting .segmentMax)) 10000)
          * r.rate / 65536
      let walked (t : State) (e : Cue) (k : Option OfferKind) : Prop :=
        passes t x (.walk work slots (offers ++
            (k.map fun k => ⟨k, slot, c.inP, c.aud, c.track, c.num⟩).toList))
          ∧ t.cueAt slot = some e ∧ others t slot
      let leaves (e : Cue) (k : Option OfferKind) : Prop :=
        ∃ t, walked t e k ∧ ChangesOnly [.lane l, .cues] s t
      (c.delivery = .sending → c.kind = .caption → leaves d (some .caption))
      ∧ (c.delivery = .sending → c.kind = .clip →
          leaves d (if c.off < c.fill then some .continuing else none))
      ∧ (c.delivery = .sent →
          leaves d (if c.kind = .caption ∧ d.phase = .showing ∧ d.repeatDue = true
            then some .captionRepeat else none))
      ∧ (c.delivery = .waiting → c.repeatDue = false →
          (p + lead < c.inP → leaves d none)
          ∧ (c.inP ≤ p + lead →
              (n = 0 → leaves { d with delivery := .sent, relaunch := false } none)
              ∧ (n ≠ 0 → c.outP ≤ p →
                  ∃ t, walked t { d with delivery := .sent, relaunch := false } none
                    ∧ t.audCount c.aud .lateDropped = bump (s.audCount c.aud .lateDropped)
                    ∧ t.cond .cueLate = ⟨true, .aud c.aud⟩
                    ∧ ChangesOnly
                        [.lane l, .cues, .audCounter c.aud .lateDropped, .cond .cueLate] s t)
              ∧ (n ≠ 0 → p < c.outP → c.kind = .caption → c.fill < c.declared → leaves d none)
              ∧ (n ≠ 0 → p < c.outP → c.kind = .caption → c.declared ≤ c.fill →
                  leaves { d with delivery := .sending, off := 0 } (some .caption))
              ∧ (n ≠ 0 → p < c.outP → c.kind = .clip →
                  leaves { d with delivery := .sending, off := 0 }
                    (if 0 < c.fill then some .firstSegment else none)))))
    ∧ (∀ work slot slots offers c a r p, b.stage = .walk work (slot :: slots) offers →
      s.cueAt slot = some c → b.readings.find? (fun y => y.1 == c.aud) = some (a, r) →
      r.pos = some p →
      let n := s.listeners c.aud c.track
      let ends : Prop := c.phase ≠ .retained ∧ c.outP ≤ p ∧ (c.phase = .showing ∨ c.inP ≤ p)
      let lead := (match c.kind with
        | .caption => s.setting .captionLead
        | .clip => min (s.setting .descLeadBase
            + 20 * ((c.declared + (s.setting .segmentMax - 1)) / s.setting .segmentMax)) 10000)
          * r.rate / 65536
      let d : Cue := { c with phase := .retained, repeatDue := false }
      let becomes (t : State) (e : Cue) : Prop :=
        passes t x (.walk work slots offers) ∧ t.cueAt slot = some e ∧ others t slot
      let dropped (t : State) : Prop :=
        t.audCount c.aud .lateDropped = bump (s.audCount c.aud .lateDropped)
          ∧ t.cond .cueLate = ⟨true, .aud c.aud⟩
      let underran (t : State) : Prop :=
        t.audCount c.aud .underruns = bump (s.audCount c.aud .underruns)
          ∧ t.cond .clipUnderrun = ⟨true, .aud c.aud⟩
      (ends → p < retireMark s c →
        (c.delivery = .sending → c.kind = .clip →
          ∃ t, becomes t { d with delivery := .sent, relaunch := false, underrun := true } ∧ underran t
            ∧ ChangesOnly [.lane l, .cues, .audCounter c.aud .underruns, .cond .clipUnderrun] s t)
        ∧ (c.delivery = .sending ∧ c.kind = .caption
            ∨ c.delivery = .waiting ∧ c.inP ≤ p + lead ∧ n ≠ 0 →
          ∃ t, becomes t { d with delivery := .sent, relaunch := false } ∧ dropped t
            ∧ ChangesOnly [.lane l, .cues, .audCounter c.aud .lateDropped, .cond .cueLate] s t)
        ∧ (c.delivery = .waiting → c.inP ≤ p + lead → n = 0 →
          ∃ t, becomes t { d with delivery := .sent, relaunch := false }
            ∧ ChangesOnly [.lane l, .cues] s t)
        ∧ (c.delivery = .sent ∨ c.delivery = .waiting ∧ p + lead < c.inP →
          ∃ t, becomes t d ∧ ChangesOnly [.lane l, .cues] s t))
      ∧ (ends ∨ c.phase = .retained → retireMark s c ≤ p → s.openOn c.aud l = true →
        ∃ t, exec (.buildProgress l) s = .next t
          ∧ t.table.cues = s.table.cues.filter (fun y => y.slot != slot)
          ∧ t.table.free = s.table.free ++ c.blocks
          ∧ (t.cond .poolLow).on = decide (t.table.free.length < s.setting .poolLowMark)
          ∧ (∀ u, t.track? c.aud u = (s.track? c.aud u).map fun w =>
              if u = c.track then { w with lineup := w.lineup.filter fun k => k != slot } else w)
          ∧ t.laneOf? c.aud = s.laneOf? c.aud ∧ t.cueCount c.aud = s.cueCount c.aud - 1
          ∧ t.lane l = { x with
              repairs := x.repairs.map fun e =>
                if e.aud = c.aud ∧ e.track = c.track ∧ e.num = c.num
                then { e with kind := .gone, state := .waiting, off := 0, hold := 0 } else e
              build := some { b with
                stage := .walk work (slots.filter fun k => k != slot)
                  (offers.filter fun o => o.slot != slot) } }
          ∧ (ends ∧ c.delivery = .sending ∧ c.kind = .clip → underran t)
          ∧ (¬(ends ∧ c.delivery = .sending ∧ c.kind = .clip) →
              t.audCount c.aud .underruns = s.audCount c.aud .underruns
                ∧ t.cond .clipUnderrun = s.cond .clipUnderrun)
          ∧ (ends ∧ c.delivery = .sending ∧ c.kind = .caption ∨ c.delivery = .waiting ∧ n ≠ 0 →
              dropped t)
          ∧ (¬(ends ∧ c.delivery = .sending ∧ c.kind = .caption ∨ c.delivery = .waiting ∧ n ≠ 0) →
              t.audCount c.aud .lateDropped = s.audCount c.aud .lateDropped
                ∧ t.cond .cueLate = s.cond .cueLate)
          ∧ ChangesOnly
              [.lane l, .cues, .freeBlocks, .show_ c.aud, .cond .poolLow, .cond .cueLate,
               .cond .clipUnderrun, .audCounter c.aud .underruns, .audCounter c.aud .lateDropped]
              s t))
    ∧ (∀ offers, b.stage = .reserve offers →
      let natural (e : Repair) : Nat :=
        if e.state = .holding then 0
        else match position e.aud, e.kind, s.findCue e.aud e.track e.num with
          | some _, .gone, _ => 8
          | some p, .content, some c =>
            if c.outP ≤ p then 0
            else match c.kind with
              | .caption => if c.fill < c.declared then 0 else 20 + c.declared
              | .clip => if c.fill ≤ e.off then 0
                  else 20 + min (s.setting .repairSegmentMax) (c.fill - e.off)
          | _, _, _ => 0
      let kept := min (s.setting .repairFloor) (x.repairs.map natural).sum
      let group (o : Offer) : Nat := if o.kind = .continuing then 0 else 1
      let precedes (o o' : Offer) : Prop :=
        group o < group o' ∨ group o = group o' ∧ (o.inP < o'.inP ∨ o.inP = o'.inP
          ∧ (o.aud < o'.aud ∨ o.aud = o'.aud ∧ (o.track < o'.track ∨ o.track = o'.track
            ∧ o.num < o'.num)))
      ∃ t os, passes t x (.content os (4000 - f.size - kept) kept) ∧ os.Perm offers
        ∧ os.Pairwise (fun o o' => ¬precedes o' o) ∧ ChangesOnly [.lane l] s t)
    ∧ (∀ o os allowance kept c p, b.stage = .content (o :: os) allowance kept →
      s.cueAt o.slot = some c → position o.aud = some p →
      let payload (n : Nat) := readPayload c.blocks s.table.payload c.off n
      let whole := readPayload c.blocks s.table.payload 0 c.declared
      let attrs := c.attrs.getD ⟨0, .centre, false, false⟩
      let isLate : Bool := decide (c.inP ≤ p) && !c.relaunch
      let skipped : Prop :=
        ∃ t, passes t x (.content os allowance kept) ∧ ChangesOnly [.lane l] s t
      let qualifies : Prop :=
        o.kind = .caption ∧ c.kind = .caption ∧ c.delivery = .sending
          ∨ o.kind = .captionRepeat ∧ c.kind = .caption ∧ c.phase = .showing ∧ c.repeatDue = true
          ∨ (o.kind = .continuing ∨ o.kind = .firstSegment) ∧ c.kind = .clip ∧ c.delivery = .sending
            ∧ c.off < c.fill
      (¬qualifies → skipped)
      ∧ (o.kind = .caption → c.kind = .caption → c.delivery = .sending →
        20 + c.declared ≤ allowance →
        ∃ t, places t x (.caption c.head false (c.late || isLate) c.relaunch attrs (once c.air) whole)
              (.content os (allowance - (20 + whole.length)) kept)
          ∧ t.cueAt o.slot = some { c with
              delivery := .sent, off := min c.declared c.fill, air := once c.air
              relaunch := false, late := c.late || isLate }
          ∧ others t o.slot ∧ completed t c ∧ judged t c.aud isLate
          ∧ ChangesOnly
              [.lane l, .cues, .show_ c.aud, .audCounter c.aud .late, .cond .cueLate] s t)
      ∧ (o.kind = .captionRepeat → c.kind = .caption → c.phase = .showing → c.repeatDue = true →
        20 + c.declared ≤ allowance →
        ∃ t, places t x (.caption c.head true c.late c.relaunch attrs (once c.air) whole)
              (.content os (allowance - (20 + whole.length)) kept)
          ∧ t.cueAt o.slot = some { c with
              off := min c.declared c.fill, repeatDue := false, air := once c.air }
          ∧ others t o.slot ∧ ChangesOnly [.lane l, .cues] s t)
      ∧ (o.kind = .caption ∨ o.kind = .captionRepeat → allowance < 20 + c.declared → skipped)
      ∧ (o.kind = .continuing ∨ o.kind = .firstSegment → c.kind = .clip → c.delivery = .sending →
        c.off < c.fill →
        let natural := min (s.setting .segmentMax) (c.fill - c.off)
        let late : Bool := decide (c.off = 0) && isLate
        (fitsNot natural allowance → skipped)
        ∧ ∀ n, fits natural allowance n →
          ∃ t, places t x (.segment c.head (c.late || late) c.relaunch c.off (payload n))
                (.content os (allowance - (20 + (payload n).length)) kept)
            ∧ others t o.slot ∧ judged t c.aud late
            ∧ (c.off + n ≠ c.declared →
                t.cueAt o.slot = some { c with off := c.off + n, late := c.late || late }
                ∧ ChangesOnly [.lane l, .cues, .audCounter c.aud .late, .cond .cueLate] s t)
            ∧ (c.off + n = c.declared →
                t.cueAt o.slot = some { c with
                  off := c.declared, late := c.late || late, delivery := .sent, air := once c.air,
                  relaunch := false }
                ∧ completed t c
                ∧ ChangesOnly
                    [.lane l, .cues, .show_ c.aud, .audCounter c.aud .late, .cond .cueLate] s t)))
    ∧ (∀ allowance kept, b.stage = .content [] allowance kept → moves (.repairs 0 (kept + allowance)))
    ∧ (∀ passed room, b.stage = .repairs passed room → x.repairs[passed]? = none → moves .finished)
    ∧ (∀ passed room e, b.stage = .repairs passed room → x.repairs[passed]? = some e →
      let left : Prop :=
        ∃ t, passes t x (.repairs (passed + 1) room) ∧ ChangesOnly [.lane l] s t
      let away : Lane := { x with repairs := x.repairs.eraseIdx passed }
      let becomes (e' : Repair) : Lane := { x with repairs := x.repairs.set passed e' }
      let served (sec : Section) : Prop :=
        ∃ t, (s.setting .holdFrames = 0 → places t away sec (.repairs passed (room - sec.size)))
          ∧ (s.setting .holdFrames ≠ 0 →
              places t (becomes { e with state := .holding, hold := s.setting .holdFrames, off := 0 })
                sec (.repairs (passed + 1) (room - sec.size)))
          ∧ t.audCount e.aud .repairsAnswered = bump (s.audCount e.aud .repairsAnswered)
          ∧ ChangesOnly [.lane l, .audCounter e.aud .repairsAnswered] s t
      (e.state = .holding →
        ∃ t, (e.hold ≤ 1 → passes t away (.repairs passed room))
          ∧ (1 < e.hold →
              passes t (becomes { e with hold := e.hold - 1 }) (.repairs (passed + 1) room))
          ∧ ChangesOnly [.lane l] s t)
      ∧ (e.state ≠ .holding → position e.aud = none → left)
      ∧ ∀ p, e.state ≠ .holding → position e.aud = some p →
        let jumped : Prop := e.aud ∈ b.jumped
        (e.kind = .gone → ¬jumped → 8 ≤ room →
          served (.gone e.aud e.track e.num e.rev e.asks))
        ∧ (e.kind = .gone → jumped ∨ room < 8 → left)
        ∧ ∀ c, e.kind = .content → s.findCue e.aud e.track e.num = some c →
          let part (attrs : Option Attrs) (n : Nat) : Section :=
            .repair { c.head with rev := e.rev.getD c.rev } e.asks attrs e.off e.firstAsk
              (readPayload c.blocks s.table.payload e.off n)
          (c.outP ≤ p →
            ∃ t, passes t away (.repairs passed room)
              ∧ t.audCount e.aud .repairsLate = bump (s.audCount e.aud .repairsLate)
              ∧ ChangesOnly [.lane l, .audCounter e.aud .repairsLate] s t)
          ∧ (p < c.outP → c.kind = .caption →
              (c.fill < c.declared ∨ jumped ∨ room < 20 + c.declared → left)
              ∧ (c.declared ≤ c.fill → ¬jumped → 20 + c.declared ≤ room → e.off = 0 →
                  served (part (some (c.attrs.getD ⟨0, .centre, false, false⟩)) c.declared)))
          ∧ (p < c.outP → c.kind = .clip →
              let natural := min (s.setting .repairSegmentMax) (c.fill - e.off)
              (c.fill ≤ e.off ∨ jumped ∨ fitsNot natural room → left)
              ∧ (e.off < c.fill → ¬jumped → ∀ n, fits natural room n →
                  (e.off + n = c.declared → served (part none n))
                  ∧ (e.off + n ≠ c.declared →
                      ∃ t, places t (becomes { e with state := .sending, off := e.off + n })
                            (part none n) (.repairs (passed + 1) (room - (part none n).size))
                        ∧ ChangesOnly [.lane l] s t))))

/-- BUILD_COMPLETE carries out what is left of the build order and makes the buffer READY with its cut
flag clear: the frame keeps its lane, number and air instant and every section already whole, the other
buffer is untouched, and the Frame Builder is idle. A build completed from its beginning, by a part
whose settings are in range, carries first one STAMP for each auditorium it serves, in order, fits the
4,000 bytes of a frame, and leaves the other lane alone (R99, R100, R101, R102). That the command carries
out what is left is log entry 11. -/
def Obligations.BuildCompleteMakesAFrameThatFits : Prop :=
  ∀ l s b f, s.phase ≠ .inReset → (s.lane l).build = some b →
    (s.lane l).buf b.buf = .building f →
    let x := s.lane l
    ∃ t g, exec (.buildComplete l) s = .next t ∧ (t.lane l).buf b.buf = .ready g
      ∧ (t.lane l).build = none ∧ g.lane = f.lane ∧ g.number = f.number ∧ g.air = f.air
      ∧ g.cut = false ∧ f.sections <+: g.sections
      ∧ (∀ j, j ≠ b.buf → (t.lane l).buf j = x.buf j)
      ∧ (t.lane l).state = x.state ∧ (t.lane l).frameNo = x.frameNo
      ∧ (t.lane l).missed = x.missed ∧ (t.lane l).rfReady = x.rfReady
      ∧ (t.lane l).frameOut = x.frameOut
      ∧ (∀ left, b.stage = .stamps left → b.readings = [] → f.sections = [] → left.length ≤ 24 →
          (∀ a ∈ left, s.openOn a l = true) → SettingsOk s → CueTableOk s →
          g.size ≤ 4000
          ∧ (left.map fun a =>
              Section.stamp a (s.timeline a).state (s.timeline a).epoch (s.timeline a).gated
                (((s.theShow? a).map fun w => w.tracks.length).getD 0)
                (((s.timeline a).project b.air).getD 0) (s.timeline a).rate) <+: g.sections
          ∧ t.lane l.other = s.lane l.other)
      ∧ ChangesOnly
          (.roster :: .lane l.other :: walkParts l
            ++ allAuds.flatMap fun a =>
                [.audCounter a .repairsAnswered, .audCounter a .repairsLate]) s t

/-- SENT empties the ON_AIR buffer, clears the missed-completion count and counts the frame, in every
lane state; a RUNNING lane whose other buffer is EMPTY then begins a build in buffer 0; with no buffer
ON_AIR it changes nothing. RF_READY released puts a RUNNING lane in FAULT, abandons its build and empties
what is not on the air; in any other lane state, and when RF_READY is asserted, only the recorded level
changes (R91, R94, R95, R96, R98). The build begun at a SENT taken in a boundary's own millisecond before it is log
entry 33. -/
def Obligations.TransceiverLinesMoveTheLane : Prop :=
  ∀ l s, s.phase ≠ .inReset →
    let x := s.lane l
    (∀ (i j : BufId) f, i ≠ j → x.buf i = .onAir f → (x.buf j).isOnAir = false →
      ∃ t, exec (.sent l) s = .next t
        ∧ (x.state = .running → x.buf j = .empty →
            t.lane l = { x with
              buf0 := .building ⟨l, x.frameNo + 1, nextBoundary l s.clock.time, false, []⟩
              buf1 := .empty, missed := 0
              build := some ⟨.b0, nextBoundary l s.clock.time, x.frameNo + 1, [], [],
                .stamps (allAuds.filter fun a => s.openOn a l)⟩ })
        ∧ (x.state ≠ .running ∨ (x.buf j).isUnaired = true →
            t.lane l = { x.withBuf i .empty with missed := 0 })
        ∧ t.laneCount l .sent = bump (s.laneCount l .sent)
        ∧ ChangesOnly [.lane l, .laneCounter l .sent] s t)
    ∧ (x.buf0.isOnAir = false → x.buf1.isOnAir = false → exec (.sent l) s = .next s)
    ∧ (x.rfReady = true →
      ∃ t, exec (.rfReadyRelease l) s = .next t
        ∧ (x.state = .running →
            t.lane l = { x with
              rfReady := false, state := .fault, build := none
              buf0 := if x.buf0.isUnaired then .empty else x.buf0
              buf1 := if x.buf1.isUnaired then .empty else x.buf1 }
            ∧ t.cond .laneFault = ⟨true, if (s.cond .laneFault).on then (s.cond .laneFault).who
                else .lane l⟩
            ∧ ChangesOnly [.lane l, .cond .laneFault] s t)
        ∧ (x.state ≠ .running →
            t.lane l = { x with rfReady := false } ∧ ChangesOnly [.lane l] s t))
    ∧ (x.rfReady = false →
      ∃ t, exec (.rfReadyAssert l) s = .next t ∧ t.lane l = { x with rfReady := true }
        ∧ ChangesOnly [.lane l] s t)

/-! ### The uplink and repairs (chapters 6 and 7) -/

/-- When the part is ready, a message that fails the form test or the verdict is only counted and latched. A
CHECKIN that names no record by its serial check leaves every record as it is, and its RELEASE notice renews
an equal one, joins the tail, or is dropped by a full list. Any other CHECKIN refreshes its record and moves
its state, and changes no other record. The lag, assessed for the record's own place and epoch with a cue
completed there, is the difference of the cue numbers modulo 65,536, 0 from 32,768 on and 255 at most; else it
is 0. A MOVING record that joins stays in its own lane's rotation, the arrival lane's when its auditorium is
closed, and leaves the other. Leaving LOST brings a matched record back into counting and any record into the
rotation; a rise from 0 takes the CONTENT repair entries for the cues passed over unattended from the queue, and
nothing else of the lane or of any show changes (R68, R108, R112, R114, R115, R116, R117, R120, R130). The command
carries the message and implies its verdict (log entry 25); that step 7 of a build keeps its place is log entry
19. -/
def Obligations.CheckinIsHeardOrStray : Prop :=
  ∀ l s, s.phase = .ready →
    (∀ good msg, good = false ∨ (checkin? msg = none ∧ ask? msg = none) →
      ∃ t, exec (.uplinkPurge l good msg) s = .next t ∧ t.cond .uplinkBad = ⟨true, .lane l⟩
        ∧ t.laneCount l .uplinkBad = bump (s.laneCount l .uplinkBad)
        ∧ ChangesOnly [.cond .uplinkBad, .laneCounter l .uplinkBad] s t)
    ∧ ∀ msg m, checkin? msg = some m →
      ((∀ r, s.rx? m.addr = some r → m.check ≠ BitVec.ofNat 8 r.serial) →
        let ns := (s.lane l).notices
        let item : NoticeItem := .release m.addr m.check
        let stands : Prop := ∃ n ∈ ns, n.item = item
        ∃ t, exec (.checkin l msg) s = .next t ∧ t.cond .rxStray = ⟨true, .lane l⟩
          ∧ t.laneCount l .strays = bump (s.laneCount l .strays)
          ∧ (stands → t.lane l = { s.lane l with
              notices := ns.map fun n =>
                if n.item = item then { n with left := s.setting .noticeRepeat } else n })
          ∧ (¬stands → ns.length < 32 → t.lane l = { s.lane l with
              notices := ns ++ [⟨item, s.setting .noticeRepeat⟩] })
          ∧ (¬stands → 32 ≤ ns.length →
              t.lane l = s.lane l ∧ t.cond .noticeDropped = ⟨true, .lane l⟩)
          ∧ (stands ∨ ns.length < 32 → t.cond .noticeDropped = s.cond .noticeDropped)
          ∧ ChangesOnly
              [.lane l, .cond .rxStray, .cond .noticeDropped, .laneCounter l .strays] s t)
      ∧ ∀ r, s.rx? m.addr = some r → m.check = BitVec.ofNat 8 r.serial →
        let here : Prop := m.aud = r.aud ∧ m.track = r.track
        let assessed : Prop := here ∧ m.epoch = (s.timeline r.aud).epoch
        let own := (s.laneOf? r.aud).getD l
        ∃ t lag, exec (.checkin l msg) s = .next t
          ∧ t.rx? m.addr = some { r with
              heard := some ⟨s.clock.time, l, m.battery, m.link, lag⟩
              poor := decide (s.setting .lagWarn ≤ lag)
              silenceDl := some (after s.clock.time (s.setting .silentAfter))
              lossDl := some (after s.clock.time (s.setting .lostAfter))
              state := if r.state = .moving ∧ ¬here then .moving else .joined
              joinDl := if r.state = .issued ∨ r.state = .moving ∧ here then none else r.joinDl
              movedFrom := if r.state = .moving ∧ here then none else r.movedFrom
              loss := if r.state = .lost then none else r.loss }
          ∧ (∀ k, k ≠ m.addr → t.rx? k = s.rx? k)
          ∧ (¬assessed ∨ (∀ w, s.track? r.aud r.track = some w → w.lastDone = none) → lag = 0)
          ∧ (∀ w d, assessed → s.track? r.aud r.track = some w → w.lastDone = some d →
              let diff : Int := ((d : Int) - (m.lastCue : Int)) % 65536
              (32768 ≤ diff → lag = 0) ∧ (diff < 32768 → (lag : Int) = min 255 diff))
          ∧ (r.state = .issued ∨ r.state = .joined ∨ r.state = .silent ∨ r.state = .moving ∧ ¬here →
              ChangesOnly [.roster] s t)
          ∧ (r.state = .moving → here →
              t.lane own.other = { s.lane own.other with
                rotation := (s.lane own.other).rotation.filter (fun k => k != m.addr) }
              ∧ ChangesOnly [.roster, .lane own.other] s t)
          ∧ (r.state = .lost → CueTableOk s →
              let rises : Prop := ∃ w, s.track? r.aud r.track = some w ∧ suits r.kind w.kind = true
                ∧ w.listeners = 0
              let turn : List RxIdx :=
                (s.lane own).rotation.filter (fun k => k != m.addr) ++ [m.addr]
              (∀ w, s.track? r.aud r.track = some w →
                t.listeners r.aud r.track =
                  if suits r.kind w.kind = true then w.listeners + 1 else w.listeners)
              ∧ ListenersOnly [(r.aud, r.track)] s t
              ∧ (rises → t.lane own =
                  { lessPassedOver r.aud r.track s (s.lane own) with rotation := turn })
              ∧ (¬rises → t.lane own = { s.lane own with rotation := turn }
                  ∧ t.table.cues = s.table.cues)
              ∧ ChangesOnly [.roster, .show_ r.aud, .cues, .lane own] s t)

/-- An ASK that fails the validation is counted as ignored. A valid one merges into the entry standing
for its cue, or is crossed when that entry is HOLDING; with no entry it is ignored while the cue is
WAITING or SENDING, else dropped when the queue holds 32 entries, else it is appended as a CONTENT entry
for the cue or as a GONE entry for an absent one. Cues, records and notices never change (R113, R118, R119,
R122, R123). The command carries the message and implies its verdict (log entry 25). -/
def Obligations.AskReachesTheRepairQueue : Prop :=
  ∀ l s msg m, s.phase = .ready → ask? msg = some m →
    let x := s.lane l
    let names (e : Repair) : Prop := e.aud = m.aud ∧ e.track = m.track ∧ e.num = m.num
    let valid : Prop := ∃ r, s.rx? m.addr = some r
      ∧ (r.state = .joined ∨ r.state = .silent ∨ r.state = .moving)
      ∧ m.check = BitVec.ofNat 8 r.serial ∧ m.aud = r.aud ∧ m.track = r.track
      ∧ (s.track? m.aud m.track).isSome = true ∧ s.laneOf? m.aud = some l
      ∧ m.epoch = (s.timeline m.aud).epoch
    let ignored (t : State) : Prop := t.laneCount l .asksIgnored = bump (s.laneCount l .asksIgnored)
      ∧ ChangesOnly [.laneCounter l .asksIgnored] s t
    ∃ t, exec (.ask l msg) s = .next t
      ∧ (¬valid → ignored t)
      ∧ (valid → (x.repairs.map fun e => (e.aud, e.track, e.num)).Nodup →
          ∀ e ∈ x.repairs, names e →
          (e.state = .holding →
            t.laneCount l .asksCrossed = bump (s.laneCount l .asksCrossed)
              ∧ ChangesOnly [.laneCounter l .asksCrossed] s t)
          ∧ (e.state ≠ .holding → ChangesOnly [.lane l] s t
              ∧ t.lane l = { x with
                  repairs := x.repairs.map fun d =>
                    if d = e then { e with asks := if e.asks < 255 then e.asks + 1 else e.asks }
                    else d }))
      ∧ (valid → (∀ e ∈ x.repairs, ¬names e) →
          let dropped : Prop := t.cond .repairDropped = ⟨true, .lane l⟩
            ∧ t.laneCount l .asksDropped = bump (s.laneCount l .asksDropped)
            ∧ ChangesOnly [.cond .repairDropped, .laneCounter l .asksDropped] s t
          let created (k : RepairKind) (rev : Option (BitVec 8)) : Prop :=
            t.lane l = { x with
              repairs := x.repairs ++
                [⟨k, m.aud, m.track, m.num, rev, .waiting, 1, x.frameNo, 0, 0⟩] }
            ∧ ChangesOnly [.lane l] s t
          (∀ c, s.findCue m.aud m.track m.num = some c →
            (c.delivery ≠ .sent → ignored t)
            ∧ (c.delivery = .sent → 32 ≤ x.repairs.length → dropped)
            ∧ (c.delivery = .sent → x.repairs.length < 32 → created .content (some c.rev)))
          ∧ (s.findCue m.aud m.track m.num = none →
            (32 ≤ x.repairs.length → dropped)
            ∧ (x.repairs.length < 32 → created .gone none)))

/-! ### Status (chapter 10) -/

/-- A STATUS answers 60 bytes: the sets of current, latched and captured conditions, the record of each of
the sixteen, the summary flags as they stand before the capture ends, the forced flags, site time, the 24
Timeline states and the two lane states; it ends the capture of TL_GLITCH, its record kept. A STATUS_CLEAR
clears exactly the latched conditions its set names, their records kept, zeroes every counter just when asked,
and answers with the sets before and after. A STATUS_FORCE sets, clears or keeps each forced flag, and answers
with the forced flags and the summary flags that follow (R174, R176, R177, R178, R179, R180). -/
def Obligations.StatusRequestsReportClearAndForce : Prop :=
  ∀ m rest s,
    (Taken .status m rest s → m.body = [] →
      let two (fault notice : Bool) : List Byte :=
        be8 ((if fault then 1 else 0) + (if notice then 2 else 0))
      let b : List Byte :=
        be32 (condSet s currentConds) ++ be32 (condSet s latchedConds) ++ be32 (condSet s [.tlGlitch])
          ++ (allConds.flatMap fun c => match (s.cond c).who with
              | .aud a => be8 a.val
              | .lane .A => [0x40]
              | .lane .B => [0x41]
              | .nobody => [0xFE]
              | .absent => [0xFF])
          ++ two (faultFlag s) (noticeFlag s) ++ two s.status.forcedFault s.status.forcedNotice
          ++ be32 s.clock.time.toNat
          ++ (allAuds.flatMap fun a => be8 (tlStateCode (s.timeline a).state))
          ++ be8 (laneStateCode (s.lane .A).state) ++ be8 (laneStateCode (s.lane .B).state)
      ∃ t, exec .status s = .next t ∧ Responded m rest .ok false b s t
        ∧ b.length = 60 ∧ t.cond .tlGlitch = ⟨false, (s.cond .tlGlitch).who⟩
        ∧ ChangesOnly [.cond .tlGlitch, .inbox, .outbox] s t)
    ∧ (∀ mask zero, Taken .statusClear m rest s → statusClear? m.body = some (mask, zero) →
      ∃ t, exec .statusClear s = .next t
        ∧ (∀ c, t.cond c =
            if c ∈ latchedConds ∧ inMask mask c = true then ⟨false, (s.cond c).who⟩ else s.cond c)
        ∧ (∀ a c, t.audCount a c = if zero then 0 else s.audCount a c)
        ∧ (∀ l c, t.laneCount l c = if zero then 0 else s.laneCount l c)
        ∧ Responded m rest .ok false
            (be32 (condSet s latchedConds) ++ be32 (condSet t latchedConds)
              ++ be8 (if zero then 1 else 0)) s t
        ∧ (∀ p : Machine.Part, (∀ c, p ≠ .cond c) → (∀ a c, p ≠ .audCounter a c) →
            (∀ l c, p ≠ .laneCounter l c) → p ≠ .inbox → p ≠ .outbox → p.same s t)
        ∧ Judged t)
    ∧ ∀ f n, Taken .statusForce m rest s → statusForce? m.body = some (f, n) →
      ∃ t, exec .statusForce s = .next t
        ∧ t.status.forcedFault = (if f = .keep then s.status.forcedFault else decide (f = .set))
        ∧ t.status.forcedNotice = (if n = .keep then s.status.forcedNotice else decide (n = .set))
        ∧ Responded m rest .ok false
            (be8 ((if t.status.forcedFault then 1 else 0) + (if t.status.forcedNotice then 2 else 0))
              ++ be8 ((if t.status.fault then 1 else 0) + (if t.status.notice then 2 else 0))) s t
        ∧ ChangesOnly [.forced, .inbox, .outbox] s t
end

