-- ==== Sys2Proof/Laws/Data.lean ====
section
/-! SUPPORT. Reading after writing: fixed-length vectors, lane pairs, and the payload store, whose
canonical form every write keeps. -/

namespace Sys2Proof

/-! ### Vectors and lane pairs -/

@[simp] theorem vput_get_self {α : Type} {n : Nat} (v : Vector α n) (i : Fin n) (x : α) :
    (vput v i x).get i = x := by
  simp [vput, Vector.get_eq_getElem]

@[simp] theorem vput_get_of_ne {α : Type} {n : Nat} (v : Vector α n) {i j : Fin n} (x : α)
    (h : j ≠ i) : (vput v i x).get j = v.get j := by
  simp [vput, Vector.get_eq_getElem, Fin.val_ne_of_ne (Ne.symm h)]

theorem vput_get {α : Type} {n : Nat} (v : Vector α n) (i j : Fin n) (x : α) :
    (vput v i x).get j = if j = i then x else v.get j := by
  by_cases h : j = i
  · subst h; simp
  · simp [h]

@[simp] theorem replicate_get {α : Type} {n : Nat} (x : α) (i : Fin n) :
    (Vector.replicate n x).get i = x := by
  simp [Vector.get_eq_getElem]

@[simp] theorem map_get {α β : Type} {n : Nat} (f : α → β) (v : Vector α n) (i : Fin n) :
    (v.map f).get i = f (v.get i) := by
  simp [Vector.get_eq_getElem]

@[simp] theorem PerLane.put_get_self {α : Type} (p : PerLane α) (l : LaneId) (x : α) :
    (p.put l x).get l = x := by
  cases l <;> rfl

@[simp] theorem PerLane.put_get_of_ne {α : Type} (p : PerLane α) {l k : LaneId} (x : α)
    (h : k ≠ l) : (p.put l x).get k = p.get k := by
  cases l <;> cases k <;> first | rfl | exact absurd rfl h

theorem PerLane.put_get {α : Type} (p : PerLane α) (l k : LaneId) (x : α) :
    (p.put l x).get k = if k = l then x else p.get k := by
  by_cases h : k = l
  · subst h; simp
  · simp [h]

@[simp] theorem PerLane.get_mk_A {α : Type} (x y : α) : (PerLane.mk x y).get .A = x := rfl
@[simp] theorem PerLane.get_mk_B {α : Type} (x y : α) : (PerLane.mk x y).get .B = y := rfl

@[simp] theorem LaneId.other_other (l : LaneId) : l.other.other = l := by cases l <;> rfl
@[simp] theorem LaneId.other_ne (l : LaneId) : l.other ≠ l := by cases l <;> decide

namespace Machine

/-! ### The payload store -/

/-- Addresses strictly rising above a bound, and no entry equal to an unwritten byte: the canonical
form said as a recursion on one entry at a time. -/
def memAbove : Option Nat → List Host.Cell → Prop
  | _, [] => True
  | lo, (a, b) :: m => (∀ x, lo = some x → x < a) ∧ b ≠ Config.unwrittenByte ∧ memAbove (some a) m

theorem memWf_iff (m : List Host.Cell) : Memory.wf m = true ↔ memAbove none m := by
  induction m with
  | nil => simp [Memory.wf, memAbove]
  | cons x m ih =>
    obtain ⟨a, b⟩ := x
    cases m with
    | nil => simp [Memory.wf, memAbove]
    | cons y m =>
      obtain ⟨a', b'⟩ := y
      simp only [Memory.wf, memAbove, Bool.and_eq_true, bne_iff_ne, decide_eq_true_eq] at *
      constructor
      · rintro ⟨⟨h1, h2⟩, h3⟩
        exact ⟨by simp, h1, by simpa using h2, (ih.1 h3).2⟩
      · rintro ⟨-, h1, h2, h3⟩
        exact ⟨⟨h1, h2 a rfl⟩, ih.2 ⟨by simp, h3⟩⟩

theorem memAbove_weaken {m : List Host.Cell} {lo lo' : Option Nat}
    (h : ∀ x, lo' = some x → ∃ y, lo = some y ∧ x ≤ y) (hm : memAbove lo m) : memAbove lo' m := by
  cases m with
  | nil => trivial
  | cons x m =>
    obtain ⟨a, b⟩ := x
    refine ⟨fun x hx => ?_, hm.2⟩
    obtain ⟨y, hy, hxy⟩ := h x hx
    exact Nat.lt_of_le_of_lt hxy (hm.1 y hy)

theorem memAbove_write {m : List Host.Cell} {lo : Option Nat} {k : Nat} (v : Byte)
    (hk : ∀ x, lo = some x → x < k) (hm : memAbove lo m) : memAbove lo (memWrite m k v) := by
  induction m generalizing lo with
  | nil => unfold memWrite; split <;> simp_all [memAbove]
  | cons x m ih =>
    obtain ⟨a, b⟩ := x
    obtain ⟨h1, h2, h3⟩ := hm
    unfold memWrite
    split
    · split
      · exact ⟨h1, h2, h3⟩
      · rename_i hlt hv
        exact ⟨hk, hv, by simpa using hlt, h2, h3⟩
    · split
      · rename_i hka
        subst hka
        split
        · exact memAbove_weaken (fun x hx => ⟨k, rfl, Nat.le_of_lt (h1 x hx)⟩) h3
        · exact ⟨h1, ‹_›, h3⟩
      · exact ⟨h1, h2, ih (fun x hx => by simp at hx; omega) h3⟩

/-- A write keeps the canonical form of the store. -/
theorem memWf_memWrite (m : List Host.Cell) (k : Nat) (v : Byte) (h : Memory.wf m = true) :
    Memory.wf (memWrite m k v) = true :=
  (memWf_iff _).2 (memAbove_write v (by simp) ((memWf_iff _).1 h))

theorem memRead_of_above {m : List Host.Cell} {a k : Nat} (hm : memAbove (some a) m) (hk : k ≤ a) :
    memRead m k = Config.unwrittenByte := by
  induction m generalizing a with
  | nil => rfl
  | cons x m ih =>
    obtain ⟨a', b⟩ := x
    have h := hm.1 a rfl
    have hne : ¬ a' = k := by omega
    simp only [memRead, hne, if_false]
    exact ih hm.2.2 (by omega)

theorem memAbove_read_write {m : List Host.Cell} {lo : Option Nat} (k j : Nat) (v : Byte)
    (hm : memAbove lo m) :
    memRead (memWrite m k v) j = if j = k then v else memRead m j := by
  induction m generalizing lo with
  | nil =>
    by_cases hj : j = k
    · subst hj; by_cases hv : v = Config.unwrittenByte <;> simp [memWrite, memRead, hv]
    · have hk : ¬ k = j := fun h => hj h.symm
      by_cases hv : v = Config.unwrittenByte <;> simp [memWrite, memRead, hv, hj, hk]
  | cons x m ih =>
    obtain ⟨a, b⟩ := x
    obtain ⟨-, -, h3⟩ := hm
    unfold memWrite
    split
    · rename_i hlt
      split
      · rename_i hv
        by_cases hj : j = k
        · subst hj
          have : ¬ a = j := by omega
          simp [memRead, this, memRead_of_above h3 (by omega : j ≤ a), hv]
        · simp [hj]
      · by_cases hj : j = k
        · subst hj; simp [memRead]
        · have hk : ¬ k = j := fun h => hj h.symm
          simp [memRead, hj, hk]
    · split
      · rename_i hka
        subst hka
        split
        · rename_i hv
          by_cases hj : j = k
          · subst hj; simp [memRead_of_above h3 (le_refl j), hv]
          · have hk : ¬ k = j := fun h => hj h.symm
            simp [memRead, hj, hk]
        · by_cases hj : j = k
          · subst hj; simp [memRead]
          · have hk : ¬ k = j := fun h => hj h.symm
            simp [memRead, hj, hk]
      · rename_i hka
        by_cases ha : a = j
        · subst ha; have : ¬ a = k := fun h => hka h.symm
          simp [memRead, this]
        · simp only [memRead, ha, if_false]
          exact ih h3

/-- In a canonical store a read after a write gives the byte written, and every other address reads as
before. -/
theorem memRead_memWrite {m : List Host.Cell} (h : Memory.wf m = true) (k j : Nat) (v : Byte) :
    memRead (memWrite m k v) j = if j = k then v else memRead m j :=
  memAbove_read_write k j v ((memWf_iff m).1 h)

/-- Writing a cue's payload keeps the canonical form of the store. -/
theorem memWf_writePayload (blocks : List Nat) (vs : List Byte) :
    ∀ (k : Nat) (m : List Host.Cell), Memory.wf m = true → Memory.wf (writePayload blocks k vs m) = true := by
  induction vs with
  | nil => intro k m h; exact h
  | cons v vs ih =>
    intro k m h
    unfold writePayload
    apply ih
    split
    · exact memWf_memWrite m _ v h
    · exact h

/-- Payload bytes are written at the addresses of the cue's own blocks and nowhere else (R49). -/
theorem memRead_writePayload_of_ne (blocks : List Nat) (vs : List Byte) :
    ∀ (k : Nat) (m : List Host.Cell), Memory.wf m = true → ∀ j,
      (∀ n, n < vs.length → payloadAddr blocks (k + n) ≠ some j) →
      memRead (writePayload blocks k vs m) j = memRead m j := by
  induction vs with
  | nil => intro k m _ j _; rfl
  | cons v vs ih =>
    intro k m h j hj
    unfold writePayload
    have h0 := hj 0 (by simp)
    have hrest : ∀ n, n < vs.length → payloadAddr blocks (k + 1 + n) ≠ some j := by
      intro n hn
      have := hj (n + 1) (by simpa using hn)
      rwa [show k + (n + 1) = k + 1 + n by omega] at this
    simp only [Nat.add_zero] at h0
    cases hp : payloadAddr blocks k with
    | none => exact ih (k + 1) m h j hrest
    | some a =>
      have hja : j ≠ a := fun e => h0 (by rw [hp, e])
      have := ih (k + 1) (memWrite m a v) (memWf_memWrite m a v h) j hrest
      simp only [this, memRead_memWrite h, hja, if_false]

end Machine

end Sys2Proof
end

