-- ==== Sys2Proof/Laws/State.lean ====
section
/-! SUPPORT. What each named update of the state leaves as it was: one lemma per field per update, so
that no proof unfolds a record update. -/

namespace Sys2Proof.Machine

/-! ### State.withSetting -/

@[simp] theorem State.withSetting_pending (s : State) (k : Setting) (v : Nat) :
    (s.withSetting k v).pending = s.pending := rfl
@[simp] theorem State.withSetting_phase (s : State) (k : Setting) (v : Nat) :
    (s.withSetting k v).phase = s.phase := rfl
@[simp] theorem State.withSetting_clock (s : State) (k : Setting) (v : Nat) :
    (s.withSetting k v).clock = s.clock := rfl
@[simp] theorem State.withSetting_sync (s : State) (k : Setting) (v : Nat) :
    (s.withSetting k v).sync = s.sync := rfl
@[simp] theorem State.withSetting_timelines (s : State) (k : Setting) (v : Nat) :
    (s.withSetting k v).timelines = s.timelines := rfl
@[simp] theorem State.withSetting_directory (s : State) (k : Setting) (v : Nat) :
    (s.withSetting k v).directory = s.directory := rfl
@[simp] theorem State.withSetting_table (s : State) (k : Setting) (v : Nat) :
    (s.withSetting k v).table = s.table := rfl
@[simp] theorem State.withSetting_lanes (s : State) (k : Setting) (v : Nat) :
    (s.withSetting k v).lanes = s.lanes := rfl
@[simp] theorem State.withSetting_roster (s : State) (k : Setting) (v : Nat) :
    (s.withSetting k v).roster = s.roster := rfl
@[simp] theorem State.withSetting_link (s : State) (k : Setting) (v : Nat) :
    (s.withSetting k v).link = s.link := rfl
@[simp] theorem State.withSetting_audCounters (s : State) (k : Setting) (v : Nat) :
    (s.withSetting k v).audCounters = s.audCounters := rfl
@[simp] theorem State.withSetting_laneCounters (s : State) (k : Setting) (v : Nat) :
    (s.withSetting k v).laneCounters = s.laneCounters := rfl
@[simp] theorem State.withSetting_status (s : State) (k : Setting) (v : Nat) :
    (s.withSetting k v).status = s.status := rfl

/-! ### State.countAud -/

@[simp] theorem State.countAud_pending (s : State) (a : Aud) (c : AudCounter) :
    (s.countAud a c).pending = s.pending := rfl
@[simp] theorem State.countAud_phase (s : State) (a : Aud) (c : AudCounter) :
    (s.countAud a c).phase = s.phase := rfl
@[simp] theorem State.countAud_clock (s : State) (a : Aud) (c : AudCounter) :
    (s.countAud a c).clock = s.clock := rfl
@[simp] theorem State.countAud_sync (s : State) (a : Aud) (c : AudCounter) :
    (s.countAud a c).sync = s.sync := rfl
@[simp] theorem State.countAud_timelines (s : State) (a : Aud) (c : AudCounter) :
    (s.countAud a c).timelines = s.timelines := rfl
@[simp] theorem State.countAud_directory (s : State) (a : Aud) (c : AudCounter) :
    (s.countAud a c).directory = s.directory := rfl
@[simp] theorem State.countAud_table (s : State) (a : Aud) (c : AudCounter) :
    (s.countAud a c).table = s.table := rfl
@[simp] theorem State.countAud_lanes (s : State) (a : Aud) (c : AudCounter) :
    (s.countAud a c).lanes = s.lanes := rfl
@[simp] theorem State.countAud_roster (s : State) (a : Aud) (c : AudCounter) :
    (s.countAud a c).roster = s.roster := rfl
@[simp] theorem State.countAud_settings (s : State) (a : Aud) (c : AudCounter) :
    (s.countAud a c).settings = s.settings := rfl
@[simp] theorem State.countAud_link (s : State) (a : Aud) (c : AudCounter) :
    (s.countAud a c).link = s.link := rfl
@[simp] theorem State.countAud_laneCounters (s : State) (a : Aud) (c : AudCounter) :
    (s.countAud a c).laneCounters = s.laneCounters := rfl
@[simp] theorem State.countAud_status (s : State) (a : Aud) (c : AudCounter) :
    (s.countAud a c).status = s.status := rfl

/-! ### State.countLane -/

@[simp] theorem State.countLane_pending (s : State) (l : LaneId) (c : LaneCounter) :
    (s.countLane l c).pending = s.pending := rfl
@[simp] theorem State.countLane_phase (s : State) (l : LaneId) (c : LaneCounter) :
    (s.countLane l c).phase = s.phase := rfl
@[simp] theorem State.countLane_clock (s : State) (l : LaneId) (c : LaneCounter) :
    (s.countLane l c).clock = s.clock := rfl
@[simp] theorem State.countLane_sync (s : State) (l : LaneId) (c : LaneCounter) :
    (s.countLane l c).sync = s.sync := rfl
@[simp] theorem State.countLane_timelines (s : State) (l : LaneId) (c : LaneCounter) :
    (s.countLane l c).timelines = s.timelines := rfl
@[simp] theorem State.countLane_directory (s : State) (l : LaneId) (c : LaneCounter) :
    (s.countLane l c).directory = s.directory := rfl
@[simp] theorem State.countLane_table (s : State) (l : LaneId) (c : LaneCounter) :
    (s.countLane l c).table = s.table := rfl
@[simp] theorem State.countLane_lanes (s : State) (l : LaneId) (c : LaneCounter) :
    (s.countLane l c).lanes = s.lanes := rfl
@[simp] theorem State.countLane_roster (s : State) (l : LaneId) (c : LaneCounter) :
    (s.countLane l c).roster = s.roster := rfl
@[simp] theorem State.countLane_settings (s : State) (l : LaneId) (c : LaneCounter) :
    (s.countLane l c).settings = s.settings := rfl
@[simp] theorem State.countLane_link (s : State) (l : LaneId) (c : LaneCounter) :
    (s.countLane l c).link = s.link := rfl
@[simp] theorem State.countLane_audCounters (s : State) (l : LaneId) (c : LaneCounter) :
    (s.countLane l c).audCounters = s.audCounters := rfl
@[simp] theorem State.countLane_status (s : State) (l : LaneId) (c : LaneCounter) :
    (s.countLane l c).status = s.status := rfl

/-! ### State.zeroCounters -/

@[simp] theorem State.zeroCounters_pending (s : State) :
    (s.zeroCounters).pending = s.pending := rfl
@[simp] theorem State.zeroCounters_phase (s : State) :
    (s.zeroCounters).phase = s.phase := rfl
@[simp] theorem State.zeroCounters_clock (s : State) :
    (s.zeroCounters).clock = s.clock := rfl
@[simp] theorem State.zeroCounters_sync (s : State) :
    (s.zeroCounters).sync = s.sync := rfl
@[simp] theorem State.zeroCounters_timelines (s : State) :
    (s.zeroCounters).timelines = s.timelines := rfl
@[simp] theorem State.zeroCounters_directory (s : State) :
    (s.zeroCounters).directory = s.directory := rfl
@[simp] theorem State.zeroCounters_table (s : State) :
    (s.zeroCounters).table = s.table := rfl
@[simp] theorem State.zeroCounters_lanes (s : State) :
    (s.zeroCounters).lanes = s.lanes := rfl
@[simp] theorem State.zeroCounters_roster (s : State) :
    (s.zeroCounters).roster = s.roster := rfl
@[simp] theorem State.zeroCounters_settings (s : State) :
    (s.zeroCounters).settings = s.settings := rfl
@[simp] theorem State.zeroCounters_link (s : State) :
    (s.zeroCounters).link = s.link := rfl
@[simp] theorem State.zeroCounters_status (s : State) :
    (s.zeroCounters).status = s.status := rfl

/-! ### State.withCond -/

@[simp] theorem State.withCond_pending (s : State) (c : Cond) (x : CondState) :
    (s.withCond c x).pending = s.pending := rfl
@[simp] theorem State.withCond_phase (s : State) (c : Cond) (x : CondState) :
    (s.withCond c x).phase = s.phase := rfl
@[simp] theorem State.withCond_clock (s : State) (c : Cond) (x : CondState) :
    (s.withCond c x).clock = s.clock := rfl
@[simp] theorem State.withCond_sync (s : State) (c : Cond) (x : CondState) :
    (s.withCond c x).sync = s.sync := rfl
@[simp] theorem State.withCond_timelines (s : State) (c : Cond) (x : CondState) :
    (s.withCond c x).timelines = s.timelines := rfl
@[simp] theorem State.withCond_directory (s : State) (c : Cond) (x : CondState) :
    (s.withCond c x).directory = s.directory := rfl
@[simp] theorem State.withCond_table (s : State) (c : Cond) (x : CondState) :
    (s.withCond c x).table = s.table := rfl
@[simp] theorem State.withCond_lanes (s : State) (c : Cond) (x : CondState) :
    (s.withCond c x).lanes = s.lanes := rfl
@[simp] theorem State.withCond_roster (s : State) (c : Cond) (x : CondState) :
    (s.withCond c x).roster = s.roster := rfl
@[simp] theorem State.withCond_settings (s : State) (c : Cond) (x : CondState) :
    (s.withCond c x).settings = s.settings := rfl
@[simp] theorem State.withCond_link (s : State) (c : Cond) (x : CondState) :
    (s.withCond c x).link = s.link := rfl
@[simp] theorem State.withCond_audCounters (s : State) (c : Cond) (x : CondState) :
    (s.withCond c x).audCounters = s.audCounters := rfl
@[simp] theorem State.withCond_laneCounters (s : State) (c : Cond) (x : CondState) :
    (s.withCond c x).laneCounters = s.laneCounters := rfl
@[simp] theorem State.withCond_status_forcedFault (s : State) (c : Cond) (x : CondState) :
    (s.withCond c x).status.forcedFault = s.status.forcedFault := rfl
@[simp] theorem State.withCond_status_forcedNotice (s : State) (c : Cond) (x : CondState) :
    (s.withCond c x).status.forcedNotice = s.status.forcedNotice := rfl

/-! ### State.latch -/

@[simp] theorem State.latch_pending (s : State) (c : Cond) (w : CondRec) :
    (s.latch c w).pending = s.pending := rfl
@[simp] theorem State.latch_phase (s : State) (c : Cond) (w : CondRec) :
    (s.latch c w).phase = s.phase := rfl
@[simp] theorem State.latch_clock (s : State) (c : Cond) (w : CondRec) :
    (s.latch c w).clock = s.clock := rfl
@[simp] theorem State.latch_sync (s : State) (c : Cond) (w : CondRec) :
    (s.latch c w).sync = s.sync := rfl
@[simp] theorem State.latch_timelines (s : State) (c : Cond) (w : CondRec) :
    (s.latch c w).timelines = s.timelines := rfl
@[simp] theorem State.latch_directory (s : State) (c : Cond) (w : CondRec) :
    (s.latch c w).directory = s.directory := rfl
@[simp] theorem State.latch_table (s : State) (c : Cond) (w : CondRec) :
    (s.latch c w).table = s.table := rfl
@[simp] theorem State.latch_lanes (s : State) (c : Cond) (w : CondRec) :
    (s.latch c w).lanes = s.lanes := rfl
@[simp] theorem State.latch_roster (s : State) (c : Cond) (w : CondRec) :
    (s.latch c w).roster = s.roster := rfl
@[simp] theorem State.latch_settings (s : State) (c : Cond) (w : CondRec) :
    (s.latch c w).settings = s.settings := rfl
@[simp] theorem State.latch_link (s : State) (c : Cond) (w : CondRec) :
    (s.latch c w).link = s.link := rfl
@[simp] theorem State.latch_audCounters (s : State) (c : Cond) (w : CondRec) :
    (s.latch c w).audCounters = s.audCounters := rfl
@[simp] theorem State.latch_laneCounters (s : State) (c : Cond) (w : CondRec) :
    (s.latch c w).laneCounters = s.laneCounters := rfl
@[simp] theorem State.latch_status_forcedFault (s : State) (c : Cond) (w : CondRec) :
    (s.latch c w).status.forcedFault = s.status.forcedFault := rfl
@[simp] theorem State.latch_status_forcedNotice (s : State) (c : Cond) (w : CondRec) :
    (s.latch c w).status.forcedNotice = s.status.forcedNotice := rfl

/-! ### State.clearCond -/

@[simp] theorem State.clearCond_pending (s : State) (c : Cond) :
    (s.clearCond c).pending = s.pending := rfl
@[simp] theorem State.clearCond_phase (s : State) (c : Cond) :
    (s.clearCond c).phase = s.phase := rfl
@[simp] theorem State.clearCond_clock (s : State) (c : Cond) :
    (s.clearCond c).clock = s.clock := rfl
@[simp] theorem State.clearCond_sync (s : State) (c : Cond) :
    (s.clearCond c).sync = s.sync := rfl
@[simp] theorem State.clearCond_timelines (s : State) (c : Cond) :
    (s.clearCond c).timelines = s.timelines := rfl
@[simp] theorem State.clearCond_directory (s : State) (c : Cond) :
    (s.clearCond c).directory = s.directory := rfl
@[simp] theorem State.clearCond_table (s : State) (c : Cond) :
    (s.clearCond c).table = s.table := rfl
@[simp] theorem State.clearCond_lanes (s : State) (c : Cond) :
    (s.clearCond c).lanes = s.lanes := rfl
@[simp] theorem State.clearCond_roster (s : State) (c : Cond) :
    (s.clearCond c).roster = s.roster := rfl
@[simp] theorem State.clearCond_settings (s : State) (c : Cond) :
    (s.clearCond c).settings = s.settings := rfl
@[simp] theorem State.clearCond_link (s : State) (c : Cond) :
    (s.clearCond c).link = s.link := rfl
@[simp] theorem State.clearCond_audCounters (s : State) (c : Cond) :
    (s.clearCond c).audCounters = s.audCounters := rfl
@[simp] theorem State.clearCond_laneCounters (s : State) (c : Cond) :
    (s.clearCond c).laneCounters = s.laneCounters := rfl
@[simp] theorem State.clearCond_status_forcedFault (s : State) (c : Cond) :
    (s.clearCond c).status.forcedFault = s.status.forcedFault := rfl
@[simp] theorem State.clearCond_status_forcedNotice (s : State) (c : Cond) :
    (s.clearCond c).status.forcedNotice = s.status.forcedNotice := rfl

/-! ### settle -/

@[simp] theorem settle_pending (s : State) :
    (settle s).pending = s.pending := rfl
@[simp] theorem settle_phase (s : State) :
    (settle s).phase = s.phase := rfl
@[simp] theorem settle_clock (s : State) :
    (settle s).clock = s.clock := rfl
@[simp] theorem settle_sync (s : State) :
    (settle s).sync = s.sync := rfl
@[simp] theorem settle_timelines (s : State) :
    (settle s).timelines = s.timelines := rfl
@[simp] theorem settle_directory (s : State) :
    (settle s).directory = s.directory := rfl
@[simp] theorem settle_table (s : State) :
    (settle s).table = s.table := rfl
@[simp] theorem settle_lanes (s : State) :
    (settle s).lanes = s.lanes := rfl
@[simp] theorem settle_roster (s : State) :
    (settle s).roster = s.roster := rfl
@[simp] theorem settle_settings (s : State) :
    (settle s).settings = s.settings := rfl
@[simp] theorem settle_link (s : State) :
    (settle s).link = s.link := rfl
@[simp] theorem settle_audCounters (s : State) :
    (settle s).audCounters = s.audCounters := rfl
@[simp] theorem settle_laneCounters (s : State) :
    (settle s).laneCounters = s.laneCounters := rfl
@[simp] theorem settle_status_forcedFault (s : State) :
    (settle s).status.forcedFault = s.status.forcedFault := rfl
@[simp] theorem settle_status_forcedNotice (s : State) :
    (settle s).status.forcedNotice = s.status.forcedNotice := rfl
@[simp] theorem settle_conds (s : State) :
    (settle s).status.conds = s.status.conds := rfl

/-! ### State.withTimeline -/

@[simp] theorem State.withTimeline_pending (s : State) (a : Aud) (x : Timeline) :
    (s.withTimeline a x).pending = s.pending := rfl
@[simp] theorem State.withTimeline_phase (s : State) (a : Aud) (x : Timeline) :
    (s.withTimeline a x).phase = s.phase := rfl
@[simp] theorem State.withTimeline_clock (s : State) (a : Aud) (x : Timeline) :
    (s.withTimeline a x).clock = s.clock := rfl
@[simp] theorem State.withTimeline_sync (s : State) (a : Aud) (x : Timeline) :
    (s.withTimeline a x).sync = s.sync := rfl
@[simp] theorem State.withTimeline_directory (s : State) (a : Aud) (x : Timeline) :
    (s.withTimeline a x).directory = s.directory := rfl
@[simp] theorem State.withTimeline_table (s : State) (a : Aud) (x : Timeline) :
    (s.withTimeline a x).table = s.table := rfl
@[simp] theorem State.withTimeline_lanes (s : State) (a : Aud) (x : Timeline) :
    (s.withTimeline a x).lanes = s.lanes := rfl
@[simp] theorem State.withTimeline_roster (s : State) (a : Aud) (x : Timeline) :
    (s.withTimeline a x).roster = s.roster := rfl
@[simp] theorem State.withTimeline_settings (s : State) (a : Aud) (x : Timeline) :
    (s.withTimeline a x).settings = s.settings := rfl
@[simp] theorem State.withTimeline_link (s : State) (a : Aud) (x : Timeline) :
    (s.withTimeline a x).link = s.link := rfl
@[simp] theorem State.withTimeline_audCounters (s : State) (a : Aud) (x : Timeline) :
    (s.withTimeline a x).audCounters = s.audCounters := rfl
@[simp] theorem State.withTimeline_laneCounters (s : State) (a : Aud) (x : Timeline) :
    (s.withTimeline a x).laneCounters = s.laneCounters := rfl
@[simp] theorem State.withTimeline_status (s : State) (a : Aud) (x : Timeline) :
    (s.withTimeline a x).status = s.status := rfl

/-! ### State.withSync -/

@[simp] theorem State.withSync_pending (s : State) (a : Aud) (x : SyncInput) :
    (s.withSync a x).pending = s.pending := rfl
@[simp] theorem State.withSync_phase (s : State) (a : Aud) (x : SyncInput) :
    (s.withSync a x).phase = s.phase := rfl
@[simp] theorem State.withSync_clock (s : State) (a : Aud) (x : SyncInput) :
    (s.withSync a x).clock = s.clock := rfl
@[simp] theorem State.withSync_timelines (s : State) (a : Aud) (x : SyncInput) :
    (s.withSync a x).timelines = s.timelines := rfl
@[simp] theorem State.withSync_directory (s : State) (a : Aud) (x : SyncInput) :
    (s.withSync a x).directory = s.directory := rfl
@[simp] theorem State.withSync_table (s : State) (a : Aud) (x : SyncInput) :
    (s.withSync a x).table = s.table := rfl
@[simp] theorem State.withSync_lanes (s : State) (a : Aud) (x : SyncInput) :
    (s.withSync a x).lanes = s.lanes := rfl
@[simp] theorem State.withSync_roster (s : State) (a : Aud) (x : SyncInput) :
    (s.withSync a x).roster = s.roster := rfl
@[simp] theorem State.withSync_settings (s : State) (a : Aud) (x : SyncInput) :
    (s.withSync a x).settings = s.settings := rfl
@[simp] theorem State.withSync_link (s : State) (a : Aud) (x : SyncInput) :
    (s.withSync a x).link = s.link := rfl
@[simp] theorem State.withSync_audCounters (s : State) (a : Aud) (x : SyncInput) :
    (s.withSync a x).audCounters = s.audCounters := rfl
@[simp] theorem State.withSync_laneCounters (s : State) (a : Aud) (x : SyncInput) :
    (s.withSync a x).laneCounters = s.laneCounters := rfl
@[simp] theorem State.withSync_status (s : State) (a : Aud) (x : SyncInput) :
    (s.withSync a x).status = s.status := rfl

/-! ### State.withLane -/

@[simp] theorem State.withLane_pending (s : State) (l : LaneId) (x : Lane) :
    (s.withLane l x).pending = s.pending := rfl
@[simp] theorem State.withLane_phase (s : State) (l : LaneId) (x : Lane) :
    (s.withLane l x).phase = s.phase := rfl
@[simp] theorem State.withLane_clock (s : State) (l : LaneId) (x : Lane) :
    (s.withLane l x).clock = s.clock := rfl
@[simp] theorem State.withLane_sync (s : State) (l : LaneId) (x : Lane) :
    (s.withLane l x).sync = s.sync := rfl
@[simp] theorem State.withLane_timelines (s : State) (l : LaneId) (x : Lane) :
    (s.withLane l x).timelines = s.timelines := rfl
@[simp] theorem State.withLane_directory (s : State) (l : LaneId) (x : Lane) :
    (s.withLane l x).directory = s.directory := rfl
@[simp] theorem State.withLane_table (s : State) (l : LaneId) (x : Lane) :
    (s.withLane l x).table = s.table := rfl
@[simp] theorem State.withLane_roster (s : State) (l : LaneId) (x : Lane) :
    (s.withLane l x).roster = s.roster := rfl
@[simp] theorem State.withLane_settings (s : State) (l : LaneId) (x : Lane) :
    (s.withLane l x).settings = s.settings := rfl
@[simp] theorem State.withLane_link (s : State) (l : LaneId) (x : Lane) :
    (s.withLane l x).link = s.link := rfl
@[simp] theorem State.withLane_audCounters (s : State) (l : LaneId) (x : Lane) :
    (s.withLane l x).audCounters = s.audCounters := rfl
@[simp] theorem State.withLane_laneCounters (s : State) (l : LaneId) (x : Lane) :
    (s.withLane l x).laneCounters = s.laneCounters := rfl
@[simp] theorem State.withLane_status (s : State) (l : LaneId) (x : Lane) :
    (s.withLane l x).status = s.status := rfl

/-! ### State.putCue -/

@[simp] theorem State.putCue_pending (s : State) (c : Cue) :
    (s.putCue c).pending = s.pending := rfl
@[simp] theorem State.putCue_phase (s : State) (c : Cue) :
    (s.putCue c).phase = s.phase := rfl
@[simp] theorem State.putCue_clock (s : State) (c : Cue) :
    (s.putCue c).clock = s.clock := rfl
@[simp] theorem State.putCue_sync (s : State) (c : Cue) :
    (s.putCue c).sync = s.sync := rfl
@[simp] theorem State.putCue_timelines (s : State) (c : Cue) :
    (s.putCue c).timelines = s.timelines := rfl
@[simp] theorem State.putCue_directory (s : State) (c : Cue) :
    (s.putCue c).directory = s.directory := rfl
@[simp] theorem State.putCue_table_payload (s : State) (c : Cue) :
    (s.putCue c).table.payload = s.table.payload := rfl
@[simp] theorem State.putCue_lanes (s : State) (c : Cue) :
    (s.putCue c).lanes = s.lanes := rfl
@[simp] theorem State.putCue_roster (s : State) (c : Cue) :
    (s.putCue c).roster = s.roster := rfl
@[simp] theorem State.putCue_settings (s : State) (c : Cue) :
    (s.putCue c).settings = s.settings := rfl
@[simp] theorem State.putCue_link (s : State) (c : Cue) :
    (s.putCue c).link = s.link := rfl
@[simp] theorem State.putCue_audCounters (s : State) (c : Cue) :
    (s.putCue c).audCounters = s.audCounters := rfl
@[simp] theorem State.putCue_laneCounters (s : State) (c : Cue) :
    (s.putCue c).laneCounters = s.laneCounters := rfl
@[simp] theorem State.putCue_status (s : State) (c : Cue) :
    (s.putCue c).status = s.status := rfl
@[simp] theorem State.putCue_table_free (s : State) (c : Cue) :
    (s.putCue c).table.free = s.table.free := rfl

/-! ### State.putRx -/

@[simp] theorem State.putRx_pending (s : State) (r : RxRec) :
    (s.putRx r).pending = s.pending := rfl
@[simp] theorem State.putRx_phase (s : State) (r : RxRec) :
    (s.putRx r).phase = s.phase := rfl
@[simp] theorem State.putRx_clock (s : State) (r : RxRec) :
    (s.putRx r).clock = s.clock := rfl
@[simp] theorem State.putRx_sync (s : State) (r : RxRec) :
    (s.putRx r).sync = s.sync := rfl
@[simp] theorem State.putRx_timelines (s : State) (r : RxRec) :
    (s.putRx r).timelines = s.timelines := rfl
@[simp] theorem State.putRx_directory (s : State) (r : RxRec) :
    (s.putRx r).directory = s.directory := rfl
@[simp] theorem State.putRx_table (s : State) (r : RxRec) :
    (s.putRx r).table = s.table := rfl
@[simp] theorem State.putRx_lanes (s : State) (r : RxRec) :
    (s.putRx r).lanes = s.lanes := rfl
@[simp] theorem State.putRx_settings (s : State) (r : RxRec) :
    (s.putRx r).settings = s.settings := rfl
@[simp] theorem State.putRx_link (s : State) (r : RxRec) :
    (s.putRx r).link = s.link := rfl
@[simp] theorem State.putRx_audCounters (s : State) (r : RxRec) :
    (s.putRx r).audCounters = s.audCounters := rfl
@[simp] theorem State.putRx_laneCounters (s : State) (r : RxRec) :
    (s.putRx r).laneCounters = s.laneCounters := rfl
@[simp] theorem State.putRx_status (s : State) (r : RxRec) :
    (s.putRx r).status = s.status := rfl

/-! ### clearMarks -/

@[simp] theorem clearMarks_pending (s : State) (l : LaneId) :
    (clearMarks l s).pending = s.pending := rfl
@[simp] theorem clearMarks_phase (s : State) (l : LaneId) :
    (clearMarks l s).phase = s.phase := rfl
@[simp] theorem clearMarks_clock (s : State) (l : LaneId) :
    (clearMarks l s).clock = s.clock := rfl
@[simp] theorem clearMarks_sync (s : State) (l : LaneId) :
    (clearMarks l s).sync = s.sync := rfl
@[simp] theorem clearMarks_timelines (s : State) (l : LaneId) :
    (clearMarks l s).timelines = s.timelines := rfl
@[simp] theorem clearMarks_directory (s : State) (l : LaneId) :
    (clearMarks l s).directory = s.directory := rfl
@[simp] theorem clearMarks_table (s : State) (l : LaneId) :
    (clearMarks l s).table = s.table := rfl
@[simp] theorem clearMarks_lanes (s : State) (l : LaneId) :
    (clearMarks l s).lanes = s.lanes := rfl
@[simp] theorem clearMarks_settings (s : State) (l : LaneId) :
    (clearMarks l s).settings = s.settings := rfl
@[simp] theorem clearMarks_link (s : State) (l : LaneId) :
    (clearMarks l s).link = s.link := rfl
@[simp] theorem clearMarks_audCounters (s : State) (l : LaneId) :
    (clearMarks l s).audCounters = s.audCounters := rfl
@[simp] theorem clearMarks_laneCounters (s : State) (l : LaneId) :
    (clearMarks l s).laneCounters = s.laneCounters := rfl
@[simp] theorem clearMarks_status (s : State) (l : LaneId) :
    (clearMarks l s).status = s.status := rfl

/-! ### boundaryTaken -/

@[simp] theorem boundaryTaken_pending (s : State) (l : LaneId) :
    (boundaryTaken l s).pending = s.pending := rfl
@[simp] theorem boundaryTaken_phase (s : State) (l : LaneId) :
    (boundaryTaken l s).phase = s.phase := rfl
@[simp] theorem boundaryTaken_sync (s : State) (l : LaneId) :
    (boundaryTaken l s).sync = s.sync := rfl
@[simp] theorem boundaryTaken_timelines (s : State) (l : LaneId) :
    (boundaryTaken l s).timelines = s.timelines := rfl
@[simp] theorem boundaryTaken_directory (s : State) (l : LaneId) :
    (boundaryTaken l s).directory = s.directory := rfl
@[simp] theorem boundaryTaken_table (s : State) (l : LaneId) :
    (boundaryTaken l s).table = s.table := rfl
@[simp] theorem boundaryTaken_lanes (s : State) (l : LaneId) :
    (boundaryTaken l s).lanes = s.lanes := rfl
@[simp] theorem boundaryTaken_roster (s : State) (l : LaneId) :
    (boundaryTaken l s).roster = s.roster := rfl
@[simp] theorem boundaryTaken_settings (s : State) (l : LaneId) :
    (boundaryTaken l s).settings = s.settings := rfl
@[simp] theorem boundaryTaken_link (s : State) (l : LaneId) :
    (boundaryTaken l s).link = s.link := rfl
@[simp] theorem boundaryTaken_audCounters (s : State) (l : LaneId) :
    (boundaryTaken l s).audCounters = s.audCounters := rfl
@[simp] theorem boundaryTaken_laneCounters (s : State) (l : LaneId) :
    (boundaryTaken l s).laneCounters = s.laneCounters := rfl
@[simp] theorem boundaryTaken_status (s : State) (l : LaneId) :
    (boundaryTaken l s).status = s.status := rfl

/-! ### placeResponse -/

@[simp] theorem placeResponse_pending (s : State) (m : Msg) (r : Result) (c : Bool) (b : List Byte) :
    (placeResponse m r c b s).pending = s.pending := rfl
@[simp] theorem placeResponse_phase (s : State) (m : Msg) (r : Result) (c : Bool) (b : List Byte) :
    (placeResponse m r c b s).phase = s.phase := rfl
@[simp] theorem placeResponse_clock (s : State) (m : Msg) (r : Result) (c : Bool) (b : List Byte) :
    (placeResponse m r c b s).clock = s.clock := rfl
@[simp] theorem placeResponse_sync (s : State) (m : Msg) (r : Result) (c : Bool) (b : List Byte) :
    (placeResponse m r c b s).sync = s.sync := rfl
@[simp] theorem placeResponse_timelines (s : State) (m : Msg) (r : Result) (c : Bool) (b : List Byte) :
    (placeResponse m r c b s).timelines = s.timelines := rfl
@[simp] theorem placeResponse_directory (s : State) (m : Msg) (r : Result) (c : Bool) (b : List Byte) :
    (placeResponse m r c b s).directory = s.directory := rfl
@[simp] theorem placeResponse_table (s : State) (m : Msg) (r : Result) (c : Bool) (b : List Byte) :
    (placeResponse m r c b s).table = s.table := rfl
@[simp] theorem placeResponse_lanes (s : State) (m : Msg) (r : Result) (c : Bool) (b : List Byte) :
    (placeResponse m r c b s).lanes = s.lanes := rfl
@[simp] theorem placeResponse_roster (s : State) (m : Msg) (r : Result) (c : Bool) (b : List Byte) :
    (placeResponse m r c b s).roster = s.roster := rfl
@[simp] theorem placeResponse_settings (s : State) (m : Msg) (r : Result) (c : Bool) (b : List Byte) :
    (placeResponse m r c b s).settings = s.settings := rfl
@[simp] theorem placeResponse_audCounters (s : State) (m : Msg) (r : Result) (c : Bool) (b : List Byte) :
    (placeResponse m r c b s).audCounters = s.audCounters := rfl
@[simp] theorem placeResponse_laneCounters (s : State) (m : Msg) (r : Result) (c : Bool) (b : List Byte) :
    (placeResponse m r c b s).laneCounters = s.laneCounters := rfl
@[simp] theorem placeResponse_status (s : State) (m : Msg) (r : Result) (c : Bool) (b : List Byte) :
    (placeResponse m r c b s).status = s.status := rfl
@[simp] theorem placeResponse_link_inbox (s : State) (m : Msg) (r : Result) (c : Bool) (b : List Byte) :
    (placeResponse m r c b s).link.inbox = s.link.inbox := rfl
@[simp] theorem placeResponse_link_txn (s : State) (m : Msg) (r : Result) (c : Bool) (b : List Byte) :
    (placeResponse m r c b s).link.txn = s.link.txn := rfl
@[simp] theorem placeResponse_link_csSample (s : State) (m : Msg) (r : Result) (c : Bool)
    (b : List Byte) : (placeResponse m r c b s).link.csSample = s.link.csSample := rfl
@[simp] theorem placeResponse_link_miso (s : State) (m : Msg) (r : Result) (c : Bool) (b : List Byte) :
    (placeResponse m r c b s).link.miso = s.link.miso := rfl

/-! ### csFalls -/

@[simp] theorem csFalls_pending (s : State) :
    (csFalls s).pending = s.pending := rfl
@[simp] theorem csFalls_phase (s : State) :
    (csFalls s).phase = s.phase := rfl
@[simp] theorem csFalls_clock (s : State) :
    (csFalls s).clock = s.clock := rfl
@[simp] theorem csFalls_sync (s : State) :
    (csFalls s).sync = s.sync := rfl
@[simp] theorem csFalls_timelines (s : State) :
    (csFalls s).timelines = s.timelines := rfl
@[simp] theorem csFalls_directory (s : State) :
    (csFalls s).directory = s.directory := rfl
@[simp] theorem csFalls_table (s : State) :
    (csFalls s).table = s.table := rfl
@[simp] theorem csFalls_lanes (s : State) :
    (csFalls s).lanes = s.lanes := rfl
@[simp] theorem csFalls_roster (s : State) :
    (csFalls s).roster = s.roster := rfl
@[simp] theorem csFalls_settings (s : State) :
    (csFalls s).settings = s.settings := rfl
@[simp] theorem csFalls_audCounters (s : State) :
    (csFalls s).audCounters = s.audCounters := rfl
@[simp] theorem csFalls_laneCounters (s : State) :
    (csFalls s).laneCounters = s.laneCounters := rfl
@[simp] theorem csFalls_status (s : State) :
    (csFalls s).status = s.status := rfl
@[simp] theorem csFalls_link_inbox (s : State) :
    (csFalls s).link.inbox = s.link.inbox := rfl
@[simp] theorem csFalls_link_outbox (s : State) :
    (csFalls s).link.outbox = s.link.outbox := rfl
@[simp] theorem csFalls_link_txn (s : State) :
    (csFalls s).link.txn = s.link.txn := rfl

/-! ### beginTxn -/

@[simp] theorem beginTxn_pending (s : State) (k : TxnKind) (o : List Byte) :
    (beginTxn k o s).pending = s.pending := rfl
@[simp] theorem beginTxn_phase (s : State) (k : TxnKind) (o : List Byte) :
    (beginTxn k o s).phase = s.phase := rfl
@[simp] theorem beginTxn_clock (s : State) (k : TxnKind) (o : List Byte) :
    (beginTxn k o s).clock = s.clock := rfl
@[simp] theorem beginTxn_sync (s : State) (k : TxnKind) (o : List Byte) :
    (beginTxn k o s).sync = s.sync := rfl
@[simp] theorem beginTxn_timelines (s : State) (k : TxnKind) (o : List Byte) :
    (beginTxn k o s).timelines = s.timelines := rfl
@[simp] theorem beginTxn_directory (s : State) (k : TxnKind) (o : List Byte) :
    (beginTxn k o s).directory = s.directory := rfl
@[simp] theorem beginTxn_table (s : State) (k : TxnKind) (o : List Byte) :
    (beginTxn k o s).table = s.table := rfl
@[simp] theorem beginTxn_lanes (s : State) (k : TxnKind) (o : List Byte) :
    (beginTxn k o s).lanes = s.lanes := rfl
@[simp] theorem beginTxn_roster (s : State) (k : TxnKind) (o : List Byte) :
    (beginTxn k o s).roster = s.roster := rfl
@[simp] theorem beginTxn_settings (s : State) (k : TxnKind) (o : List Byte) :
    (beginTxn k o s).settings = s.settings := rfl
@[simp] theorem beginTxn_audCounters (s : State) (k : TxnKind) (o : List Byte) :
    (beginTxn k o s).audCounters = s.audCounters := rfl
@[simp] theorem beginTxn_laneCounters (s : State) (k : TxnKind) (o : List Byte) :
    (beginTxn k o s).laneCounters = s.laneCounters := rfl
@[simp] theorem beginTxn_status (s : State) (k : TxnKind) (o : List Byte) :
    (beginTxn k o s).status = s.status := rfl
@[simp] theorem beginTxn_link_inbox (s : State) (k : TxnKind) (o : List Byte) :
    (beginTxn k o s).link.inbox = s.link.inbox := rfl
@[simp] theorem beginTxn_link_outbox (s : State) (k : TxnKind) (o : List Byte) :
    (beginTxn k o s).link.outbox = s.link.outbox := rfl

/-! ### secondByteBegins -/

@[simp] theorem secondByteBegins_pending (s : State) (k : TxnKind) (o : List Byte) :
    (secondByteBegins k o s).pending = s.pending := rfl
@[simp] theorem secondByteBegins_phase (s : State) (k : TxnKind) (o : List Byte) :
    (secondByteBegins k o s).phase = s.phase := rfl
@[simp] theorem secondByteBegins_clock (s : State) (k : TxnKind) (o : List Byte) :
    (secondByteBegins k o s).clock = s.clock := rfl
@[simp] theorem secondByteBegins_sync (s : State) (k : TxnKind) (o : List Byte) :
    (secondByteBegins k o s).sync = s.sync := rfl
@[simp] theorem secondByteBegins_timelines (s : State) (k : TxnKind) (o : List Byte) :
    (secondByteBegins k o s).timelines = s.timelines := rfl
@[simp] theorem secondByteBegins_directory (s : State) (k : TxnKind) (o : List Byte) :
    (secondByteBegins k o s).directory = s.directory := rfl
@[simp] theorem secondByteBegins_table (s : State) (k : TxnKind) (o : List Byte) :
    (secondByteBegins k o s).table = s.table := rfl
@[simp] theorem secondByteBegins_lanes (s : State) (k : TxnKind) (o : List Byte) :
    (secondByteBegins k o s).lanes = s.lanes := rfl
@[simp] theorem secondByteBegins_roster (s : State) (k : TxnKind) (o : List Byte) :
    (secondByteBegins k o s).roster = s.roster := rfl
@[simp] theorem secondByteBegins_settings (s : State) (k : TxnKind) (o : List Byte) :
    (secondByteBegins k o s).settings = s.settings := rfl
@[simp] theorem secondByteBegins_audCounters (s : State) (k : TxnKind) (o : List Byte) :
    (secondByteBegins k o s).audCounters = s.audCounters := rfl
@[simp] theorem secondByteBegins_laneCounters (s : State) (k : TxnKind) (o : List Byte) :
    (secondByteBegins k o s).laneCounters = s.laneCounters := rfl
@[simp] theorem secondByteBegins_status (s : State) (k : TxnKind) (o : List Byte) :
    (secondByteBegins k o s).status = s.status := rfl
@[simp] theorem secondByteBegins_link_inbox (s : State) (k : TxnKind) (o : List Byte) :
    (secondByteBegins k o s).link.inbox = s.link.inbox := rfl
@[simp] theorem secondByteBegins_link_outbox (s : State) (k : TxnKind) (o : List Byte) :
    (secondByteBegins k o s).link.outbox = s.link.outbox := rfl
@[simp] theorem secondByteBegins_link_csSample (s : State) (k : TxnKind) (o : List Byte) :
    (secondByteBegins k o s).link.csSample = s.link.csSample := rfl
@[simp] theorem secondByteBegins_link_miso (s : State) (k : TxnKind) (o : List Byte) :
    (secondByteBegins k o s).link.miso = s.link.miso := rfl

/-! ### endTxn -/

@[simp] theorem endTxn_pending (s : State) (o : List Byte) (n : Nat) :
    (endTxn o n s).pending = s.pending := rfl
@[simp] theorem endTxn_phase (s : State) (o : List Byte) (n : Nat) :
    (endTxn o n s).phase = s.phase := rfl
@[simp] theorem endTxn_clock (s : State) (o : List Byte) (n : Nat) :
    (endTxn o n s).clock = s.clock := rfl
@[simp] theorem endTxn_sync (s : State) (o : List Byte) (n : Nat) :
    (endTxn o n s).sync = s.sync := rfl
@[simp] theorem endTxn_timelines (s : State) (o : List Byte) (n : Nat) :
    (endTxn o n s).timelines = s.timelines := rfl
@[simp] theorem endTxn_directory (s : State) (o : List Byte) (n : Nat) :
    (endTxn o n s).directory = s.directory := rfl
@[simp] theorem endTxn_table (s : State) (o : List Byte) (n : Nat) :
    (endTxn o n s).table = s.table := rfl
@[simp] theorem endTxn_lanes (s : State) (o : List Byte) (n : Nat) :
    (endTxn o n s).lanes = s.lanes := rfl
@[simp] theorem endTxn_roster (s : State) (o : List Byte) (n : Nat) :
    (endTxn o n s).roster = s.roster := rfl
@[simp] theorem endTxn_settings (s : State) (o : List Byte) (n : Nat) :
    (endTxn o n s).settings = s.settings := rfl
@[simp] theorem endTxn_audCounters (s : State) (o : List Byte) (n : Nat) :
    (endTxn o n s).audCounters = s.audCounters := rfl
@[simp] theorem endTxn_laneCounters (s : State) (o : List Byte) (n : Nat) :
    (endTxn o n s).laneCounters = s.laneCounters := rfl
@[simp] theorem endTxn_status (s : State) (o : List Byte) (n : Nat) :
    (endTxn o n s).status = s.status := rfl
@[simp] theorem endTxn_link_inbox (s : State) (o : List Byte) (n : Nat) :
    (endTxn o n s).link.inbox = s.link.inbox := rfl
@[simp] theorem endTxn_link_outbox (s : State) (o : List Byte) (n : Nat) :
    (endTxn o n s).link.outbox = s.link.outbox := rfl
@[simp] theorem endTxn_link_csSample (s : State) (o : List Byte) (n : Nat) :
    (endTxn o n s).link.csSample = s.link.csSample := rfl

/-! ### idleTxn -/

@[simp] theorem idleTxn_pending (s : State) (o : List Byte) (n : Nat) :
    (idleTxn o n s).pending = s.pending := rfl
@[simp] theorem idleTxn_phase (s : State) (o : List Byte) (n : Nat) :
    (idleTxn o n s).phase = s.phase := rfl
@[simp] theorem idleTxn_clock (s : State) (o : List Byte) (n : Nat) :
    (idleTxn o n s).clock = s.clock := rfl
@[simp] theorem idleTxn_sync (s : State) (o : List Byte) (n : Nat) :
    (idleTxn o n s).sync = s.sync := rfl
@[simp] theorem idleTxn_timelines (s : State) (o : List Byte) (n : Nat) :
    (idleTxn o n s).timelines = s.timelines := rfl
@[simp] theorem idleTxn_directory (s : State) (o : List Byte) (n : Nat) :
    (idleTxn o n s).directory = s.directory := rfl
@[simp] theorem idleTxn_table (s : State) (o : List Byte) (n : Nat) :
    (idleTxn o n s).table = s.table := rfl
@[simp] theorem idleTxn_lanes (s : State) (o : List Byte) (n : Nat) :
    (idleTxn o n s).lanes = s.lanes := rfl
@[simp] theorem idleTxn_roster (s : State) (o : List Byte) (n : Nat) :
    (idleTxn o n s).roster = s.roster := rfl
@[simp] theorem idleTxn_settings (s : State) (o : List Byte) (n : Nat) :
    (idleTxn o n s).settings = s.settings := rfl
@[simp] theorem idleTxn_audCounters (s : State) (o : List Byte) (n : Nat) :
    (idleTxn o n s).audCounters = s.audCounters := rfl
@[simp] theorem idleTxn_laneCounters (s : State) (o : List Byte) (n : Nat) :
    (idleTxn o n s).laneCounters = s.laneCounters := rfl
@[simp] theorem idleTxn_status (s : State) (o : List Byte) (n : Nat) :
    (idleTxn o n s).status = s.status := rfl
@[simp] theorem idleTxn_link_inbox (s : State) (o : List Byte) (n : Nat) :
    (idleTxn o n s).link.inbox = s.link.inbox := rfl
@[simp] theorem idleTxn_link_outbox (s : State) (o : List Byte) (n : Nat) :
    (idleTxn o n s).link.outbox = s.link.outbox := rfl
@[simp] theorem idleTxn_link_txn (s : State) (o : List Byte) (n : Nat) :
    (idleTxn o n s).link.txn = s.link.txn := rfl

/-! ### recountFlags -/

@[simp] theorem recountFlags_pending (s : State) (a : Aud) :
    (recountFlags a s).pending = s.pending := rfl
@[simp] theorem recountFlags_phase (s : State) (a : Aud) :
    (recountFlags a s).phase = s.phase := rfl
@[simp] theorem recountFlags_clock (s : State) (a : Aud) :
    (recountFlags a s).clock = s.clock := rfl
@[simp] theorem recountFlags_sync (s : State) (a : Aud) :
    (recountFlags a s).sync = s.sync := rfl
@[simp] theorem recountFlags_timelines (s : State) (a : Aud) :
    (recountFlags a s).timelines = s.timelines := rfl
@[simp] theorem recountFlags_directory (s : State) (a : Aud) :
    (recountFlags a s).directory = s.directory := rfl
@[simp] theorem recountFlags_table (s : State) (a : Aud) :
    (recountFlags a s).table = s.table := rfl
@[simp] theorem recountFlags_lanes (s : State) (a : Aud) :
    (recountFlags a s).lanes = s.lanes := rfl
@[simp] theorem recountFlags_settings (s : State) (a : Aud) :
    (recountFlags a s).settings = s.settings := rfl
@[simp] theorem recountFlags_link (s : State) (a : Aud) :
    (recountFlags a s).link = s.link := rfl
@[simp] theorem recountFlags_audCounters (s : State) (a : Aud) :
    (recountFlags a s).audCounters = s.audCounters := rfl
@[simp] theorem recountFlags_laneCounters (s : State) (a : Aud) :
    (recountFlags a s).laneCounters = s.laneCounters := rfl
@[simp] theorem recountFlags_status (s : State) (a : Aud) :
    (recountFlags a s).status = s.status := rfl

/-! ### State.judge -/

@[simp] theorem State.judge_pending (s : State) (c : Cond) (h : Bool) (w : CondRec) :
    (s.judge c h w).pending = s.pending := by unfold State.judge; (repeat' split) <;> rfl
@[simp] theorem State.judge_phase (s : State) (c : Cond) (h : Bool) (w : CondRec) :
    (s.judge c h w).phase = s.phase := by unfold State.judge; (repeat' split) <;> rfl
@[simp] theorem State.judge_clock (s : State) (c : Cond) (h : Bool) (w : CondRec) :
    (s.judge c h w).clock = s.clock := by unfold State.judge; (repeat' split) <;> rfl
@[simp] theorem State.judge_sync (s : State) (c : Cond) (h : Bool) (w : CondRec) :
    (s.judge c h w).sync = s.sync := by unfold State.judge; (repeat' split) <;> rfl
@[simp] theorem State.judge_timelines (s : State) (c : Cond) (h : Bool) (w : CondRec) :
    (s.judge c h w).timelines = s.timelines := by unfold State.judge; (repeat' split) <;> rfl
@[simp] theorem State.judge_directory (s : State) (c : Cond) (h : Bool) (w : CondRec) :
    (s.judge c h w).directory = s.directory := by unfold State.judge; (repeat' split) <;> rfl
@[simp] theorem State.judge_table (s : State) (c : Cond) (h : Bool) (w : CondRec) :
    (s.judge c h w).table = s.table := by unfold State.judge; (repeat' split) <;> rfl
@[simp] theorem State.judge_lanes (s : State) (c : Cond) (h : Bool) (w : CondRec) :
    (s.judge c h w).lanes = s.lanes := by unfold State.judge; (repeat' split) <;> rfl
@[simp] theorem State.judge_roster (s : State) (c : Cond) (h : Bool) (w : CondRec) :
    (s.judge c h w).roster = s.roster := by unfold State.judge; (repeat' split) <;> rfl
@[simp] theorem State.judge_settings (s : State) (c : Cond) (h : Bool) (w : CondRec) :
    (s.judge c h w).settings = s.settings := by unfold State.judge; (repeat' split) <;> rfl
@[simp] theorem State.judge_link (s : State) (c : Cond) (h : Bool) (w : CondRec) :
    (s.judge c h w).link = s.link := by unfold State.judge; (repeat' split) <;> rfl
@[simp] theorem State.judge_audCounters (s : State) (c : Cond) (h : Bool) (w : CondRec) :
    (s.judge c h w).audCounters = s.audCounters := by unfold State.judge; (repeat' split) <;> rfl
@[simp] theorem State.judge_laneCounters (s : State) (c : Cond) (h : Bool) (w : CondRec) :
    (s.judge c h w).laneCounters = s.laneCounters := by unfold State.judge; (repeat' split) <;> rfl
@[simp] theorem State.judge_status_forcedFault (s : State) (c : Cond) (h : Bool) (w : CondRec) :
    (s.judge c h w).status.forcedFault = s.status.forcedFault := by unfold State.judge; (repeat' split) <;> rfl
@[simp] theorem State.judge_status_forcedNotice (s : State) (c : Cond) (h : Bool) (w : CondRec) :
    (s.judge c h w).status.forcedNotice = s.status.forcedNotice := by unfold State.judge; (repeat' split) <;> rfl

/-! ### State.modTrack -/

@[simp] theorem State.modTrack_pending (s : State) (a : Aud) (t : Track) (f : TrackRec → TrackRec) :
    (s.modTrack a t f).pending = s.pending := by unfold State.modTrack; split <;> rfl
@[simp] theorem State.modTrack_phase (s : State) (a : Aud) (t : Track) (f : TrackRec → TrackRec) :
    (s.modTrack a t f).phase = s.phase := by unfold State.modTrack; split <;> rfl
@[simp] theorem State.modTrack_clock (s : State) (a : Aud) (t : Track) (f : TrackRec → TrackRec) :
    (s.modTrack a t f).clock = s.clock := by unfold State.modTrack; split <;> rfl
@[simp] theorem State.modTrack_sync (s : State) (a : Aud) (t : Track) (f : TrackRec → TrackRec) :
    (s.modTrack a t f).sync = s.sync := by unfold State.modTrack; split <;> rfl
@[simp] theorem State.modTrack_timelines (s : State) (a : Aud) (t : Track) (f : TrackRec → TrackRec) :
    (s.modTrack a t f).timelines = s.timelines := by unfold State.modTrack; split <;> rfl
@[simp] theorem State.modTrack_table (s : State) (a : Aud) (t : Track) (f : TrackRec → TrackRec) :
    (s.modTrack a t f).table = s.table := by unfold State.modTrack; split <;> rfl
@[simp] theorem State.modTrack_lanes (s : State) (a : Aud) (t : Track) (f : TrackRec → TrackRec) :
    (s.modTrack a t f).lanes = s.lanes := by unfold State.modTrack; split <;> rfl
@[simp] theorem State.modTrack_roster (s : State) (a : Aud) (t : Track) (f : TrackRec → TrackRec) :
    (s.modTrack a t f).roster = s.roster := by unfold State.modTrack; split <;> rfl
@[simp] theorem State.modTrack_settings (s : State) (a : Aud) (t : Track) (f : TrackRec → TrackRec) :
    (s.modTrack a t f).settings = s.settings := by unfold State.modTrack; split <;> rfl
@[simp] theorem State.modTrack_link (s : State) (a : Aud) (t : Track) (f : TrackRec → TrackRec) :
    (s.modTrack a t f).link = s.link := by unfold State.modTrack; split <;> rfl
@[simp] theorem State.modTrack_audCounters (s : State) (a : Aud) (t : Track) (f : TrackRec → TrackRec) :
    (s.modTrack a t f).audCounters = s.audCounters := by unfold State.modTrack; split <;> rfl
@[simp] theorem State.modTrack_laneCounters (s : State) (a : Aud) (t : Track) (f : TrackRec → TrackRec) :
    (s.modTrack a t f).laneCounters = s.laneCounters := by unfold State.modTrack; split <;> rfl
@[simp] theorem State.modTrack_status (s : State) (a : Aud) (t : Track) (f : TrackRec → TrackRec) :
    (s.modTrack a t f).status = s.status := by unfold State.modTrack; split <;> rfl

/-! ### State.modCueCount -/

@[simp] theorem State.modCueCount_pending (s : State) (a : Aud) (f : Nat → Nat) :
    (s.modCueCount a f).pending = s.pending := by unfold State.modCueCount; split <;> rfl
@[simp] theorem State.modCueCount_phase (s : State) (a : Aud) (f : Nat → Nat) :
    (s.modCueCount a f).phase = s.phase := by unfold State.modCueCount; split <;> rfl
@[simp] theorem State.modCueCount_clock (s : State) (a : Aud) (f : Nat → Nat) :
    (s.modCueCount a f).clock = s.clock := by unfold State.modCueCount; split <;> rfl
@[simp] theorem State.modCueCount_sync (s : State) (a : Aud) (f : Nat → Nat) :
    (s.modCueCount a f).sync = s.sync := by unfold State.modCueCount; split <;> rfl
@[simp] theorem State.modCueCount_timelines (s : State) (a : Aud) (f : Nat → Nat) :
    (s.modCueCount a f).timelines = s.timelines := by unfold State.modCueCount; split <;> rfl
@[simp] theorem State.modCueCount_table (s : State) (a : Aud) (f : Nat → Nat) :
    (s.modCueCount a f).table = s.table := by unfold State.modCueCount; split <;> rfl
@[simp] theorem State.modCueCount_lanes (s : State) (a : Aud) (f : Nat → Nat) :
    (s.modCueCount a f).lanes = s.lanes := by unfold State.modCueCount; split <;> rfl
@[simp] theorem State.modCueCount_roster (s : State) (a : Aud) (f : Nat → Nat) :
    (s.modCueCount a f).roster = s.roster := by unfold State.modCueCount; split <;> rfl
@[simp] theorem State.modCueCount_settings (s : State) (a : Aud) (f : Nat → Nat) :
    (s.modCueCount a f).settings = s.settings := by unfold State.modCueCount; split <;> rfl
@[simp] theorem State.modCueCount_link (s : State) (a : Aud) (f : Nat → Nat) :
    (s.modCueCount a f).link = s.link := by unfold State.modCueCount; split <;> rfl
@[simp] theorem State.modCueCount_audCounters (s : State) (a : Aud) (f : Nat → Nat) :
    (s.modCueCount a f).audCounters = s.audCounters := by unfold State.modCueCount; split <;> rfl
@[simp] theorem State.modCueCount_laneCounters (s : State) (a : Aud) (f : Nat → Nat) :
    (s.modCueCount a f).laneCounters = s.laneCounters := by unfold State.modCueCount; split <;> rfl
@[simp] theorem State.modCueCount_status (s : State) (a : Aud) (f : Nat → Nat) :
    (s.modCueCount a f).status = s.status := by unfold State.modCueCount; split <;> rfl

end Sys2Proof.Machine
end

