-- ==== Sys2Proof/Laws/Frames.lean ====
section
/-! SUPPORT. What each shared operation leaves as it was: one lemma for each operation, which later
proofs cite instead of unfolding it. -/

namespace Sys2Proof.Machine

/-- What every turn of a walk over listed cues keeps, the walk keeps. -/
theorem forCues_keeps {α : Type} (g : State → α) (f : Cue → State → State)
    (hf : ∀ c s, g (f c s) = g s) : ∀ ks s, g (State.forCues f ks s) = g s := by
  intro ks
  induction ks with
  | nil => intro s; rfl
  | cons k ks ih =>
    intro s
    unfold State.forCues
    rw [ih]
    split
    · exact hf _ _
    · rfl

/-- What every turn of a fold over states keeps, the fold keeps. -/
theorem foldl_keeps {α β : Type} (g : State → α) (f : State → β → State)
    (hf : ∀ s b, g (f s b) = g s) : ∀ (xs : List β) s, g (xs.foldl f s) = g s := by
  intro xs
  induction xs with
  | nil => intro s; rfl
  | cons x xs ih => intro s; rw [List.foldl_cons, ih, hf]

/-- What an operation keeps, its repetition keeps. -/
theorem times_keeps {α : Type} (g : State → α) (f : State → State) (hf : ∀ s, g (f s) = g s) :
    ∀ n s, g (times n f s) = g s := by
  intro n
  induction n with
  | zero => intro s; rfl
  | succ n ih => intro s; unfold times; rw [ih, hf]

@[simp] theorem State.judgeTimelines_frame (s : State) (a : Aud) :
    (s.judgeTimelines a).pending = s.pending ∧
    (s.judgeTimelines a).phase = s.phase ∧
    (s.judgeTimelines a).clock = s.clock ∧
    (s.judgeTimelines a).sync = s.sync ∧
    (s.judgeTimelines a).timelines = s.timelines ∧
    (s.judgeTimelines a).directory = s.directory ∧
    (s.judgeTimelines a).table = s.table ∧
    (s.judgeTimelines a).lanes = s.lanes ∧
    (s.judgeTimelines a).roster = s.roster ∧
    (s.judgeTimelines a).settings = s.settings ∧
    (s.judgeTimelines a).link = s.link ∧
    (s.judgeTimelines a).audCounters = s.audCounters ∧
    (s.judgeTimelines a).laneCounters = s.laneCounters ∧
    (s.judgeTimelines a).status.forcedFault = s.status.forcedFault ∧
    (s.judgeTimelines a).status.forcedNotice = s.status.forcedNotice := by
  unfold State.judgeTimelines
  simp

@[simp] theorem State.judgeLaneFault_frame (s : State) (l : LaneId) :
    (s.judgeLaneFault l).pending = s.pending ∧
    (s.judgeLaneFault l).phase = s.phase ∧
    (s.judgeLaneFault l).clock = s.clock ∧
    (s.judgeLaneFault l).sync = s.sync ∧
    (s.judgeLaneFault l).timelines = s.timelines ∧
    (s.judgeLaneFault l).directory = s.directory ∧
    (s.judgeLaneFault l).table = s.table ∧
    (s.judgeLaneFault l).lanes = s.lanes ∧
    (s.judgeLaneFault l).roster = s.roster ∧
    (s.judgeLaneFault l).settings = s.settings ∧
    (s.judgeLaneFault l).link = s.link ∧
    (s.judgeLaneFault l).audCounters = s.audCounters ∧
    (s.judgeLaneFault l).laneCounters = s.laneCounters ∧
    (s.judgeLaneFault l).status.forcedFault = s.status.forcedFault ∧
    (s.judgeLaneFault l).status.forcedNotice = s.status.forcedNotice := by
  unfold State.judgeLaneFault
  simp

@[simp] theorem State.judgePool_frame (s : State) (w : CondRec) :
    (s.judgePool w).pending = s.pending ∧
    (s.judgePool w).phase = s.phase ∧
    (s.judgePool w).clock = s.clock ∧
    (s.judgePool w).sync = s.sync ∧
    (s.judgePool w).timelines = s.timelines ∧
    (s.judgePool w).directory = s.directory ∧
    (s.judgePool w).table = s.table ∧
    (s.judgePool w).lanes = s.lanes ∧
    (s.judgePool w).roster = s.roster ∧
    (s.judgePool w).settings = s.settings ∧
    (s.judgePool w).link = s.link ∧
    (s.judgePool w).audCounters = s.audCounters ∧
    (s.judgePool w).laneCounters = s.laneCounters ∧
    (s.judgePool w).status.forcedFault = s.status.forcedFault ∧
    (s.judgePool w).status.forcedNotice = s.status.forcedNotice := by
  unfold State.judgePool
  simp

@[simp] theorem State.addNotice_frame (s : State) (l : LaneId) (i : NoticeItem) :
    ((s.addNotice l i).1).pending = s.pending ∧
    ((s.addNotice l i).1).phase = s.phase ∧
    ((s.addNotice l i).1).clock = s.clock ∧
    ((s.addNotice l i).1).sync = s.sync ∧
    ((s.addNotice l i).1).timelines = s.timelines ∧
    ((s.addNotice l i).1).directory = s.directory ∧
    ((s.addNotice l i).1).table = s.table ∧
    ((s.addNotice l i).1).roster = s.roster ∧
    ((s.addNotice l i).1).settings = s.settings ∧
    ((s.addNotice l i).1).link = s.link ∧
    ((s.addNotice l i).1).audCounters = s.audCounters ∧
    ((s.addNotice l i).1).laneCounters = s.laneCounters ∧
    ((s.addNotice l i).1).status.forcedFault = s.status.forcedFault ∧
    ((s.addNotice l i).1).status.forcedNotice = s.status.forcedNotice := by
  unfold State.addNotice
  dsimp only
  (repeat' split) <;> simp

@[simp] theorem State.removeRepairsOf_frame (s : State) (a : Aud) (t : Track) (n : Nat) :
    (s.removeRepairsOf a t n).pending = s.pending ∧
    (s.removeRepairsOf a t n).phase = s.phase ∧
    (s.removeRepairsOf a t n).clock = s.clock ∧
    (s.removeRepairsOf a t n).sync = s.sync ∧
    (s.removeRepairsOf a t n).timelines = s.timelines ∧
    (s.removeRepairsOf a t n).directory = s.directory ∧
    (s.removeRepairsOf a t n).table = s.table ∧
    (s.removeRepairsOf a t n).roster = s.roster ∧
    (s.removeRepairsOf a t n).settings = s.settings ∧
    (s.removeRepairsOf a t n).link = s.link ∧
    (s.removeRepairsOf a t n).audCounters = s.audCounters ∧
    (s.removeRepairsOf a t n).laneCounters = s.laneCounters ∧
    (s.removeRepairsOf a t n).status = s.status := by
  unfold State.removeRepairsOf
  (repeat' split) <;> simp

@[simp] theorem State.turnRepairsGone_frame (s : State) (a : Aud) (t : Track) (n : Nat) :
    (s.turnRepairsGone a t n).pending = s.pending ∧
    (s.turnRepairsGone a t n).phase = s.phase ∧
    (s.turnRepairsGone a t n).clock = s.clock ∧
    (s.turnRepairsGone a t n).sync = s.sync ∧
    (s.turnRepairsGone a t n).timelines = s.timelines ∧
    (s.turnRepairsGone a t n).directory = s.directory ∧
    (s.turnRepairsGone a t n).table = s.table ∧
    (s.turnRepairsGone a t n).roster = s.roster ∧
    (s.turnRepairsGone a t n).settings = s.settings ∧
    (s.turnRepairsGone a t n).link = s.link ∧
    (s.turnRepairsGone a t n).audCounters = s.audCounters ∧
    (s.turnRepairsGone a t n).laneCounters = s.laneCounters ∧
    (s.turnRepairsGone a t n).status = s.status := by
  unfold State.turnRepairsGone
  (repeat' split) <;> simp

@[simp] theorem State.addToLineup_frame (s : State) (c : Cue) :
    (s.addToLineup c).pending = s.pending ∧
    (s.addToLineup c).phase = s.phase ∧
    (s.addToLineup c).clock = s.clock ∧
    (s.addToLineup c).sync = s.sync ∧
    (s.addToLineup c).timelines = s.timelines ∧
    (s.addToLineup c).table = s.table ∧
    (s.addToLineup c).lanes = s.lanes ∧
    (s.addToLineup c).roster = s.roster ∧
    (s.addToLineup c).settings = s.settings ∧
    (s.addToLineup c).link = s.link ∧
    (s.addToLineup c).audCounters = s.audCounters ∧
    (s.addToLineup c).laneCounters = s.laneCounters ∧
    (s.addToLineup c).status = s.status := by
  unfold State.addToLineup
  simp

@[simp] theorem State.dropFromLineup_frame (s : State) (c : Cue) :
    (s.dropFromLineup c).pending = s.pending ∧
    (s.dropFromLineup c).phase = s.phase ∧
    (s.dropFromLineup c).clock = s.clock ∧
    (s.dropFromLineup c).sync = s.sync ∧
    (s.dropFromLineup c).timelines = s.timelines ∧
    (s.dropFromLineup c).table = s.table ∧
    (s.dropFromLineup c).lanes = s.lanes ∧
    (s.dropFromLineup c).roster = s.roster ∧
    (s.dropFromLineup c).settings = s.settings ∧
    (s.dropFromLineup c).link = s.link ∧
    (s.dropFromLineup c).audCounters = s.audCounters ∧
    (s.dropFromLineup c).laneCounters = s.laneCounters ∧
    (s.dropFromLineup c).status = s.status := by
  unfold State.dropFromLineup
  simp

@[simp] theorem State.freeCue_frame (s : State) (c : Cue) :
    (s.freeCue c).pending = s.pending ∧
    (s.freeCue c).phase = s.phase ∧
    (s.freeCue c).clock = s.clock ∧
    (s.freeCue c).sync = s.sync ∧
    (s.freeCue c).timelines = s.timelines ∧
    (s.freeCue c).table.payload = s.table.payload ∧
    (s.freeCue c).roster = s.roster ∧
    (s.freeCue c).settings = s.settings ∧
    (s.freeCue c).link = s.link ∧
    (s.freeCue c).audCounters = s.audCounters ∧
    (s.freeCue c).laneCounters = s.laneCounters ∧
    (s.freeCue c).status.forcedFault = s.status.forcedFault ∧
    (s.freeCue c).status.forcedNotice = s.status.forcedNotice := by
  unfold State.freeCue
  dsimp only
  (repeat' split) <;> simp

@[simp] theorem State.retire_frame (s : State) (c : Cue) :
    (s.retire c).pending = s.pending ∧
    (s.retire c).phase = s.phase ∧
    (s.retire c).clock = s.clock ∧
    (s.retire c).sync = s.sync ∧
    (s.retire c).timelines = s.timelines ∧
    (s.retire c).table.payload = s.table.payload ∧
    (s.retire c).roster = s.roster ∧
    (s.retire c).settings = s.settings ∧
    (s.retire c).link = s.link ∧
    (s.retire c).audCounters = s.audCounters ∧
    (s.retire c).laneCounters = s.laneCounters ∧
    (s.retire c).status.forcedFault = s.status.forcedFault ∧
    (s.retire c).status.forcedNotice = s.status.forcedNotice := by
  unfold State.retire
  simp

@[simp] theorem State.rotAppend_frame (s : State) (l : LaneId) (i : RxIdx) :
    (s.rotAppend l i).pending = s.pending ∧
    (s.rotAppend l i).phase = s.phase ∧
    (s.rotAppend l i).clock = s.clock ∧
    (s.rotAppend l i).sync = s.sync ∧
    (s.rotAppend l i).timelines = s.timelines ∧
    (s.rotAppend l i).directory = s.directory ∧
    (s.rotAppend l i).table = s.table ∧
    (s.rotAppend l i).roster = s.roster ∧
    (s.rotAppend l i).settings = s.settings ∧
    (s.rotAppend l i).link = s.link ∧
    (s.rotAppend l i).audCounters = s.audCounters ∧
    (s.rotAppend l i).laneCounters = s.laneCounters ∧
    (s.rotAppend l i).status = s.status := by
  unfold State.rotAppend
  simp

@[simp] theorem State.rotRemove_frame (s : State) (l : LaneId) (i : RxIdx) :
    (s.rotRemove l i).pending = s.pending ∧
    (s.rotRemove l i).phase = s.phase ∧
    (s.rotRemove l i).clock = s.clock ∧
    (s.rotRemove l i).sync = s.sync ∧
    (s.rotRemove l i).timelines = s.timelines ∧
    (s.rotRemove l i).directory = s.directory ∧
    (s.rotRemove l i).table = s.table ∧
    (s.rotRemove l i).roster = s.roster ∧
    (s.rotRemove l i).settings = s.settings ∧
    (s.rotRemove l i).link = s.link ∧
    (s.rotRemove l i).audCounters = s.audCounters ∧
    (s.rotRemove l i).laneCounters = s.laneCounters ∧
    (s.rotRemove l i).status = s.status := by
  unfold State.rotRemove
  simp

@[simp] theorem State.lateDrop_frame (s : State) (a : Aud) :
    (s.lateDrop a).pending = s.pending ∧
    (s.lateDrop a).phase = s.phase ∧
    (s.lateDrop a).clock = s.clock ∧
    (s.lateDrop a).sync = s.sync ∧
    (s.lateDrop a).timelines = s.timelines ∧
    (s.lateDrop a).directory = s.directory ∧
    (s.lateDrop a).table = s.table ∧
    (s.lateDrop a).lanes = s.lanes ∧
    (s.lateDrop a).roster = s.roster ∧
    (s.lateDrop a).settings = s.settings ∧
    (s.lateDrop a).link = s.link ∧
    (s.lateDrop a).laneCounters = s.laneCounters ∧
    (s.lateDrop a).status.forcedFault = s.status.forcedFault ∧
    (s.lateDrop a).status.forcedNotice = s.status.forcedNotice := by
  unfold State.lateDrop
  simp

@[simp] theorem enterShowing_frame (s : State) (c : Cue) :
    (enterShowing s c).pending = s.pending ∧
    (enterShowing s c).phase = s.phase ∧
    (enterShowing s c).clock = s.clock ∧
    (enterShowing s c).sync = s.sync ∧
    (enterShowing s c).timelines = s.timelines ∧
    (enterShowing s c).directory = s.directory ∧
    (enterShowing s c).table.payload = s.table.payload ∧
    (enterShowing s c).lanes = s.lanes ∧
    (enterShowing s c).roster = s.roster ∧
    (enterShowing s c).settings = s.settings ∧
    (enterShowing s c).link = s.link ∧
    (enterShowing s c).audCounters = s.audCounters ∧
    (enterShowing s c).laneCounters = s.laneCounters ∧
    (enterShowing s c).status = s.status := by
  unfold enterShowing
  simp

@[simp] theorem enterRetained_frame (s : State) (c : Cue) :
    (enterRetained s c).pending = s.pending ∧
    (enterRetained s c).phase = s.phase ∧
    (enterRetained s c).clock = s.clock ∧
    (enterRetained s c).sync = s.sync ∧
    (enterRetained s c).timelines = s.timelines ∧
    (enterRetained s c).directory = s.directory ∧
    (enterRetained s c).table.payload = s.table.payload ∧
    (enterRetained s c).lanes = s.lanes ∧
    (enterRetained s c).roster = s.roster ∧
    (enterRetained s c).settings = s.settings ∧
    (enterRetained s c).link = s.link ∧
    (enterRetained s c).laneCounters = s.laneCounters ∧
    (enterRetained s c).status.forcedFault = s.status.forcedFault ∧
    (enterRetained s c).status.forcedNotice = s.status.forcedNotice := by
  unfold enterRetained
  (repeat' split) <;> simp

@[simp] theorem retireByPass_frame (s : State) (c : Cue) :
    (retireByPass s c).pending = s.pending ∧
    (retireByPass s c).phase = s.phase ∧
    (retireByPass s c).clock = s.clock ∧
    (retireByPass s c).sync = s.sync ∧
    (retireByPass s c).timelines = s.timelines ∧
    (retireByPass s c).table.payload = s.table.payload ∧
    (retireByPass s c).roster = s.roster ∧
    (retireByPass s c).settings = s.settings ∧
    (retireByPass s c).link = s.link ∧
    (retireByPass s c).laneCounters = s.laneCounters ∧
    (retireByPass s c).status.forcedFault = s.status.forcedFault ∧
    (retireByPass s c).status.forcedNotice = s.status.forcedNotice := by
  unfold retireByPass
  (repeat' split) <;> simp

@[simp] theorem phasePass_frame (s : State) (p k : Nat) :
    (phasePass p k s).pending = s.pending ∧
    (phasePass p k s).phase = s.phase ∧
    (phasePass p k s).clock = s.clock ∧
    (phasePass p k s).sync = s.sync ∧
    (phasePass p k s).timelines = s.timelines ∧
    (phasePass p k s).table.payload = s.table.payload ∧
    (phasePass p k s).roster = s.roster ∧
    (phasePass p k s).settings = s.settings ∧
    (phasePass p k s).link = s.link ∧
    (phasePass p k s).laneCounters = s.laneCounters ∧
    (phasePass p k s).status.forcedFault = s.status.forcedFault ∧
    (phasePass p k s).status.forcedNotice = s.status.forcedNotice := by
  unfold phasePass passRow
  dsimp only
  (repeat' split) <;> simp

@[simp] theorem launchTest_frame (s : State) (rate p : Nat) (c : Cue) :
    (launchTest rate p s c).pending = s.pending ∧
    (launchTest rate p s c).phase = s.phase ∧
    (launchTest rate p s c).clock = s.clock ∧
    (launchTest rate p s c).sync = s.sync ∧
    (launchTest rate p s c).timelines = s.timelines ∧
    (launchTest rate p s c).directory = s.directory ∧
    (launchTest rate p s c).table.payload = s.table.payload ∧
    (launchTest rate p s c).lanes = s.lanes ∧
    (launchTest rate p s c).roster = s.roster ∧
    (launchTest rate p s c).settings = s.settings ∧
    (launchTest rate p s c).link = s.link ∧
    (launchTest rate p s c).laneCounters = s.laneCounters ∧
    (launchTest rate p s c).status.forcedFault = s.status.forcedFault ∧
    (launchTest rate p s c).status.forcedNotice = s.status.forcedNotice := by
  unfold launchTest
  (repeat' split) <;> simp

@[simp] theorem walkCue_frame (s : State) (r : Reading) (p k : Nat) :
    ((walkCue r p k s).1).pending = s.pending ∧
    ((walkCue r p k s).1).phase = s.phase ∧
    ((walkCue r p k s).1).clock = s.clock ∧
    ((walkCue r p k s).1).sync = s.sync ∧
    ((walkCue r p k s).1).timelines = s.timelines ∧
    ((walkCue r p k s).1).table.payload = s.table.payload ∧
    ((walkCue r p k s).1).roster = s.roster ∧
    ((walkCue r p k s).1).settings = s.settings ∧
    ((walkCue r p k s).1).link = s.link ∧
    ((walkCue r p k s).1).laneCounters = s.laneCounters ∧
    ((walkCue r p k s).1).status.forcedFault = s.status.forcedFault ∧
    ((walkCue r p k s).1).status.forcedNotice = s.status.forcedNotice := by
  unfold walkCue
  dsimp only
  (repeat' split) <;> simp

@[simp] theorem judgeLate_frame (s : State) (p : Nat) (c : Cue) :
    ((judgeLate p s c).1).pending = s.pending ∧
    ((judgeLate p s c).1).phase = s.phase ∧
    ((judgeLate p s c).1).clock = s.clock ∧
    ((judgeLate p s c).1).sync = s.sync ∧
    ((judgeLate p s c).1).timelines = s.timelines ∧
    ((judgeLate p s c).1).directory = s.directory ∧
    ((judgeLate p s c).1).table = s.table ∧
    ((judgeLate p s c).1).lanes = s.lanes ∧
    ((judgeLate p s c).1).roster = s.roster ∧
    ((judgeLate p s c).1).settings = s.settings ∧
    ((judgeLate p s c).1).link = s.link ∧
    ((judgeLate p s c).1).laneCounters = s.laneCounters ∧
    ((judgeLate p s c).1).status.forcedFault = s.status.forcedFault ∧
    ((judgeLate p s c).1).status.forcedNotice = s.status.forcedNotice := by
  unfold judgeLate
  (repeat' split) <;> simp

@[simp] theorem completeAiring_frame (s : State) (c : Cue) :
    (completeAiring s c).pending = s.pending ∧
    (completeAiring s c).phase = s.phase ∧
    (completeAiring s c).clock = s.clock ∧
    (completeAiring s c).sync = s.sync ∧
    (completeAiring s c).timelines = s.timelines ∧
    (completeAiring s c).table.payload = s.table.payload ∧
    (completeAiring s c).lanes = s.lanes ∧
    (completeAiring s c).roster = s.roster ∧
    (completeAiring s c).settings = s.settings ∧
    (completeAiring s c).link = s.link ∧
    (completeAiring s c).audCounters = s.audCounters ∧
    (completeAiring s c).laneCounters = s.laneCounters ∧
    (completeAiring s c).status = s.status := by
  unfold completeAiring
  simp

@[simp] theorem placeCaption_frame (s : State) (p : Nat) (c : Cue) :
    ((placeCaption p s c).1).pending = s.pending ∧
    ((placeCaption p s c).1).phase = s.phase ∧
    ((placeCaption p s c).1).clock = s.clock ∧
    ((placeCaption p s c).1).sync = s.sync ∧
    ((placeCaption p s c).1).timelines = s.timelines ∧
    ((placeCaption p s c).1).table.payload = s.table.payload ∧
    ((placeCaption p s c).1).lanes = s.lanes ∧
    ((placeCaption p s c).1).roster = s.roster ∧
    ((placeCaption p s c).1).settings = s.settings ∧
    ((placeCaption p s c).1).link = s.link ∧
    ((placeCaption p s c).1).laneCounters = s.laneCounters ∧
    ((placeCaption p s c).1).status.forcedFault = s.status.forcedFault ∧
    ((placeCaption p s c).1).status.forcedNotice = s.status.forcedNotice := by
  unfold placeCaption
  simp

@[simp] theorem placeRepeat_frame (s : State) (c : Cue) :
    ((placeRepeat s c).1).pending = s.pending ∧
    ((placeRepeat s c).1).phase = s.phase ∧
    ((placeRepeat s c).1).clock = s.clock ∧
    ((placeRepeat s c).1).sync = s.sync ∧
    ((placeRepeat s c).1).timelines = s.timelines ∧
    ((placeRepeat s c).1).directory = s.directory ∧
    ((placeRepeat s c).1).table.payload = s.table.payload ∧
    ((placeRepeat s c).1).lanes = s.lanes ∧
    ((placeRepeat s c).1).roster = s.roster ∧
    ((placeRepeat s c).1).settings = s.settings ∧
    ((placeRepeat s c).1).link = s.link ∧
    ((placeRepeat s c).1).audCounters = s.audCounters ∧
    ((placeRepeat s c).1).laneCounters = s.laneCounters ∧
    ((placeRepeat s c).1).status = s.status := by
  unfold placeRepeat
  simp

@[simp] theorem placeSegment_frame (s : State) (p n : Nat) (c : Cue) :
    ((placeSegment p n s c).1).pending = s.pending ∧
    ((placeSegment p n s c).1).phase = s.phase ∧
    ((placeSegment p n s c).1).clock = s.clock ∧
    ((placeSegment p n s c).1).sync = s.sync ∧
    ((placeSegment p n s c).1).timelines = s.timelines ∧
    ((placeSegment p n s c).1).table.payload = s.table.payload ∧
    ((placeSegment p n s c).1).lanes = s.lanes ∧
    ((placeSegment p n s c).1).roster = s.roster ∧
    ((placeSegment p n s c).1).settings = s.settings ∧
    ((placeSegment p n s c).1).link = s.link ∧
    ((placeSegment p n s c).1).laneCounters = s.laneCounters ∧
    ((placeSegment p n s c).1).status.forcedFault = s.status.forcedFault ∧
    ((placeSegment p n s c).1).status.forcedNotice = s.status.forcedNotice := by
  unfold placeSegment
  dsimp only
  (repeat' split) <;> simp

@[simp] theorem jumpCue_frame (s : State) (p : Nat) (c : Cue) :
    (jumpCue p c s).pending = s.pending ∧
    (jumpCue p c s).phase = s.phase ∧
    (jumpCue p c s).clock = s.clock ∧
    (jumpCue p c s).sync = s.sync ∧
    (jumpCue p c s).timelines = s.timelines ∧
    (jumpCue p c s).table.payload = s.table.payload ∧
    (jumpCue p c s).roster = s.roster ∧
    (jumpCue p c s).settings = s.settings ∧
    (jumpCue p c s).link = s.link ∧
    (jumpCue p c s).audCounters = s.audCounters ∧
    (jumpCue p c s).laneCounters = s.laneCounters ∧
    (jumpCue p c s).status.forcedFault = s.status.forcedFault ∧
    (jumpCue p c s).status.forcedNotice = s.status.forcedNotice := by
  unfold jumpCue
  (repeat' split) <;> simp

@[simp] theorem jumpCues_frame (s : State) (a : Aud) (p : Nat) :
    (jumpCues a p s).pending = s.pending ∧
    (jumpCues a p s).phase = s.phase ∧
    (jumpCues a p s).clock = s.clock ∧
    (jumpCues a p s).sync = s.sync ∧
    (jumpCues a p s).timelines = s.timelines ∧
    (jumpCues a p s).table.payload = s.table.payload ∧
    (jumpCues a p s).roster = s.roster ∧
    (jumpCues a p s).settings = s.settings ∧
    (jumpCues a p s).link = s.link ∧
    (jumpCues a p s).audCounters = s.audCounters ∧
    (jumpCues a p s).laneCounters = s.laneCounters ∧
    (jumpCues a p s).status.forcedFault = s.status.forcedFault ∧
    (jumpCues a p s).status.forcedNotice = s.status.forcedNotice := by
  unfold jumpCues
  exact ⟨forCues_keeps (fun s => s.pending) _ (fun c s => by simp) _ s,
    forCues_keeps (fun s => s.phase) _ (fun c s => by simp) _ s,
    forCues_keeps (fun s => s.clock) _ (fun c s => by simp) _ s,
    forCues_keeps (fun s => s.sync) _ (fun c s => by simp) _ s,
    forCues_keeps (fun s => s.timelines) _ (fun c s => by simp) _ s,
    forCues_keeps (fun s => s.table.payload) _ (fun c s => by simp) _ s,
    forCues_keeps (fun s => s.roster) _ (fun c s => by simp) _ s,
    forCues_keeps (fun s => s.settings) _ (fun c s => by simp) _ s,
    forCues_keeps (fun s => s.link) _ (fun c s => by simp) _ s,
    forCues_keeps (fun s => s.audCounters) _ (fun c s => by simp) _ s,
    forCues_keeps (fun s => s.laneCounters) _ (fun c s => by simp) _ s,
    forCues_keeps (fun s => s.status.forcedFault) _ (fun c s => by simp) _ s,
    forCues_keeps (fun s => s.status.forcedNotice) _ (fun c s => by simp) _ s⟩

@[simp] theorem reWaitCue_frame (s : State) (c : Cue) :
    (reWaitCue c s).pending = s.pending ∧
    (reWaitCue c s).phase = s.phase ∧
    (reWaitCue c s).clock = s.clock ∧
    (reWaitCue c s).sync = s.sync ∧
    (reWaitCue c s).timelines = s.timelines ∧
    (reWaitCue c s).directory = s.directory ∧
    (reWaitCue c s).table.payload = s.table.payload ∧
    (reWaitCue c s).roster = s.roster ∧
    (reWaitCue c s).settings = s.settings ∧
    (reWaitCue c s).link = s.link ∧
    (reWaitCue c s).audCounters = s.audCounters ∧
    (reWaitCue c s).laneCounters = s.laneCounters ∧
    (reWaitCue c s).status = s.status := by
  unfold reWaitCue
  dsimp only
  (repeat' split) <;> simp

@[simp] theorem reWait_frame (s : State) (a : Aud) (t : Track) :
    (reWait a t s).pending = s.pending ∧
    (reWait a t s).phase = s.phase ∧
    (reWait a t s).clock = s.clock ∧
    (reWait a t s).sync = s.sync ∧
    (reWait a t s).timelines = s.timelines ∧
    (reWait a t s).directory = s.directory ∧
    (reWait a t s).table.payload = s.table.payload ∧
    (reWait a t s).roster = s.roster ∧
    (reWait a t s).settings = s.settings ∧
    (reWait a t s).link = s.link ∧
    (reWait a t s).audCounters = s.audCounters ∧
    (reWait a t s).laneCounters = s.laneCounters ∧
    (reWait a t s).status = s.status := by
  unfold reWait
  exact ⟨forCues_keeps (fun s => s.pending) _ (fun c s => by simp) _ s,
    forCues_keeps (fun s => s.phase) _ (fun c s => by simp) _ s,
    forCues_keeps (fun s => s.clock) _ (fun c s => by simp) _ s,
    forCues_keeps (fun s => s.sync) _ (fun c s => by simp) _ s,
    forCues_keeps (fun s => s.timelines) _ (fun c s => by simp) _ s,
    forCues_keeps (fun s => s.directory) _ (fun c s => by simp) _ s,
    forCues_keeps (fun s => s.table.payload) _ (fun c s => by simp) _ s,
    forCues_keeps (fun s => s.roster) _ (fun c s => by simp) _ s,
    forCues_keeps (fun s => s.settings) _ (fun c s => by simp) _ s,
    forCues_keeps (fun s => s.link) _ (fun c s => by simp) _ s,
    forCues_keeps (fun s => s.audCounters) _ (fun c s => by simp) _ s,
    forCues_keeps (fun s => s.laneCounters) _ (fun c s => by simp) _ s,
    forCues_keeps (fun s => s.status) _ (fun c s => by simp) _ s⟩

@[simp] theorem State.appendRepair_frame (s : State) (l : LaneId) (e : Repair) :
    (s.appendRepair l e).pending = s.pending ∧
    (s.appendRepair l e).phase = s.phase ∧
    (s.appendRepair l e).clock = s.clock ∧
    (s.appendRepair l e).sync = s.sync ∧
    (s.appendRepair l e).timelines = s.timelines ∧
    (s.appendRepair l e).directory = s.directory ∧
    (s.appendRepair l e).table = s.table ∧
    (s.appendRepair l e).roster = s.roster ∧
    (s.appendRepair l e).settings = s.settings ∧
    (s.appendRepair l e).link = s.link ∧
    (s.appendRepair l e).audCounters = s.audCounters ∧
    (s.appendRepair l e).laneCounters = s.laneCounters ∧
    (s.appendRepair l e).status = s.status := by
  unfold State.appendRepair
  simp

@[simp] theorem takeAsk_frame (s : State) (l : LaneId) (a : Aud) (t : Track) (n : Nat) (f : FrameNo) :
    (takeAsk l a t n f s).pending = s.pending ∧
    (takeAsk l a t n f s).phase = s.phase ∧
    (takeAsk l a t n f s).clock = s.clock ∧
    (takeAsk l a t n f s).sync = s.sync ∧
    (takeAsk l a t n f s).timelines = s.timelines ∧
    (takeAsk l a t n f s).directory = s.directory ∧
    (takeAsk l a t n f s).table = s.table ∧
    (takeAsk l a t n f s).roster = s.roster ∧
    (takeAsk l a t n f s).settings = s.settings ∧
    (takeAsk l a t n f s).link = s.link ∧
    (takeAsk l a t n f s).audCounters = s.audCounters ∧
    (takeAsk l a t n f s).status.forcedFault = s.status.forcedFault ∧
    (takeAsk l a t n f s).status.forcedNotice = s.status.forcedNotice := by
  unfold takeAsk
  dsimp only
  (repeat' split) <;> simp

@[simp] theorem State.countUp_frame (s : State) (a : Aud) (t : Track) :
    (s.countUp a t).pending = s.pending ∧
    (s.countUp a t).phase = s.phase ∧
    (s.countUp a t).clock = s.clock ∧
    (s.countUp a t).sync = s.sync ∧
    (s.countUp a t).timelines = s.timelines ∧
    (s.countUp a t).table = s.table ∧
    (s.countUp a t).lanes = s.lanes ∧
    (s.countUp a t).roster = s.roster ∧
    (s.countUp a t).settings = s.settings ∧
    (s.countUp a t).link = s.link ∧
    (s.countUp a t).audCounters = s.audCounters ∧
    (s.countUp a t).laneCounters = s.laneCounters ∧
    (s.countUp a t).status = s.status := by
  unfold State.countUp
  simp

@[simp] theorem State.countDown_frame (s : State) (a : Aud) (t : Track) :
    (s.countDown a t).pending = s.pending ∧
    (s.countDown a t).phase = s.phase ∧
    (s.countDown a t).clock = s.clock ∧
    (s.countDown a t).sync = s.sync ∧
    (s.countDown a t).timelines = s.timelines ∧
    (s.countDown a t).table = s.table ∧
    (s.countDown a t).lanes = s.lanes ∧
    (s.countDown a t).roster = s.roster ∧
    (s.countDown a t).settings = s.settings ∧
    (s.countDown a t).link = s.link ∧
    (s.countDown a t).audCounters = s.audCounters ∧
    (s.countDown a t).laneCounters = s.laneCounters ∧
    (s.countDown a t).status = s.status := by
  unfold State.countDown
  simp

@[simp] theorem State.unCount_frame (s : State) (r : RxRec) :
    (s.unCount r).pending = s.pending ∧
    (s.unCount r).phase = s.phase ∧
    (s.unCount r).clock = s.clock ∧
    (s.unCount r).sync = s.sync ∧
    (s.unCount r).timelines = s.timelines ∧
    (s.unCount r).table = s.table ∧
    (s.unCount r).lanes = s.lanes ∧
    (s.unCount r).roster = s.roster ∧
    (s.unCount r).settings = s.settings ∧
    (s.unCount r).link = s.link ∧
    (s.unCount r).audCounters = s.audCounters ∧
    (s.unCount r).laneCounters = s.laneCounters ∧
    (s.unCount r).status = s.status := by
  unfold State.unCount
  (repeat' split) <;> simp

@[simp] theorem State.tellIfRisen_frame (s : State) (a : Aud) (t : Track) (b : Nat) :
    (s.tellIfRisen a t b).pending = s.pending ∧
    (s.tellIfRisen a t b).phase = s.phase ∧
    (s.tellIfRisen a t b).clock = s.clock ∧
    (s.tellIfRisen a t b).sync = s.sync ∧
    (s.tellIfRisen a t b).timelines = s.timelines ∧
    (s.tellIfRisen a t b).directory = s.directory ∧
    (s.tellIfRisen a t b).table.payload = s.table.payload ∧
    (s.tellIfRisen a t b).roster = s.roster ∧
    (s.tellIfRisen a t b).settings = s.settings ∧
    (s.tellIfRisen a t b).link = s.link ∧
    (s.tellIfRisen a t b).audCounters = s.audCounters ∧
    (s.tellIfRisen a t b).laneCounters = s.laneCounters ∧
    (s.tellIfRisen a t b).status = s.status := by
  unfold State.tellIfRisen
  (repeat' split) <;> simp

@[simp] theorem enterLost_frame (s : State) (r : RxRec) (w : LossReason) :
    (enterLost r w s).pending = s.pending ∧
    (enterLost r w s).phase = s.phase ∧
    (enterLost r w s).clock = s.clock ∧
    (enterLost r w s).sync = s.sync ∧
    (enterLost r w s).timelines = s.timelines ∧
    (enterLost r w s).table = s.table ∧
    (enterLost r w s).settings = s.settings ∧
    (enterLost r w s).link = s.link ∧
    (enterLost r w s).audCounters = s.audCounters ∧
    (enterLost r w s).laneCounters = s.laneCounters ∧
    (enterLost r w s).status.forcedFault = s.status.forcedFault ∧
    (enterLost r w s).status.forcedNotice = s.status.forcedNotice := by
  unfold enterLost
  simp

@[simp] theorem announcePlaced_frame (s : State) (l : LaneId) (f : FrameNo) (i : RxIdx) :
    (announcePlaced l f i s).pending = s.pending ∧
    (announcePlaced l f i s).phase = s.phase ∧
    (announcePlaced l f i s).clock = s.clock ∧
    (announcePlaced l f i s).sync = s.sync ∧
    (announcePlaced l f i s).timelines = s.timelines ∧
    (announcePlaced l f i s).directory = s.directory ∧
    (announcePlaced l f i s).table = s.table ∧
    (announcePlaced l f i s).settings = s.settings ∧
    (announcePlaced l f i s).link = s.link ∧
    (announcePlaced l f i s).audCounters = s.audCounters ∧
    (announcePlaced l f i s).laneCounters = s.laneCounters ∧
    (announcePlaced l f i s).status = s.status := by
  unfold announcePlaced
  dsimp only
  (repeat' split) <;> simp

@[simp] theorem State.faultLane_frame (s : State) (l : LaneId) :
    (s.faultLane l).pending = s.pending ∧
    (s.faultLane l).phase = s.phase ∧
    (s.faultLane l).clock = s.clock ∧
    (s.faultLane l).sync = s.sync ∧
    (s.faultLane l).timelines = s.timelines ∧
    (s.faultLane l).directory = s.directory ∧
    (s.faultLane l).table = s.table ∧
    (s.faultLane l).roster = s.roster ∧
    (s.faultLane l).settings = s.settings ∧
    (s.faultLane l).link = s.link ∧
    (s.faultLane l).audCounters = s.audCounters ∧
    (s.faultLane l).laneCounters = s.laneCounters ∧
    (s.faultLane l).status.forcedFault = s.status.forcedFault ∧
    (s.faultLane l).status.forcedNotice = s.status.forcedNotice := by
  unfold State.faultLane
  simp

@[simp] theorem State.beginBuild_frame (s : State) (l : LaneId) :
    (s.beginBuild l).pending = s.pending ∧
    (s.beginBuild l).phase = s.phase ∧
    (s.beginBuild l).clock = s.clock ∧
    (s.beginBuild l).sync = s.sync ∧
    (s.beginBuild l).timelines = s.timelines ∧
    (s.beginBuild l).directory = s.directory ∧
    (s.beginBuild l).table = s.table ∧
    (s.beginBuild l).roster = s.roster ∧
    (s.beginBuild l).settings = s.settings ∧
    (s.beginBuild l).link = s.link ∧
    (s.beginBuild l).audCounters = s.audCounters ∧
    (s.beginBuild l).laneCounters = s.laneCounters ∧
    (s.beginBuild l).status = s.status := by
  unfold State.beginBuild
  dsimp only
  (repeat' split) <;> simp

@[simp] theorem State.addSection_frame (s : State) (l : LaneId) (i : BufId) (x : Section) :
    (s.addSection l i x).pending = s.pending ∧
    (s.addSection l i x).phase = s.phase ∧
    (s.addSection l i x).clock = s.clock ∧
    (s.addSection l i x).sync = s.sync ∧
    (s.addSection l i x).timelines = s.timelines ∧
    (s.addSection l i x).directory = s.directory ∧
    (s.addSection l i x).table = s.table ∧
    (s.addSection l i x).roster = s.roster ∧
    (s.addSection l i x).settings = s.settings ∧
    (s.addSection l i x).link = s.link ∧
    (s.addSection l i x).audCounters = s.audCounters ∧
    (s.addSection l i x).laneCounters = s.laneCounters ∧
    (s.addSection l i x).status = s.status := by
  unfold State.addSection
  dsimp only
  (repeat' split) <;> simp

@[simp] theorem State.toStage_frame (s : State) (l : LaneId) (x : Stage) :
    (s.toStage l x).pending = s.pending ∧
    (s.toStage l x).phase = s.phase ∧
    (s.toStage l x).clock = s.clock ∧
    (s.toStage l x).sync = s.sync ∧
    (s.toStage l x).timelines = s.timelines ∧
    (s.toStage l x).directory = s.directory ∧
    (s.toStage l x).table = s.table ∧
    (s.toStage l x).roster = s.roster ∧
    (s.toStage l x).settings = s.settings ∧
    (s.toStage l x).link = s.link ∧
    (s.toStage l x).audCounters = s.audCounters ∧
    (s.toStage l x).laneCounters = s.laneCounters ∧
    (s.toStage l x).status = s.status := by
  unfold State.toStage
  simp

@[simp] theorem stampOne_frame (s : State) (l : LaneId) (b : Build) (a : Aud) (x : List Aud) :
    (stampOne l b a x s).pending = s.pending ∧
    (stampOne l b a x s).phase = s.phase ∧
    (stampOne l b a x s).clock = s.clock ∧
    (stampOne l b a x s).sync = s.sync ∧
    (stampOne l b a x s).timelines = s.timelines ∧
    (stampOne l b a x s).directory = s.directory ∧
    (stampOne l b a x s).table = s.table ∧
    (stampOne l b a x s).roster = s.roster ∧
    (stampOne l b a x s).settings = s.settings ∧
    (stampOne l b a x s).link = s.link ∧
    (stampOne l b a x s).audCounters = s.audCounters ∧
    (stampOne l b a x s).laneCounters = s.laneCounters ∧
    (stampOne l b a x s).status = s.status := by
  unfold stampOne
  simp

@[simp] theorem noticeOne_frame (s : State) (l : LaneId) (b : Build) (i j : Nat) (n : Notice) :
    (noticeOne l b i j n s).pending = s.pending ∧
    (noticeOne l b i j n s).phase = s.phase ∧
    (noticeOne l b i j n s).clock = s.clock ∧
    (noticeOne l b i j n s).sync = s.sync ∧
    (noticeOne l b i j n s).timelines = s.timelines ∧
    (noticeOne l b i j n s).directory = s.directory ∧
    (noticeOne l b i j n s).table = s.table ∧
    (noticeOne l b i j n s).roster = s.roster ∧
    (noticeOne l b i j n s).settings = s.settings ∧
    (noticeOne l b i j n s).link = s.link ∧
    (noticeOne l b i j n s).audCounters = s.audCounters ∧
    (noticeOne l b i j n s).laneCounters = s.laneCounters ∧
    (noticeOne l b i j n s).status = s.status := by
  unfold noticeOne
  (repeat' split) <;> simp

@[simp] theorem walkOne_frame (s : State) (l : LaneId) (b : Build) (w : List (Aud × Track)) (k : Nat) (ks : List Nat) (os : List Offer) :
    (walkOne l b w k ks os s).pending = s.pending ∧
    (walkOne l b w k ks os s).phase = s.phase ∧
    (walkOne l b w k ks os s).clock = s.clock ∧
    (walkOne l b w k ks os s).sync = s.sync ∧
    (walkOne l b w k ks os s).timelines = s.timelines ∧
    (walkOne l b w k ks os s).table.payload = s.table.payload ∧
    (walkOne l b w k ks os s).roster = s.roster ∧
    (walkOne l b w k ks os s).settings = s.settings ∧
    (walkOne l b w k ks os s).link = s.link ∧
    (walkOne l b w k ks os s).laneCounters = s.laneCounters ∧
    (walkOne l b w k ks os s).status.forcedFault = s.status.forcedFault ∧
    (walkOne l b w k ks os s).status.forcedNotice = s.status.forcedNotice := by
  unfold walkOne
  dsimp only
  (repeat' split) <;> simp

@[simp] theorem reserveStep_frame (s : State) (l : LaneId) (b : Build) (os : List Offer) :
    (reserveStep l b os s).pending = s.pending ∧
    (reserveStep l b os s).phase = s.phase ∧
    (reserveStep l b os s).clock = s.clock ∧
    (reserveStep l b os s).sync = s.sync ∧
    (reserveStep l b os s).timelines = s.timelines ∧
    (reserveStep l b os s).directory = s.directory ∧
    (reserveStep l b os s).table = s.table ∧
    (reserveStep l b os s).roster = s.roster ∧
    (reserveStep l b os s).settings = s.settings ∧
    (reserveStep l b os s).link = s.link ∧
    (reserveStep l b os s).audCounters = s.audCounters ∧
    (reserveStep l b os s).laneCounters = s.laneCounters ∧
    (reserveStep l b os s).status = s.status := by
  unfold reserveStep
  simp

/-- What a placement of an offer keeps. -/
theorem placeOffer_frame (p x : Nat) (o : Offer) (c : Cue) (s s' : State) (sec : Section)
    (h : placeOffer p x o c s = some (s', sec)) :
    s'.pending = s.pending ∧
    s'.phase = s.phase ∧
    s'.clock = s.clock ∧
    s'.sync = s.sync ∧
    s'.timelines = s.timelines ∧
    s'.table.payload = s.table.payload ∧
    s'.lanes = s.lanes ∧
    s'.roster = s.roster ∧
    s'.settings = s.settings ∧
    s'.link = s.link ∧
    s'.laneCounters = s.laneCounters ∧
    s'.status.forcedFault = s.status.forcedFault ∧
    s'.status.forcedNotice = s.status.forcedNotice := by
  unfold placeOffer at h
  split at h
  · split at h
    · split at h
      · have e : s' = (placeCaption p s c).1 := by rw [Option.some.inj h]
        subst e; simp
      · exact absurd h (by simp)
    · split at h
      · have e : s' = (placeRepeat s c).1 := by rw [Option.some.inj h]
        subst e; simp
      · exact absurd h (by simp)
    all_goals
      obtain ⟨n, -, hn⟩ := Option.map_eq_some_iff.1 h
      have e : s' = (placeSegment p n s c).1 := by rw [hn]
      subst e; simp
  · exact absurd h (by simp)

@[simp] theorem offerOne_frame (s : State) (l : LaneId) (b : Build) (o : Offer) (os : List Offer) (x y : Nat) :
    (offerOne l b o os x y s).pending = s.pending ∧
    (offerOne l b o os x y s).phase = s.phase ∧
    (offerOne l b o os x y s).clock = s.clock ∧
    (offerOne l b o os x y s).sync = s.sync ∧
    (offerOne l b o os x y s).timelines = s.timelines ∧
    (offerOne l b o os x y s).table.payload = s.table.payload ∧
    (offerOne l b o os x y s).roster = s.roster ∧
    (offerOne l b o os x y s).settings = s.settings ∧
    (offerOne l b o os x y s).link = s.link ∧
    (offerOne l b o os x y s).laneCounters = s.laneCounters ∧
    (offerOne l b o os x y s).status.forcedFault = s.status.forcedFault ∧
    (offerOne l b o os x y s).status.forcedNotice = s.status.forcedNotice := by
  unfold offerOne
  split
  · split
    · rename_i h
      have := placeOffer_frame _ _ _ _ _ _ _ h
      simp [this]
    · simp
  · simp

@[simp] theorem State.putRepair_frame (s : State) (l : LaneId) (k : Nat) (e : Option Repair) :
    (s.putRepair l k e).pending = s.pending ∧
    (s.putRepair l k e).phase = s.phase ∧
    (s.putRepair l k e).clock = s.clock ∧
    (s.putRepair l k e).sync = s.sync ∧
    (s.putRepair l k e).timelines = s.timelines ∧
    (s.putRepair l k e).directory = s.directory ∧
    (s.putRepair l k e).table = s.table ∧
    (s.putRepair l k e).roster = s.roster ∧
    (s.putRepair l k e).settings = s.settings ∧
    (s.putRepair l k e).link = s.link ∧
    (s.putRepair l k e).audCounters = s.audCounters ∧
    (s.putRepair l k e).laneCounters = s.laneCounters ∧
    (s.putRepair l k e).status = s.status := by
  unfold State.putRepair
  (repeat' split) <;> simp

@[simp] theorem repairPlaced_frame (s : State) (l : LaneId) (b : Build) (i j : Nat) (x : Section) (a : Aud) (d : Bool) (e : Option Repair) :
    (repairPlaced l b i j x a d e s).pending = s.pending ∧
    (repairPlaced l b i j x a d e s).phase = s.phase ∧
    (repairPlaced l b i j x a d e s).clock = s.clock ∧
    (repairPlaced l b i j x a d e s).sync = s.sync ∧
    (repairPlaced l b i j x a d e s).timelines = s.timelines ∧
    (repairPlaced l b i j x a d e s).directory = s.directory ∧
    (repairPlaced l b i j x a d e s).table = s.table ∧
    (repairPlaced l b i j x a d e s).roster = s.roster ∧
    (repairPlaced l b i j x a d e s).settings = s.settings ∧
    (repairPlaced l b i j x a d e s).link = s.link ∧
    (repairPlaced l b i j x a d e s).laneCounters = s.laneCounters ∧
    (repairPlaced l b i j x a d e s).status = s.status := by
  unfold repairPlaced
  (repeat' split) <;> simp

@[simp] theorem repairOne_frame (s : State) (l : LaneId) (b : Build) (i j : Nat) (e : Repair) :
    (repairOne l b i j e s).pending = s.pending ∧
    (repairOne l b i j e s).phase = s.phase ∧
    (repairOne l b i j e s).clock = s.clock ∧
    (repairOne l b i j e s).sync = s.sync ∧
    (repairOne l b i j e s).timelines = s.timelines ∧
    (repairOne l b i j e s).directory = s.directory ∧
    (repairOne l b i j e s).table = s.table ∧
    (repairOne l b i j e s).roster = s.roster ∧
    (repairOne l b i j e s).settings = s.settings ∧
    (repairOne l b i j e s).link = s.link ∧
    (repairOne l b i j e s).laneCounters = s.laneCounters ∧
    (repairOne l b i j e s).status = s.status := by
  unfold repairOne
  dsimp only
  generalize (if b.jumped.contains e.aud = true then 0 else j) = k
  (repeat' split) <;> simp

@[simp] theorem buildUnit_frame (s : State) (l : LaneId) :
    (buildUnit l s).pending = s.pending ∧
    (buildUnit l s).phase = s.phase ∧
    (buildUnit l s).clock = s.clock ∧
    (buildUnit l s).sync = s.sync ∧
    (buildUnit l s).timelines = s.timelines ∧
    (buildUnit l s).table.payload = s.table.payload ∧
    (buildUnit l s).settings = s.settings ∧
    (buildUnit l s).link = s.link ∧
    (buildUnit l s).laneCounters = s.laneCounters ∧
    (buildUnit l s).status.forcedFault = s.status.forcedFault ∧
    (buildUnit l s).status.forcedNotice = s.status.forcedNotice := by
  unfold buildUnit
  (repeat' split) <;> simp

@[simp] theorem finishStage_frame (s : State) (l : LaneId) :
    (finishStage l s).pending = s.pending ∧
    (finishStage l s).phase = s.phase ∧
    (finishStage l s).clock = s.clock ∧
    (finishStage l s).sync = s.sync ∧
    (finishStage l s).timelines = s.timelines ∧
    (finishStage l s).table.payload = s.table.payload ∧
    (finishStage l s).settings = s.settings ∧
    (finishStage l s).link = s.link ∧
    (finishStage l s).laneCounters = s.laneCounters ∧
    (finishStage l s).status.forcedFault = s.status.forcedFault ∧
    (finishStage l s).status.forcedNotice = s.status.forcedNotice := by
  unfold finishStage
  split
  · exact ⟨times_keeps (fun s => s.pending) _ (fun s => by simp) _ s,
      times_keeps (fun s => s.phase) _ (fun s => by simp) _ s,
      times_keeps (fun s => s.clock) _ (fun s => by simp) _ s,
      times_keeps (fun s => s.sync) _ (fun s => by simp) _ s,
      times_keeps (fun s => s.timelines) _ (fun s => by simp) _ s,
      times_keeps (fun s => s.table.payload) _ (fun s => by simp) _ s,
      times_keeps (fun s => s.settings) _ (fun s => by simp) _ s,
      times_keeps (fun s => s.link) _ (fun s => by simp) _ s,
      times_keeps (fun s => s.laneCounters) _ (fun s => by simp) _ s,
      times_keeps (fun s => s.status.forcedFault) _ (fun s => by simp) _ s,
      times_keeps (fun s => s.status.forcedNotice) _ (fun s => by simp) _ s⟩
  · simp

@[simp] theorem finishBuild_frame (s : State) (l : LaneId) :
    (finishBuild l s).pending = s.pending ∧
    (finishBuild l s).phase = s.phase ∧
    (finishBuild l s).clock = s.clock ∧
    (finishBuild l s).sync = s.sync ∧
    (finishBuild l s).timelines = s.timelines ∧
    (finishBuild l s).table.payload = s.table.payload ∧
    (finishBuild l s).settings = s.settings ∧
    (finishBuild l s).link = s.link ∧
    (finishBuild l s).laneCounters = s.laneCounters ∧
    (finishBuild l s).status.forcedFault = s.status.forcedFault ∧
    (finishBuild l s).status.forcedNotice = s.status.forcedNotice := by
  unfold finishBuild
  exact ⟨times_keeps (fun s => s.pending) _ (fun s => by simp) _ s,
    times_keeps (fun s => s.phase) _ (fun s => by simp) _ s,
    times_keeps (fun s => s.clock) _ (fun s => by simp) _ s,
    times_keeps (fun s => s.sync) _ (fun s => by simp) _ s,
    times_keeps (fun s => s.timelines) _ (fun s => by simp) _ s,
    times_keeps (fun s => s.table.payload) _ (fun s => by simp) _ s,
    times_keeps (fun s => s.settings) _ (fun s => by simp) _ s,
    times_keeps (fun s => s.link) _ (fun s => by simp) _ s,
    times_keeps (fun s => s.laneCounters) _ (fun s => by simp) _ s,
    times_keeps (fun s => s.status.forcedFault) _ (fun s => by simp) _ s,
    times_keeps (fun s => s.status.forcedNotice) _ (fun s => by simp) _ s⟩

@[simp] theorem completeBuild_frame (s : State) (l : LaneId) :
    (completeBuild l s).pending = s.pending ∧
    (completeBuild l s).phase = s.phase ∧
    (completeBuild l s).clock = s.clock ∧
    (completeBuild l s).sync = s.sync ∧
    (completeBuild l s).timelines = s.timelines ∧
    (completeBuild l s).directory = s.directory ∧
    (completeBuild l s).table = s.table ∧
    (completeBuild l s).roster = s.roster ∧
    (completeBuild l s).settings = s.settings ∧
    (completeBuild l s).link = s.link ∧
    (completeBuild l s).audCounters = s.audCounters ∧
    (completeBuild l s).laneCounters = s.laneCounters ∧
    (completeBuild l s).status = s.status := by
  unfold completeBuild
  dsimp only
  (repeat' split) <;> simp

@[simp] theorem stoppedPass_frame (s : State) (l : LaneId) (t : SiteTime) :
    (stoppedPass l t s).pending = s.pending ∧
    (stoppedPass l t s).phase = s.phase ∧
    (stoppedPass l t s).clock = s.clock ∧
    (stoppedPass l t s).sync = s.sync ∧
    (stoppedPass l t s).timelines = s.timelines ∧
    (stoppedPass l t s).table.payload = s.table.payload ∧
    (stoppedPass l t s).roster = s.roster ∧
    (stoppedPass l t s).settings = s.settings ∧
    (stoppedPass l t s).link = s.link ∧
    (stoppedPass l t s).laneCounters = s.laneCounters ∧
    (stoppedPass l t s).status.forcedFault = s.status.forcedFault ∧
    (stoppedPass l t s).status.forcedNotice = s.status.forcedNotice := by
  have h : ∀ {α : Type} (g : State → α), (∀ p k s, g (phasePass p k s) = g s) →
      g (stoppedPass l t s) = g s := by
    intro α g hg
    unfold stoppedPass
    refine foldl_keeps g _ (fun s a => ?_) _ s
    split
    · split
      · exact foldl_keeps g _ (fun s u => foldl_keeps g _ (fun s k => hg _ k s) _ s) _ s
      · rfl
    · rfl
  exact ⟨h (fun s => s.pending) (fun p k s => by simp),
    h (fun s => s.phase) (fun p k s => by simp),
    h (fun s => s.clock) (fun p k s => by simp),
    h (fun s => s.sync) (fun p k s => by simp),
    h (fun s => s.timelines) (fun p k s => by simp),
    h (fun s => s.table.payload) (fun p k s => by simp),
    h (fun s => s.roster) (fun p k s => by simp),
    h (fun s => s.settings) (fun p k s => by simp),
    h (fun s => s.link) (fun p k s => by simp),
    h (fun s => s.laneCounters) (fun p k s => by simp),
    h (fun s => s.status.forcedFault) (fun p k s => by simp),
    h (fun s => s.status.forcedNotice) (fun p k s => by simp)⟩

@[simp] theorem gateBecomesActive_frame (s : State) (a : Aud) :
    (gateBecomesActive a s).pending = s.pending ∧
    (gateBecomesActive a s).phase = s.phase ∧
    (gateBecomesActive a s).clock = s.clock ∧
    (gateBecomesActive a s).sync = s.sync ∧
    (gateBecomesActive a s).directory = s.directory ∧
    (gateBecomesActive a s).table = s.table ∧
    (gateBecomesActive a s).lanes = s.lanes ∧
    (gateBecomesActive a s).roster = s.roster ∧
    (gateBecomesActive a s).settings = s.settings ∧
    (gateBecomesActive a s).link = s.link ∧
    (gateBecomesActive a s).audCounters = s.audCounters ∧
    (gateBecomesActive a s).laneCounters = s.laneCounters ∧
    (gateBecomesActive a s).status.forcedFault = s.status.forcedFault ∧
    (gateBecomesActive a s).status.forcedNotice = s.status.forcedNotice := by
  unfold gateBecomesActive
  (repeat' split) <;> simp

@[simp] theorem gateIsReleased_frame (s : State) (a : Aud) :
    (gateIsReleased a s).pending = s.pending ∧
    (gateIsReleased a s).phase = s.phase ∧
    (gateIsReleased a s).clock = s.clock ∧
    (gateIsReleased a s).sync = s.sync ∧
    (gateIsReleased a s).directory = s.directory ∧
    (gateIsReleased a s).table = s.table ∧
    (gateIsReleased a s).lanes = s.lanes ∧
    (gateIsReleased a s).roster = s.roster ∧
    (gateIsReleased a s).settings = s.settings ∧
    (gateIsReleased a s).link = s.link ∧
    (gateIsReleased a s).audCounters = s.audCounters ∧
    (gateIsReleased a s).laneCounters = s.laneCounters ∧
    (gateIsReleased a s).status.forcedFault = s.status.forcedFault ∧
    (gateIsReleased a s).status.forcedNotice = s.status.forcedNotice := by
  unfold gateIsReleased
  (repeat' split) <;> simp

@[simp] theorem forgetInBuild_frame (s : State) (a : Aud) :
    (forgetInBuild a s).pending = s.pending ∧
    (forgetInBuild a s).phase = s.phase ∧
    (forgetInBuild a s).clock = s.clock ∧
    (forgetInBuild a s).sync = s.sync ∧
    (forgetInBuild a s).timelines = s.timelines ∧
    (forgetInBuild a s).directory = s.directory ∧
    (forgetInBuild a s).table = s.table ∧
    (forgetInBuild a s).roster = s.roster ∧
    (forgetInBuild a s).settings = s.settings ∧
    (forgetInBuild a s).link = s.link ∧
    (forgetInBuild a s).audCounters = s.audCounters ∧
    (forgetInBuild a s).laneCounters = s.laneCounters ∧
    (forgetInBuild a s).status = s.status := by
  unfold forgetInBuild
  (repeat' split) <;> simp

@[simp] theorem purgeRepairs_frame (s : State) (a : Aud) :
    (purgeRepairs a s).pending = s.pending ∧
    (purgeRepairs a s).phase = s.phase ∧
    (purgeRepairs a s).clock = s.clock ∧
    (purgeRepairs a s).sync = s.sync ∧
    (purgeRepairs a s).timelines = s.timelines ∧
    (purgeRepairs a s).directory = s.directory ∧
    (purgeRepairs a s).table = s.table ∧
    (purgeRepairs a s).roster = s.roster ∧
    (purgeRepairs a s).settings = s.settings ∧
    (purgeRepairs a s).link = s.link ∧
    (purgeRepairs a s).audCounters = s.audCounters ∧
    (purgeRepairs a s).laneCounters = s.laneCounters ∧
    (purgeRepairs a s).status = s.status := by
  unfold purgeRepairs
  (repeat' split) <;> simp

@[simp] theorem jumpEffects_frame (s : State) (a : Aud) (p : Nat) :
    (jumpEffects a p s).pending = s.pending ∧
    (jumpEffects a p s).phase = s.phase ∧
    (jumpEffects a p s).clock = s.clock ∧
    (jumpEffects a p s).sync = s.sync ∧
    (jumpEffects a p s).timelines = s.timelines ∧
    (jumpEffects a p s).table.payload = s.table.payload ∧
    (jumpEffects a p s).roster = s.roster ∧
    (jumpEffects a p s).settings = s.settings ∧
    (jumpEffects a p s).link = s.link ∧
    (jumpEffects a p s).laneCounters = s.laneCounters ∧
    (jumpEffects a p s).status.forcedFault = s.status.forcedFault ∧
    (jumpEffects a p s).status.forcedNotice = s.status.forcedNotice := by
  unfold jumpEffects
  simp

@[simp] theorem clearTraffic_frame (s : State) (a : Aud) (l : LaneId) :
    (clearTraffic a l s).pending = s.pending ∧
    (clearTraffic a l s).phase = s.phase ∧
    (clearTraffic a l s).clock = s.clock ∧
    (clearTraffic a l s).sync = s.sync ∧
    (clearTraffic a l s).timelines = s.timelines ∧
    (clearTraffic a l s).directory = s.directory ∧
    (clearTraffic a l s).table = s.table ∧
    (clearTraffic a l s).roster = s.roster ∧
    (clearTraffic a l s).settings = s.settings ∧
    (clearTraffic a l s).link = s.link ∧
    (clearTraffic a l s).audCounters = s.audCounters ∧
    (clearTraffic a l s).laneCounters = s.laneCounters ∧
    (clearTraffic a l s).status = s.status := by
  unfold clearTraffic
  simp

@[simp] theorem recountTracks_frame (s : State) (a : Aud) :
    (recountTracks a s).pending = s.pending ∧
    (recountTracks a s).phase = s.phase ∧
    (recountTracks a s).clock = s.clock ∧
    (recountTracks a s).sync = s.sync ∧
    (recountTracks a s).timelines = s.timelines ∧
    (recountTracks a s).table = s.table ∧
    (recountTracks a s).lanes = s.lanes ∧
    (recountTracks a s).roster = s.roster ∧
    (recountTracks a s).settings = s.settings ∧
    (recountTracks a s).link = s.link ∧
    (recountTracks a s).audCounters = s.audCounters ∧
    (recountTracks a s).laneCounters = s.laneCounters ∧
    (recountTracks a s).status = s.status := by
  unfold recountTracks
  exact ⟨foldl_keeps (fun s => s.pending) _ (fun s x => by simp) _ s,
    foldl_keeps (fun s => s.phase) _ (fun s x => by simp) _ s,
    foldl_keeps (fun s => s.clock) _ (fun s x => by simp) _ s,
    foldl_keeps (fun s => s.sync) _ (fun s x => by simp) _ s,
    foldl_keeps (fun s => s.timelines) _ (fun s x => by simp) _ s,
    foldl_keeps (fun s => s.table) _ (fun s x => by simp) _ s,
    foldl_keeps (fun s => s.lanes) _ (fun s x => by simp) _ s,
    foldl_keeps (fun s => s.roster) _ (fun s x => by simp) _ s,
    foldl_keeps (fun s => s.settings) _ (fun s x => by simp) _ s,
    foldl_keeps (fun s => s.link) _ (fun s x => by simp) _ s,
    foldl_keeps (fun s => s.audCounters) _ (fun s x => by simp) _ s,
    foldl_keeps (fun s => s.laneCounters) _ (fun s x => by simp) _ s,
    foldl_keeps (fun s => s.status) _ (fun s x => by simp) _ s⟩

@[simp] theorem rePlaceOne_frame (s : State) (a : Aud) (l : LaneId) (r : RxRec) :
    (rePlaceOne a l s r).pending = s.pending ∧
    (rePlaceOne a l s r).phase = s.phase ∧
    (rePlaceOne a l s r).clock = s.clock ∧
    (rePlaceOne a l s r).sync = s.sync ∧
    (rePlaceOne a l s r).timelines = s.timelines ∧
    (rePlaceOne a l s r).directory = s.directory ∧
    (rePlaceOne a l s r).table = s.table ∧
    (rePlaceOne a l s r).settings = s.settings ∧
    (rePlaceOne a l s r).link = s.link ∧
    (rePlaceOne a l s r).audCounters = s.audCounters ∧
    (rePlaceOne a l s r).laneCounters = s.laneCounters ∧
    (rePlaceOne a l s r).status = s.status := by
  unfold rePlaceOne
  dsimp only
  (repeat' split) <;> simp

@[simp] theorem rePlace_frame (s : State) (a : Aud) (l : LaneId) :
    (rePlace a l s).pending = s.pending ∧
    (rePlace a l s).phase = s.phase ∧
    (rePlace a l s).clock = s.clock ∧
    (rePlace a l s).sync = s.sync ∧
    (rePlace a l s).timelines = s.timelines ∧
    (rePlace a l s).directory = s.directory ∧
    (rePlace a l s).table = s.table ∧
    (rePlace a l s).settings = s.settings ∧
    (rePlace a l s).link = s.link ∧
    (rePlace a l s).audCounters = s.audCounters ∧
    (rePlace a l s).laneCounters = s.laneCounters ∧
    (rePlace a l s).status = s.status := by
  unfold rePlace
  exact ⟨foldl_keeps (fun s => s.pending) _ (fun s x => by simp) _ s,
    foldl_keeps (fun s => s.phase) _ (fun s x => by simp) _ s,
    foldl_keeps (fun s => s.clock) _ (fun s x => by simp) _ s,
    foldl_keeps (fun s => s.sync) _ (fun s x => by simp) _ s,
    foldl_keeps (fun s => s.timelines) _ (fun s x => by simp) _ s,
    foldl_keeps (fun s => s.directory) _ (fun s x => by simp) _ s,
    foldl_keeps (fun s => s.table) _ (fun s x => by simp) _ s,
    foldl_keeps (fun s => s.settings) _ (fun s x => by simp) _ s,
    foldl_keeps (fun s => s.link) _ (fun s x => by simp) _ s,
    foldl_keeps (fun s => s.audCounters) _ (fun s x => by simp) _ s,
    foldl_keeps (fun s => s.laneCounters) _ (fun s x => by simp) _ s,
    foldl_keeps (fun s => s.status) _ (fun s x => by simp) _ s⟩

@[simp] theorem doPost_frame (s : State) (q : CuePostReq) (k : Nat) :
    ((doPost q k s).1).pending = s.pending ∧
    ((doPost q k s).1).phase = s.phase ∧
    ((doPost q k s).1).clock = s.clock ∧
    ((doPost q k s).1).sync = s.sync ∧
    ((doPost q k s).1).timelines = s.timelines ∧
    ((doPost q k s).1).roster = s.roster ∧
    ((doPost q k s).1).settings = s.settings ∧
    ((doPost q k s).1).link = s.link ∧
    ((doPost q k s).1).audCounters = s.audCounters ∧
    ((doPost q k s).1).laneCounters = s.laneCounters ∧
    ((doPost q k s).1).status.forcedFault = s.status.forcedFault ∧
    ((doPost q k s).1).status.forcedNotice = s.status.forcedNotice := by
  unfold doPost
  simp

@[simp] theorem doRevise_frame (s : State) (x : CueBody) (c : Cue) :
    ((doRevise x c s).1).pending = s.pending ∧
    ((doRevise x c s).1).phase = s.phase ∧
    ((doRevise x c s).1).clock = s.clock ∧
    ((doRevise x c s).1).sync = s.sync ∧
    ((doRevise x c s).1).timelines = s.timelines ∧
    ((doRevise x c s).1).roster = s.roster ∧
    ((doRevise x c s).1).settings = s.settings ∧
    ((doRevise x c s).1).link = s.link ∧
    ((doRevise x c s).1).audCounters = s.audCounters ∧
    ((doRevise x c s).1).laneCounters = s.laneCounters ∧
    ((doRevise x c s).1).status.forcedFault = s.status.forcedFault ∧
    ((doRevise x c s).1).status.forcedNotice = s.status.forcedNotice := by
  unfold doRevise
  (repeat' split) <;> simp

@[simp] theorem withdrawNotice_frame (s : State) (c : Cue) :
    ((withdrawNotice c s).1).pending = s.pending ∧
    ((withdrawNotice c s).1).phase = s.phase ∧
    ((withdrawNotice c s).1).clock = s.clock ∧
    ((withdrawNotice c s).1).sync = s.sync ∧
    ((withdrawNotice c s).1).timelines = s.timelines ∧
    ((withdrawNotice c s).1).directory = s.directory ∧
    ((withdrawNotice c s).1).table = s.table ∧
    ((withdrawNotice c s).1).roster = s.roster ∧
    ((withdrawNotice c s).1).settings = s.settings ∧
    ((withdrawNotice c s).1).link = s.link ∧
    ((withdrawNotice c s).1).audCounters = s.audCounters ∧
    ((withdrawNotice c s).1).laneCounters = s.laneCounters ∧
    ((withdrawNotice c s).1).status.forcedFault = s.status.forcedFault ∧
    ((withdrawNotice c s).1).status.forcedNotice = s.status.forcedNotice := by
  unfold withdrawNotice
  (repeat' split) <;> simp

@[simp] theorem doIssue_frame (s : State) (r : RxRec) :
    (doIssue r s).pending = s.pending ∧
    (doIssue r s).phase = s.phase ∧
    (doIssue r s).clock = s.clock ∧
    (doIssue r s).sync = s.sync ∧
    (doIssue r s).timelines = s.timelines ∧
    (doIssue r s).table.payload = s.table.payload ∧
    (doIssue r s).settings = s.settings ∧
    (doIssue r s).link = s.link ∧
    (doIssue r s).audCounters = s.audCounters ∧
    (doIssue r s).laneCounters = s.laneCounters ∧
    (doIssue r s).status = s.status := by
  unfold doIssue
  dsimp only
  (repeat' split) <;> simp

@[simp] theorem placeInRotation_frame (s : State) (l : LaneId) (i : RxIdx) :
    (placeInRotation l i s).pending = s.pending ∧
    (placeInRotation l i s).phase = s.phase ∧
    (placeInRotation l i s).clock = s.clock ∧
    (placeInRotation l i s).sync = s.sync ∧
    (placeInRotation l i s).timelines = s.timelines ∧
    (placeInRotation l i s).directory = s.directory ∧
    (placeInRotation l i s).table = s.table ∧
    (placeInRotation l i s).settings = s.settings ∧
    (placeInRotation l i s).link = s.link ∧
    (placeInRotation l i s).audCounters = s.audCounters ∧
    (placeInRotation l i s).laneCounters = s.laneCounters ∧
    (placeInRotation l i s).status = s.status := by
  unfold placeInRotation
  dsimp only
  (repeat' split) <;> simp

@[simp] theorem moveRotations_frame (s : State) (q : RxMoveReq) (i : RxIdx) (a : Aud) :
    (moveRotations q i a s).pending = s.pending ∧
    (moveRotations q i a s).phase = s.phase ∧
    (moveRotations q i a s).clock = s.clock ∧
    (moveRotations q i a s).sync = s.sync ∧
    (moveRotations q i a s).timelines = s.timelines ∧
    (moveRotations q i a s).directory = s.directory ∧
    (moveRotations q i a s).table = s.table ∧
    (moveRotations q i a s).settings = s.settings ∧
    (moveRotations q i a s).link = s.link ∧
    (moveRotations q i a s).audCounters = s.audCounters ∧
    (moveRotations q i a s).laneCounters = s.laneCounters ∧
    (moveRotations q i a s).status = s.status := by
  unfold moveRotations
  dsimp only
  (repeat' split) <;> simp

@[simp] theorem doMove_frame (s : State) (q : RxMoveReq) (r : RxRec) :
    (doMove q r s).pending = s.pending ∧
    (doMove q r s).phase = s.phase ∧
    (doMove q r s).clock = s.clock ∧
    (doMove q r s).sync = s.sync ∧
    (doMove q r s).timelines = s.timelines ∧
    (doMove q r s).table.payload = s.table.payload ∧
    (doMove q r s).settings = s.settings ∧
    (doMove q r s).link = s.link ∧
    (doMove q r s).audCounters = s.audCounters ∧
    (doMove q r s).laneCounters = s.laneCounters ∧
    (doMove q r s).status = s.status := by
  unfold doMove
  simp

@[simp] theorem releaseNotice_frame (s : State) (w : Bool) (r : RxRec) (l : LaneId) :
    ((releaseNotice w r l s).1).pending = s.pending ∧
    ((releaseNotice w r l s).1).phase = s.phase ∧
    ((releaseNotice w r l s).1).clock = s.clock ∧
    ((releaseNotice w r l s).1).sync = s.sync ∧
    ((releaseNotice w r l s).1).timelines = s.timelines ∧
    ((releaseNotice w r l s).1).directory = s.directory ∧
    ((releaseNotice w r l s).1).table = s.table ∧
    ((releaseNotice w r l s).1).roster = s.roster ∧
    ((releaseNotice w r l s).1).settings = s.settings ∧
    ((releaseNotice w r l s).1).link = s.link ∧
    ((releaseNotice w r l s).1).audCounters = s.audCounters ∧
    ((releaseNotice w r l s).1).laneCounters = s.laneCounters ∧
    ((releaseNotice w r l s).1).status.forcedFault = s.status.forcedFault ∧
    ((releaseNotice w r l s).1).status.forcedNotice = s.status.forcedNotice := by
  unfold releaseNotice
  (repeat' split) <;> simp

@[simp] theorem startLane_frame (s : State) (l : LaneId) :
    (startLane l s).pending = s.pending ∧
    (startLane l s).phase = s.phase ∧
    (startLane l s).clock = s.clock ∧
    (startLane l s).sync = s.sync ∧
    (startLane l s).timelines = s.timelines ∧
    (startLane l s).directory = s.directory ∧
    (startLane l s).table = s.table ∧
    (startLane l s).settings = s.settings ∧
    (startLane l s).link = s.link ∧
    (startLane l s).audCounters = s.audCounters ∧
    (startLane l s).laneCounters = s.laneCounters ∧
    (startLane l s).status = s.status := by
  unfold startLane
  simp

@[simp] theorem stopLane_frame (s : State) (l : LaneId) :
    (stopLane l s).pending = s.pending ∧
    (stopLane l s).phase = s.phase ∧
    (stopLane l s).clock = s.clock ∧
    (stopLane l s).sync = s.sync ∧
    (stopLane l s).timelines = s.timelines ∧
    (stopLane l s).directory = s.directory ∧
    (stopLane l s).table = s.table ∧
    (stopLane l s).roster = s.roster ∧
    (stopLane l s).settings = s.settings ∧
    (stopLane l s).link = s.link ∧
    (stopLane l s).audCounters = s.audCounters ∧
    (stopLane l s).laneCounters = s.laneCounters ∧
    (stopLane l s).status.forcedFault = s.status.forcedFault ∧
    (stopLane l s).status.forcedNotice = s.status.forcedNotice := by
  unfold stopLane
  simp

@[simp] theorem cutBuild_frame (s : State) (l : LaneId) (i : BufId) :
    (cutBuild l i s).pending = s.pending ∧
    (cutBuild l i s).phase = s.phase ∧
    (cutBuild l i s).clock = s.clock ∧
    (cutBuild l i s).sync = s.sync ∧
    (cutBuild l i s).timelines = s.timelines ∧
    (cutBuild l i s).directory = s.directory ∧
    (cutBuild l i s).table = s.table ∧
    (cutBuild l i s).roster = s.roster ∧
    (cutBuild l i s).settings = s.settings ∧
    (cutBuild l i s).link = s.link ∧
    (cutBuild l i s).audCounters = s.audCounters ∧
    (cutBuild l i s).status.forcedFault = s.status.forcedFault ∧
    (cutBuild l i s).status.forcedNotice = s.status.forcedNotice := by
  unfold cutBuild
  simp

@[simp] theorem airBuffer_frame (s : State) (l : LaneId) (i : BufId) :
    (airBuffer l i s).pending = s.pending ∧
    (airBuffer l i s).phase = s.phase ∧
    (airBuffer l i s).clock = s.clock ∧
    (airBuffer l i s).sync = s.sync ∧
    (airBuffer l i s).timelines = s.timelines ∧
    (airBuffer l i s).directory = s.directory ∧
    (airBuffer l i s).table = s.table ∧
    (airBuffer l i s).roster = s.roster ∧
    (airBuffer l i s).settings = s.settings ∧
    (airBuffer l i s).link = s.link ∧
    (airBuffer l i s).audCounters = s.audCounters ∧
    (airBuffer l i s).laneCounters = s.laneCounters ∧
    (airBuffer l i s).status = s.status := by
  unfold airBuffer
  (repeat' split) <;> simp

@[simp] theorem airAtBoundary_frame (s : State) (l : LaneId) :
    (airAtBoundary l s).pending = s.pending ∧
    (airAtBoundary l s).phase = s.phase ∧
    (airAtBoundary l s).clock = s.clock ∧
    (airAtBoundary l s).sync = s.sync ∧
    (airAtBoundary l s).timelines = s.timelines ∧
    (airAtBoundary l s).directory = s.directory ∧
    (airAtBoundary l s).table = s.table ∧
    (airAtBoundary l s).roster = s.roster ∧
    (airAtBoundary l s).settings = s.settings ∧
    (airAtBoundary l s).link = s.link ∧
    (airAtBoundary l s).audCounters = s.audCounters ∧
    (airAtBoundary l s).status.forcedFault = s.status.forcedFault ∧
    (airAtBoundary l s).status.forcedNotice = s.status.forcedNotice := by
  unfold airAtBoundary
  dsimp only
  (repeat' split) <;> simp

@[simp] theorem runningBoundary_frame (s : State) (l : LaneId) :
    (runningBoundary l s).pending = s.pending ∧
    (runningBoundary l s).phase = s.phase ∧
    (runningBoundary l s).clock = s.clock ∧
    (runningBoundary l s).sync = s.sync ∧
    (runningBoundary l s).timelines = s.timelines ∧
    (runningBoundary l s).table.payload = s.table.payload ∧
    (runningBoundary l s).roster = s.roster ∧
    (runningBoundary l s).settings = s.settings ∧
    (runningBoundary l s).link = s.link ∧
    (runningBoundary l s).status.forcedFault = s.status.forcedFault ∧
    (runningBoundary l s).status.forcedNotice = s.status.forcedNotice := by
  unfold runningBoundary
  dsimp only
  (repeat' split) <;> simp

@[simp] theorem strayCheckin_frame (s : State) (l : LaneId) (m : CheckinMsg) :
    (strayCheckin l m s).pending = s.pending ∧
    (strayCheckin l m s).phase = s.phase ∧
    (strayCheckin l m s).clock = s.clock ∧
    (strayCheckin l m s).sync = s.sync ∧
    (strayCheckin l m s).timelines = s.timelines ∧
    (strayCheckin l m s).directory = s.directory ∧
    (strayCheckin l m s).table = s.table ∧
    (strayCheckin l m s).roster = s.roster ∧
    (strayCheckin l m s).settings = s.settings ∧
    (strayCheckin l m s).link = s.link ∧
    (strayCheckin l m s).audCounters = s.audCounters ∧
    (strayCheckin l m s).status.forcedFault = s.status.forcedFault ∧
    (strayCheckin l m s).status.forcedNotice = s.status.forcedNotice := by
  unfold strayCheckin
  simp

@[simp] theorem rejoin_frame (s : State) (l : LaneId) (r : RxRec) :
    (rejoin l r s).pending = s.pending ∧
    (rejoin l r s).phase = s.phase ∧
    (rejoin l r s).clock = s.clock ∧
    (rejoin l r s).sync = s.sync ∧
    (rejoin l r s).timelines = s.timelines ∧
    (rejoin l r s).table.payload = s.table.payload ∧
    (rejoin l r s).roster = s.roster ∧
    (rejoin l r s).settings = s.settings ∧
    (rejoin l r s).link = s.link ∧
    (rejoin l r s).audCounters = s.audCounters ∧
    (rejoin l r s).laneCounters = s.laneCounters ∧
    (rejoin l r s).status = s.status := by
  unfold rejoin
  (repeat' split) <;> simp

@[simp] theorem heardCheckin_frame (s : State) (l : LaneId) (m : CheckinMsg) (r : RxRec) :
    (heardCheckin l m r s).pending = s.pending ∧
    (heardCheckin l m r s).phase = s.phase ∧
    (heardCheckin l m r s).clock = s.clock ∧
    (heardCheckin l m r s).sync = s.sync ∧
    (heardCheckin l m r s).timelines = s.timelines ∧
    (heardCheckin l m r s).table.payload = s.table.payload ∧
    (heardCheckin l m r s).settings = s.settings ∧
    (heardCheckin l m r s).link = s.link ∧
    (heardCheckin l m r s).audCounters = s.audCounters ∧
    (heardCheckin l m r s).laneCounters = s.laneCounters ∧
    (heardCheckin l m r s).status = s.status := by
  unfold heardCheckin
  dsimp only
  (repeat' split) <;> simp

@[simp] theorem takeCheckin_frame (s : State) (l : LaneId) (m : CheckinMsg) :
    (takeCheckin l m s).pending = s.pending ∧
    (takeCheckin l m s).phase = s.phase ∧
    (takeCheckin l m s).clock = s.clock ∧
    (takeCheckin l m s).sync = s.sync ∧
    (takeCheckin l m s).timelines = s.timelines ∧
    (takeCheckin l m s).table.payload = s.table.payload ∧
    (takeCheckin l m s).settings = s.settings ∧
    (takeCheckin l m s).link = s.link ∧
    (takeCheckin l m s).audCounters = s.audCounters ∧
    (takeCheckin l m s).status.forcedFault = s.status.forcedFault ∧
    (takeCheckin l m s).status.forcedNotice = s.status.forcedNotice := by
  unfold takeCheckin
  (repeat' split) <;> simp

@[simp] theorem raisePartner_frame (s : State) (k : Setting) (v : Nat) :
    (raisePartner k v s).pending = s.pending ∧
    (raisePartner k v s).phase = s.phase ∧
    (raisePartner k v s).clock = s.clock ∧
    (raisePartner k v s).sync = s.sync ∧
    (raisePartner k v s).timelines = s.timelines ∧
    (raisePartner k v s).directory = s.directory ∧
    (raisePartner k v s).table = s.table ∧
    (raisePartner k v s).lanes = s.lanes ∧
    (raisePartner k v s).roster = s.roster ∧
    (raisePartner k v s).link = s.link ∧
    (raisePartner k v s).audCounters = s.audCounters ∧
    (raisePartner k v s).laneCounters = s.laneCounters ∧
    (raisePartner k v s).status = s.status := by
  unfold raisePartner
  (repeat' split) <;> simp

@[simp] theorem clearLatched_frame (s : State) (n : Nat) :
    (clearLatched n s).pending = s.pending ∧
    (clearLatched n s).phase = s.phase ∧
    (clearLatched n s).clock = s.clock ∧
    (clearLatched n s).sync = s.sync ∧
    (clearLatched n s).timelines = s.timelines ∧
    (clearLatched n s).directory = s.directory ∧
    (clearLatched n s).table = s.table ∧
    (clearLatched n s).lanes = s.lanes ∧
    (clearLatched n s).roster = s.roster ∧
    (clearLatched n s).settings = s.settings ∧
    (clearLatched n s).link = s.link ∧
    (clearLatched n s).audCounters = s.audCounters ∧
    (clearLatched n s).laneCounters = s.laneCounters ∧
    (clearLatched n s).status.forcedFault = s.status.forcedFault ∧
    (clearLatched n s).status.forcedNotice = s.status.forcedNotice := by
  unfold clearLatched
  exact ⟨foldl_keeps (fun s => s.pending) _ (fun s x => by split <;> simp) _ s,
    foldl_keeps (fun s => s.phase) _ (fun s x => by split <;> simp) _ s,
    foldl_keeps (fun s => s.clock) _ (fun s x => by split <;> simp) _ s,
    foldl_keeps (fun s => s.sync) _ (fun s x => by split <;> simp) _ s,
    foldl_keeps (fun s => s.timelines) _ (fun s x => by split <;> simp) _ s,
    foldl_keeps (fun s => s.directory) _ (fun s x => by split <;> simp) _ s,
    foldl_keeps (fun s => s.table) _ (fun s x => by split <;> simp) _ s,
    foldl_keeps (fun s => s.lanes) _ (fun s x => by split <;> simp) _ s,
    foldl_keeps (fun s => s.roster) _ (fun s x => by split <;> simp) _ s,
    foldl_keeps (fun s => s.settings) _ (fun s x => by split <;> simp) _ s,
    foldl_keeps (fun s => s.link) _ (fun s x => by split <;> simp) _ s,
    foldl_keeps (fun s => s.audCounters) _ (fun s x => by split <;> simp) _ s,
    foldl_keeps (fun s => s.laneCounters) _ (fun s x => by split <;> simp) _ s,
    foldl_keeps (fun s => s.status.forcedFault) _ (fun s x => by split <;> simp) _ s,
    foldl_keeps (fun s => s.status.forcedNotice) _ (fun s x => by split <;> simp) _ s⟩

end Sys2Proof.Machine
end

