-- ==== Sys2Proof/Laws/Requests.lean ====
section
/-! SUPPORT. The Request Engine once for all: what taking a request gives, what its response shows, and
that judging the flags at the end of a command changes nothing else. -/

namespace Sys2Proof.Machine

/-! ### The end of a command -/

/-- The state after a request's message has left the inbox. -/
def State.withInbox (s : State) (rest : List Msg) : State :=
  { s with link := { s.link with inbox := rest } }

theorem faultFlag_settle (s : State) : faultFlag (settle s) = faultFlag s := rfl
theorem noticeFlag_settle (s : State) : noticeFlag (settle s) = noticeFlag s := rfl
theorem attnLine_settle (s : State) : attnLine (settle s) = attnLine s := rfl

/-- A command that has ended has judged the summary flags and ATTN_N. -/
theorem judged_settle (s : State) : Judged (settle s) := ⟨rfl, rfl, rfl⟩

/-- Judging the flags changes no part. -/
theorem same_settle (p : Part) (s t : State) : p.same s (settle t) ↔ p.same s t := by
  cases p <;> exact Iff.rfl

/-- Nothing outside the named parts changes over a command that ends as usual, if nothing outside them
changed before its end. -/
theorem changesOnly_settle {ps : List Part} {s t : State} (h : ∀ p, p ∉ ps → p.same s t) :
    ChangesOnly ps s (settle t) :=
  ⟨fun p hp => (same_settle p s t).2 (h p hp), judged_settle t⟩

/-- Placing a response touches the outbox alone. -/
theorem same_placeResponse (p : Part) (hp : p ≠ .outbox) (m : Msg) (r : Result) (c : Bool)
    (b : List Byte) (s t : State) : p.same s (placeResponse m r c b t) ↔ p.same s t := by
  cases p <;> first | exact Iff.rfl | exact absurd rfl hp

/-- Taking a message touches the inbox alone. -/
theorem same_withInbox (p : Part) (hp : p ≠ .inbox) (rest : List Msg) (s : State) :
    p.same s (s.withInbox rest) := by
  cases p <;> first | rfl | exact ⟨rfl, rfl⟩ | exact absurd rfl hp

/-! ### Taking a request -/

/-- When the engine takes a message as this row, the request's own action answers. -/
theorem takeRequest_of_taken {row : ReqRow} {m : Msg} {rest : List Msg} {s : State}
    (h : Taken row m rest s) (act : List Byte → State → Answer) :
    takeRequest row act s = .next (settle (answer m (s.withInbox rest) (act m.body (s.withInbox rest)))) := by
  obtain ⟨h1, h2, h3, h4, h5⟩ := h
  simp [takeRequest, takeable, h2, h1, h4, h3, h5, done, State.withInbox]

/-- A request whose operands have the form of its kind runs its own checks on them. -/
theorem withForm_some {α : Type} {parse : List Byte → Option α} {b : List Byte} {x : α}
    (h : parse b = some x) (act : α → State → Answer) (s : State) :
    withForm parse act b s = act x s := by
  simp [withForm, h]

/-- The two together. -/
theorem takeRequest_form {α : Type} {row : ReqRow} {m : Msg} {rest : List Msg} {s : State}
    (h : Taken row m rest s) {parse : List Byte → Option α} {x : α} (hx : parse m.body = some x)
    (act : α → State → Answer) :
    takeRequest row (withForm parse act) s =
      .next (settle (answer m (s.withInbox rest) (act x (s.withInbox rest)))) := by
  rw [takeRequest_of_taken h, withForm_some hx]

/-- The response of an accepted request, as `Responded` shows it. -/
theorem responded_settle {m : Msg} {rest : List Msg} {res : Result} {c : Bool} {b : List Byte}
    {s t : State} (h1 : t.link.inbox = rest) (h2 : t.link.outbox = s.link.outbox) :
    Responded m rest res c b s (settle (placeResponse m res c b t)) :=
  ⟨h1, by rw [← h2]; rfl⟩

/-- A request that is refused leaves all but the inbox and the outbox as it was. -/
theorem refused_request {row : ReqRow} {m : Msg} {rest : List Msg} {s : State} {e : Result}
    {act : List Byte → State → Answer} (h : Taken row m rest s)
    (hact : act m.body (s.withInbox rest) = .error e) :
    ∃ t, takeRequest row act s = .next t ∧ ChangesOnly [.inbox, .outbox] s t
      ∧ Responded m rest e false [] s t := by
  refine ⟨_, takeRequest_of_taken h act, ?_, ?_⟩
  · rw [hact]
    apply changesOnly_settle
    intro p hp
    simp only [List.mem_cons, List.not_mem_nil, not_or, or_false] at hp
    exact (same_placeResponse p hp.2 ..).2 (same_withInbox p hp.1 rest s)
  · rw [hact]; exact responded_settle rfl rfl

/-- An accepted request changes the parts its action changes, the inbox and the outbox. -/
theorem accepted_request {row : ReqRow} {m : Msg} {rest : List Msg} {s : State} {r : Reply}
    {ps : List Part} {act : List Byte → State → Answer} (h : Taken row m rest s)
    (hact : act m.body (s.withInbox rest) = .ok r)
    (hin : r.st.link.inbox = rest) (hout : r.st.link.outbox = s.link.outbox)
    (hps : ∀ p, p ∉ ps → p ≠ .inbox → p ≠ .outbox → p.same s r.st) :
    takeRequest row act s = .next (settle (placeResponse m .ok r.clamped r.body r.st))
      ∧ ChangesOnly (ps ++ [.inbox, .outbox]) s (settle (placeResponse m .ok r.clamped r.body r.st))
      ∧ Responded m rest .ok r.clamped r.body s
          (settle (placeResponse m .ok r.clamped r.body r.st)) := by
  refine ⟨by rw [takeRequest_of_taken h, hact]; rfl, ?_, responded_settle hin hout⟩
  apply changesOnly_settle
  intro p hp
  simp only [List.mem_append, List.mem_cons, List.not_mem_nil, not_or, or_false] at hp
  exact (same_placeResponse p hp.2.2 ..).2 (hps p hp.1 hp.2.1 hp.2.2)

/-- A request command either changes nothing or answers the oldest message of the inbox. -/
theorem takeRequest_cases (row : ReqRow) (act : List Byte → State → Answer) (s : State) :
    takeRequest row act s = .next s ∨
      ∃ m rest, s.link.inbox = m :: rest ∧ s.phase = .ready ∧ rowOf m = row
        ∧ s.link.outbox.length < Config.linkSlots
        ∧ takeRequest row act s = .next (settle (answer m (s.withInbox rest)
            (if m.lengthOk then act m.body (s.withInbox rest) else .error .badFormat))) := by
  unfold takeRequest takeable
  split
  · exact .inl rfl
  · rename_i m s1 h
    split at h
    · exact absurd h (by simp)
    · rename_i m' rest hin
      split at h
      · rename_i hc
        injection h with h; injection h with h1 h2
        subst h1
        refine .inr ⟨m', rest, hin, hc.1, hc.2.1, hc.2.2, ?_⟩
        rw [← h2]; rfl
      · exact absurd h (by simp)

/-- What an action keeps, and the taking and the answering keep, the request keeps. -/
theorem takeRequest_keeps {I : State → Prop} {row : ReqRow} {act : List Byte → State → Answer}
    (hin : ∀ s rest, I s → I (s.withInbox rest))
    (hout : ∀ s m r c b, I s → I (placeResponse m r c b s)) (hset : ∀ s, I s → I (settle s))
    (hact : ∀ b s r, I s → act b s = .ok r → I r.st) {s t : State} (hI : I s)
    (h : takeRequest row act s = .next t) : I t := by
  obtain h1 | ⟨m, rest, -, -, -, -, h1⟩ := takeRequest_cases row act s
  · rw [h1] at h; injection h with h; exact h ▸ hI
  · rw [h1] at h; injection h with h; subst h
    apply hset
    split
    · cases hx : act m.body (s.withInbox rest) with
      | error e => exact hout _ _ _ _ _ (hin _ _ hI)
      | ok r => exact hout _ _ _ _ _ (hact _ _ _ (hin _ _ hI) hx)
    · exact hout _ _ _ _ _ (hin _ _ hI)

end Sys2Proof.Machine
end

