-- ==== Sys2Proof/WellFormed.lean ====
section
/-! DEFINITION. Which commands are well formed: the operands a command's own row allows. -/

namespace Sys2Proof

open Sys2Proof.Machine

/-- Whether a command's operands are those its row of the table speaks of. An uplink command carries 16
bytes (R186); UPLINK_PURGE one that is purged, CHECKIN and ASK one that is that message in form (R112);
VOID_OPERATION an operation byte that names no operation (R157, R182). Every other operand is of a type that
holds just the values its row allows. -/
def Instr.wf : Instr → Bool
  | .uplinkPurge _ good msg => decide (msg.length = 16) && isPurged good msg
  | .checkin _ msg => (checkin? msg).isSome
  | .ask _ msg => (ask? msg).isSome
  | .voidOperation op _ => (operation? op).isNone
  | .showOpen | .showClose | .showWindow | .syncMode | .timelineReport | .cuePost | .cueData
  | .cueRevise | .cueWithdraw | .cueQueryByCue | .cueQueryByTrack | .rxIssue | .rxMove | .rxReturn
  | .rxLookup | .rxList | .rxCounts | .laneStart | .laneStop | .setSetting | .getSetting | .status
  | .statusClear | .statusForce | .counters | .identify | .restart | .badKind | .writeMsg
  | .writeMsgEnd _ | .readMsg | .readMsgEnd _ | .readState _ | .pinReset | .leaveReset
  | .startUpCompletion | .activeEdge _ _ | .gateActive _ | .gateRelease _ | .coastDeadline _
  | .timelineLossDeadline _ | .joinDeadlineExpiry _ | .silenceDeadlineExpiry _
  | .lossDeadlineExpiry _ | .laneBoundary _ | .buildComplete _ | .sent _ | .rfReadyRelease _
  | .rfReadyAssert _ | .siteTimeAdvance | .buildProgress _ => true

end Sys2Proof
end

