-- ==== Sys2Proof/Tests/Slice0.lean ====
section
/-! SUPPORT. The model's own tests: what the checks of WellFormed refuse, figures from the manual's
worked examples, and for each statement a state and operands that meet its hypotheses. -/

open Sys2Proof Sys2Proof.Machine

namespace Sys2Proof.Tests

-- One theorem at a time: elaborated side by side, so many kernel evaluations ask for a thread each.
set_option Elab.async false

/-! ### Helpers -/

/-- A request message as a master writes it, tag 0x55. -/
def msg (kind : Nat) (body : List Byte) : Msg :=
  ⟨be8 kind ++ [0x55] ++ be16 body.length ++ body, 4 + body.length⟩

/-- A state with one request waiting. -/
def asked (kind : Nat) (body : List Byte) (s : State) : State := s.withInbox [msg kind body]

/-- The state after a command. -/
def after1 (c : Instr) (s : State) : State :=
  match exec c s with
  | .next t => t
  | _ => s

/-- The response that a command placed last, as the master reads it. -/
def response (s : State) : List Byte := (s.link.outbox.getLast?.map responseBytes).getD []

/-- The caption of the example show. -/
def line44 : Cue :=
  { slot := 0, aud := 7, track := 0, num := 44, kind := .caption, inP := 6000, outP := 7000, rev := 0,
    declared := 60, fill := 60, off := 0, blocks := [0], attrs := some defaultAttrs,
    delivery := .waiting, phase := .ahead, air := 0, late := false, relaunch := false,
    repeatDue := false, underrun := false }

/-- A receiver of the example show. -/
def rx0 : RxRec :=
  { index := 0, serial := 17, kind := .captionDisplay, state := .joined, aud := 7, track := 0,
    seat := [], issuedAt := 100, heard := some ⟨900, .A, 1, 1, 0⟩, poor := false, unmatched := false,
    movedFrom := none, loss := none, joinDl := none, silenceDl := some 990, lossDl := some 120900,
    marks := ⟨none, none⟩ }

/-- The example show: auditorium 7 open on lane A, a caption track with one cue and one receiver, and a
description track with none. -/
def show7 : Show :=
  { lane := .A, cueCount := 1
    tracks :=
      [{ kind := .caption, lang := ⟨0x65, 0x6e, 0x67⟩, base := 0, limit := 199, listeners := 1,
         lastDone := some 43, lineup := [0] },
       { kind := .clip, lang := ⟨0x65, 0x6e, 0x67⟩, base := 0, limit := 49, listeners := 0,
         lastDone := none, lineup := [] }] }

/-- The Timeline of the example show, RUNNING at position 5,000. -/
def running7 : Timeline :=
  { state := .running, anchor := some ⟨1000, 5000⟩, rate := 65536, frozen := none, epoch := 13,
    strikes := 0, candidate := none, lastAccepted := some 1000, lastKind := some .playing,
    gated := false }

/-- The part ready at site time 1,000, the example show open. -/
def night : State :=
  settle { State.reset with
    phase := .ready, clock := ⟨1000, ⟨true, false⟩⟩
    timelines := vput State.reset.timelines 7 running7
    directory := vput State.reset.directory 7 (some show7)
    table := ⟨[line44], List.range' 1 1023, []⟩, roster := [rx0]
    lanes := ⟨Lane.reset true, Lane.reset true⟩ }

/-- A lane of `night` put in a state of its own. -/
def nightLane (x : Lane) : State := night.withLane .A x

/-! ### The example state meets the invariants -/

theorem night_memWf : Memory.wf night.table.payload = true := rfl

theorem night_judged : Judged night := judged_settle _

theorem night_link : LinkOk night := ⟨by decide, by decide, by intro m hm; cases hm⟩

theorem night_settings : SettingsOk night :=
  ⟨fun k => by cases k <;> decide +kernel, by decide +kernel, by decide +kernel⟩

theorem night_lanes : LanesOk night := by
  intro l
  cases l <;> exact ⟨by decide, by decide, ⟨rfl, rfl⟩, by decide, by decide, by decide⟩

theorem night_lists : ListsOk night := by
  intro l
  cases l <;> exact ⟨by decide, by decide, by decide, by decide, by decide⟩

theorem night_timeline (a : Aud) : night.timeline a = if a = 7 then running7 else Timeline.reset := by
  have h : night.timeline a = (vput State.reset.timelines 7 running7).get a := rfl
  rw [h, vput_get]
  split <;> first | rfl | simp [State.reset]

theorem night_theShow (a : Aud) : night.theShow? a = if a = 7 then some show7 else none := by
  have h : night.theShow? a = (vput State.reset.directory 7 (some show7)).get a := rfl
  rw [h, vput_get]
  split <;> first | rfl | simp [State.reset]

theorem night_timelines : TimelinesOk night := by
  intro a
  rw [night_timeline, State.isOpen, night_theShow]
  by_cases h : a = 7
  · simp only [h, if_true]
    refine ⟨⟨by decide, by decide, ?_, ?_, by decide, by decide, by decide⟩, by decide⟩
    · intro p hp; injection hp with hp; subst hp; decide
    · intro p hp; cases hp
  · simp only [h, if_false]
    refine ⟨⟨by decide, by decide, ?_, ?_, by decide, by decide, by decide⟩, by decide⟩
    · intro p hp; cases hp
    · intro p hp; cases hp

theorem night_counters : CountersOk night := by
  constructor
  · intro a c
    have : night.audCounters = Vector.replicate 24 (Vector.replicate 8 0) := rfl
    simp [State.audCount, this]
  · intro l c; cases l <;> cases c <;> decide +kernel

theorem night_roster : RosterOk night := ⟨by decide, by decide⟩

theorem night_lineup (a : Aud) (t : Track) :
    night.lineup a t = if a = 7 ∧ t = 0 then [0] else [] := by
  have h : night.track? a t = (night.theShow? a).bind fun w => w.tracks[t.val]? := rfl
  rw [State.lineup, h, night_theShow]
  by_cases ha : a = 7
  · simp only [ha, if_true, Option.bind_some, true_and]
    match t with
    | 0 => rfl
    | 1 => rfl
    | 2 => rfl
    | 3 => rfl
  · simp [ha]

theorem night_cues : CueTableOk night := by
  refine ⟨by decide, ?_, ?_, ?_, ?_, ?_⟩
  · intro c hc
    have : c = line44 := List.mem_singleton.1 hc
    subst this; decide
  · intro a t; rw [night_lineup]; split <;> simp
  · intro a t k
    have h : ∀ c, c ∈ night.table.cues ↔ c = line44 := fun c => List.mem_singleton
    simp only [night_lineup, h, exists_eq_left]
    constructor
    · split
      · rename_i hat; intro hk
        exact ⟨(List.mem_singleton.1 hk).symm, hat.1.symm, hat.2.symm⟩
      · intro hk; cases hk
    · rintro ⟨rfl, rfl, rfl⟩; decide
  · intro a w hw
    rw [night_theShow] at hw
    split at hw
    · injection hw with hw; subst hw; rfl
    · cases hw
  · have h1 : night.table.free ++ night.table.cues.flatMap Cue.blocks = List.range' 1 1023 ++ [0] := rfl
    have h2 : List.range 1024 = [0] ++ List.range' 1 1023 := by decide +kernel
    show List.Perm _ (List.range 1024)
    rw [h1, h2]
    exact List.perm_append_comm

theorem night_lineups : LineupsOk night := by
  refine ⟨by decide, ?_, by decide⟩
  intro a t
  rw [night_lineup]
  split <;> simp

theorem night_track {a : Aud} {t : Track} {w : TrackRec} (h : night.track? a t = some w) :
    a = 7 ∧ show7.tracks[t.val]? = some w := by
  rw [State.track?, night_theShow] at h
  by_cases ha : a = 7
  · simp only [ha, if_true, Option.bind_some] at h
    exact ⟨ha, h⟩
  · simp [ha] at h

theorem night_listeners : ListenersOk night := by
  refine ⟨by decide +kernel, ?_⟩
  intro a t w h
  obtain ⟨rfl, h⟩ := night_track h
  match t with
  | 0 => injection h with h; subst h; decide +kernel
  | 1 => injection h with h; subst h; decide +kernel
  | 2 => cases h
  | 3 => cases h

theorem night_repairs : RepairsOk night := by
  intro l e he; cases l <;> cases he

theorem night_conditions : ConditionsFollow night := by
  refine ⟨by decide +kernel, by decide +kernel, ?_, by decide +kernel⟩
  constructor
  · intro h; exact absurd h (by decide +kernel)
  · rintro ⟨l, hl⟩; cases l <;> exact absurd hl (by decide +kernel)

/-! ### Figures from the manual -/

/-- The ill-formed commands that each check of WellFormed refuses: an uplink message of 15 bytes, one
that is no CHECKIN, one that is no ASK, a void operation whose byte names an operation. -/
theorem test_wf_refuses :
    (Instr.uplinkPurge .A false (List.replicate 15 0)).wf = false
      ∧ (Instr.checkin .A (List.replicate 16 0)).wf = false
      ∧ (Instr.ask .A (be8 0x22 ++ be16 512 ++ List.replicate 13 0)).wf = false
      ∧ (Instr.voidOperation 0x20 3).wf = false := by decide +kernel

/-- Section 2.9: the prediction at 1,011,580 from the anchor (1,009,600, 610,003) at rate 68,267. -/
theorem test_projection : projectFrom ⟨1009600, 610003⟩ 68267 1011580 = 612065 := by decide +kernel

/-- R25: a projection to before the anchor rounds toward minus infinity and saturates at 0. -/
theorem test_projection_back : projectFrom ⟨1000, 5⟩ 65537 999 = 3
    ∧ projectFrom ⟨1000, 5⟩ 65536 900 = 0 := by decide +kernel

/-- R117: the five lags of its table. -/
theorem test_lags :
    [lagBetween 45 42, lagBetween 45 45, lagBetween 2 65534, lagBetween 45 50, lagBetween 900 100]
      = [3, 0, 4, 0, 255] := by decide +kernel

/-- R18: the boundaries of both lanes around the wrap of site time are 16 ms apart. -/
theorem test_wrap_boundaries :
    nextBoundary .A 4294967280 = 0 ∧ nextBoundary .B 4294967290 = 10
      ∧ nextBoundary .A 1000 = 1020 ∧ nextBoundary .B 1000 = 1010 := by decide +kernel

/-- Section 3.6: 2,600 bytes need 11 blocks, 300 need 2. -/
theorem test_blocks : blocksFor 2600 = 11 ∧ blocksFor 300 = 2 ∧ blocksFor 256 = 1 := by decide

/-- Section 7.6: 240 of 240 bytes fit in 376, 236 in 256, and nothing in 35. -/
theorem test_repair_shortening :
    fitClip 240 376 = some 240 ∧ fitClip 240 256 = some 236 ∧ fitClip 240 35 = none := by decide

/-- R49: byte 300 of a cue that holds blocks 14 and 15 is byte 44 of block 15. -/
theorem test_payload_address : payloadAddr [14, 15] 300 = some (15 * 256 + 44) := by decide

/-- R169: the bytes of an IDENTIFY response. -/
theorem test_identify : response (after1 .identify (asked 25 [] night)) =
    [25, 0x55, 0, 0, 0, 10, 9, 0x92, 3, 24, 2, 0, 8, 0, 4, 0] := by decide +kernel

/-- R54: a post takes slot 1 and block 1, and stands after cue 44 in the lineup. -/
theorem test_post :
    response (after1 .cuePost (asked 6
      ([7, 0] ++ be16 45 ++ [0, 0, 0] ++ be32 6001 ++ be32 7000 ++ be16 300 ++ [1, 2, 3]) night)) =
      [6, 0x55, 0, 0, 0, 10] ++ be16 1 ++ be16 1 ++ [0, 2] ++ be16 1021 ++ be16 2046 := by
  decide +kernel

/-- R61, R62: a WAITING cue is withdrawn without a notice; its block comes back. -/
theorem test_withdraw :
    response (after1 .cueWithdraw (asked 9 ([7, 0] ++ be16 44) night)) =
      [9, 0x55, 0, 0, 0, 4] ++ be8 (noticeOutcomeCode .notNeeded) ++ [1] ++ be16 1024 := by
  decide +kernel

/-- R4: a SHOW_OPEN for an open auditorium is refused with BUSY. -/
theorem test_open_busy :
    response (after1 .showOpen (asked 1 [7, 0, 1, 0, 0x65, 0x6e, 0x67, 0, 0, 0, 9] night)) =
      [1, 0x55, BitVec.ofNat 8 (resultCode .busy), 0, 0, 0] := by decide +kernel

/-- R167: a REPORT_TIMEOUT of 60,000 is bounded to 10,000; the response is flagged. -/
theorem test_set_bounds :
    response (after1 .setSetting (asked 19 (be8 3 ++ be32 60000) night)) =
      [19, 0x55, 0, 4, 0, 14, 3] ++ be32 2000 ++ be32 10000 ++ be8 4 ++ be32 10000 := by
  decide +kernel

/-- R31: a report 8 ahead of the projection snaps; one 9 ahead is held as a strike. -/
theorem test_report_lock :
    ((after1 .timelineReport (asked 5 ([7, 0] ++ be32 5008) night)).timeline 7).anchor
        = some ⟨1000, 5008⟩
      ∧ ((after1 .timelineReport (asked 5 ([7, 0] ++ be32 5009) night)).timeline 7).candidate
        = some 9 := by decide +kernel

/-- Section 2.10: a gate holds the Timeline where the film stands. -/
theorem test_gate :
    ((after1 (.gateActive 7) (night.withSync 7 ⟨false, .gateHigh, none, false⟩)).timeline 7).frozen
      = some 5000 := by decide +kernel

/-- R92, R95: the first build after a start at 1,000 is for the boundary at 1,020. -/
theorem test_lane_start :
    response (after1 .laneStart (asked 17 [0] night)) = [17, 0x55, 0, 0, 0, 7, 0, 1] ++ be32 1020 ++ [0] := by
  decide +kernel

/-- R112: an ASK with a short address of 512 fails the form test. -/
theorem test_ask_form : ask? (be8 0x22 ++ be16 512 ++ List.replicate 13 0) = none
    ∧ (ask? (be8 0x22 ++ be16 511 ++ List.replicate 13 0)).isSome = true := by decide +kernel

/-- R160: a READ_MSG with nothing to read sends the port state bytes and an empty header. -/
theorem test_read_empty :
    (after1 (.readMsgEnd 7) (after1 .readMsg night)).link.miso = [0x88, 0, 0, 0, 0, 0, 0, 0] := by
  decide +kernel

/-! ### A state and operands for each statement -/

/-- Whether a command has a next state. -/
def answers (c : Instr) (s : State) : Bool :=
  match exec c s with
  | .next _ => true
  | _ => false

theorem exec_after1 {c : Instr} {s : State} (h : answers c s = true) : exec c s = .next (after1 c s) := by
  unfold answers at h; unfold after1; split at h <;> simp_all

/-- The example state with SITE_TIME_ADVANCE waiting. -/
def ticking : State := { night with pending := [.siteTimeAdvance] }

theorem ticking_steps : ∃ t, step ticking = .next t := ⟨_, rfl⟩

theorem witness_StepRunsTheFrontCommand :
    ticking.pending = .siteTimeAdvance :: [] ∧ State.reset.pending = [] := ⟨rfl, rfl⟩

theorem witness_SummaryFlagsAreAlwaysJudged : Judged ticking ∧ ∃ t, step ticking = .next t :=
  ⟨night_judged, ticking_steps⟩
theorem witness_LinkStaysWithinItsSlots : LinkOk ticking ∧ ∃ t, step ticking = .next t :=
  ⟨night_link, ticking_steps⟩
theorem witness_SettingsStayInRange : SettingsOk ticking ∧ ∃ t, step ticking = .next t :=
  ⟨night_settings, ticking_steps⟩
theorem witness_LaneBuffersStayExclusive : LanesOk ticking ∧ ∃ t, step ticking = .next t :=
  ⟨night_lanes, ticking_steps⟩
theorem witness_ListsStayBounded :
    ListsOk ticking ∧ CueTableOk ticking ∧ LineupsOk ticking ∧ RepairsOk ticking
      ∧ ∃ t, step ticking = .next t :=
  ⟨night_lists, night_cues, night_lineups, night_repairs, ticking_steps⟩
theorem witness_TimelinesKeepTheirShape : TimelinesOk ticking ∧ ∃ t, step ticking = .next t :=
  ⟨night_timelines, ticking_steps⟩
theorem witness_CountersStaySixteenBits : CountersOk ticking ∧ ∃ t, step ticking = .next t :=
  ⟨night_counters, ticking_steps⟩
theorem witness_RosterStaysDistinct :
    RosterOk ticking ∧ ListenersOk ticking ∧ ∃ t, step ticking = .next t :=
  ⟨night_roster, night_listeners, ticking_steps⟩
theorem witness_CueTableStaysConsistent :
    CueTableOk ticking ∧ LineupsOk ticking ∧ ∃ t, step ticking = .next t :=
  ⟨night_cues, night_lineups, ticking_steps⟩
theorem witness_CurrentConditionsFollowTheState :
    SettingsOk ticking ∧ ConditionsFollow ticking ∧ ∃ t, step ticking = .next t :=
  ⟨night_settings, night_conditions, ticking_steps⟩
theorem witness_PayloadStoreStaysCanonical :
    Memory.wf ticking.table.payload = true ∧ ∃ t, step ticking = .next t := ⟨night_memWf, ticking_steps⟩

/-- A SHOW_OPEN of auditorium 3 on lane B with one caption track. -/
def openBody : List Byte := [3, 1, 1, 0, 0x65, 0x6e, 0x67, 0, 0, 0, 9]

theorem witness_EpochChangesOnlyAtOpensAndReports :
    ∃ t, exec .showOpen (asked 1 openBody night) = .next t
      ∧ (t.timeline 3).epoch ≠ ((asked 1 openBody night).timeline 3).epoch :=
  ⟨_, exec_after1 (by decide +kernel), by decide +kernel⟩

theorem witness_ForcedFlagsAndSettingsKeep : ∃ t, exec .siteTimeAdvance night = .next t :=
  ⟨_, exec_after1 (by decide +kernel)⟩

theorem witness_ShowKeepsItsLaneAndFaultsLast :
    (∃ t, exec .showClose (asked 2 [7] night) = .next t)
      ∧ (asked 2 [7] night).laneOf? 7 = some .A
      ∧ (∃ t, exec .laneStop (asked 18 [0] (nightLane { Lane.reset true with state := .fault })) = .next t)
      ∧ ((nightLane { Lane.reset true with state := .fault }).lane .A).state = .fault :=
  ⟨⟨_, exec_after1 (by decide +kernel)⟩, by decide +kernel, ⟨_, exec_after1 (by decide +kernel)⟩,
    by decide +kernel⟩

theorem witness_RefusedRequestChangesNothing :
    ∃ t r, exec .showClose (asked 2 [24] night) = .next t
      ∧ t.link.outbox = (asked 2 [24] night).link.outbox ++ [r] ∧ r.result ≠ .ok :=
  ⟨_, ⟨2, 0x55, .badFormat, false, false, false, []⟩, exec_after1 (by decide +kernel),
    by decide +kernel, by decide⟩

/-- The example state with a full outbox. -/
def fullOut : State :=
  { night with
    link := { night.link with outbox := List.replicate 8 ⟨21, 1, .ok, false, false, false, []⟩ } }

theorem witness_EngineWaitsForTheOutbox :
    (Config.linkSlots ≤ (asked 21 [] fullOut).link.outbox.length ∧ (msg 21 []).isRestart = false)
      ∧ ({ night with phase := .startUp } : State).phase ≠ .ready := by decide +kernel

theorem witness_BadHeadersAreRefused :
    (∀ m ∈ [(⟨[], 0⟩ : Msg), ⟨[1, 2, 3], 3⟩, msg 0 [], msg 27 [], ⟨[21, 0, 0, 1], 4⟩],
        rowOf m = .badKind ∨ m.lengthOk = false)
      ∧ night.link.outbox.length < Config.linkSlots ∧ night.phase = .ready := by decide +kernel

theorem witness_IdentifyGivesThePart :
    Taken .identify (msg 25 []) [] (asked 25 [] night) ∧ (msg 25 []).body = []
      ∧ Taken .identify (msg 25 [1]) [] (asked 25 [1] night) ∧ (msg 25 [1]).body ≠ [] := by
  unfold Taken; decide +kernel

theorem witness_GetReadsTheSettings :
    (∀ n ∈ [0, 1, 25, 26], Taken .getSetting (msg 20 (be8 n)) [] (asked 20 (be8 n) night))
      ∧ (msg 20 [1]).body = be8 (settingNumber .tLock)
      ∧ (msg 20 [25]).body = be8 (settingNumber .attnOnStatus) ∧ (msg 20 [0]).body = [0]
      ∧ 25 < rd8 (msg 20 [26]).body 0
      ∧ Taken .getSetting (msg 20 []) [] (asked 20 [] night) ∧ (msg 20 []).body.length ≠ 1 := by
  unfold Taken; decide +kernel

theorem witness_QueriesOnlyAnswer :
    (Taken .cueQueryByCue (msg 10 ([0, 7, 0] ++ be16 44)) [] (asked 10 ([0, 7, 0] ++ be16 44) night)
        ∧ cueQueryByCue? ([0, 7, 0] ++ be16 44) = some ⟨7, 0, 44⟩
        ∧ (night.track? 7 0).isSome = true ∧ night.findCue 7 0 44 = some line44)
      ∧ (Taken .cueQueryByTrack (msg 10 [1, 7, 1]) [] (asked 10 [1, 7, 1] night)
        ∧ cueQueryByTrack? [1, 7, 1] = some (7, 1) ∧ (night.track? 7 1).isSome = true)
      ∧ (Taken .rxLookup (msg 14 [0, 0, 1, 0xFF]) [] (asked 14 [0, 0, 1, 0xFF] night)
        ∧ rxNamed? [0, 0, 1, 0xFF] = some (.index 511))
      ∧ (Taken .rxLookup (msg 14 [1, 0, 0, 17]) [] (asked 14 [1, 0, 0, 17] night)
        ∧ rxNamed? [1, 0, 0, 17] = some (.serial 17) ∧ (night.rxNamed (.serial 17)).isSome = true)
      ∧ (Taken .rxList (msg 15 [0xFF, 0xFF, 0, 0]) [] (asked 15 [0xFF, 0xFF, 0, 0] night)
        ∧ rxList? [0xFF, 0xFF, 0, 0] = some ⟨.any, none, 0⟩)
      ∧ (∀ b ∈ [[0xFF, 7, 0x01, 0xFF], [0, 0xFF, 0, 0], [2, 7, 0, 0]],
        Taken .rxList (msg 15 b) [] (asked 15 b night) ∧ (rxList? b).isSome = true)
      ∧ (Taken .rxCounts (msg 16 []) [] (asked 16 [] night) ∧ (msg 16 []).body = [])
      ∧ (Taken .counters (msg 24 []) [] (asked 24 [] night) ∧ (msg 24 []).body = []) := by
  unfold Taken; decide +kernel

/-- The stops of the queries: a CLOSED auditorium, a missing track, a missing cue, a FREE record by its
index, and a serial that no record holds. -/
theorem witness_QueriesOnlyAnswer_stops :
    (∀ q ∈ [(⟨3, 0, 44⟩ : CueRef), ⟨7, 3, 44⟩, ⟨7, 0, 45⟩],
        let b := be8 0 ++ be8 q.aud ++ be8 q.track ++ be16 q.num
        Taken .cueQueryByCue (msg 10 b) [] (asked 10 b night) ∧ cueQueryByCue? b = some q)
      ∧ (∀ q ∈ [((3 : Aud), (0 : Track)), (7, 3)],
        let b := be8 1 ++ be8 q.1 ++ be8 q.2
        Taken .cueQueryByTrack (msg 10 b) [] (asked 10 b night) ∧ cueQueryByTrack? b = some q)
      ∧ night.isOpen 3 = false ∧ night.isOpen 7 = true ∧ night.track? 7 3 = none
      ∧ (night.track? 7 0).isSome = true ∧ night.findCue 7 0 45 = none
      ∧ night.rx? 511 = none
      ∧ Taken .rxLookup (msg 14 [1, 0, 0, 18]) [] (asked 14 [1, 0, 0, 18] night)
      ∧ rxNamed? [1, 0, 0, 18] = some (.serial 18) ∧ night.rxBySerial? 18 = none := by
  unfold Taken; decide +kernel

/-- Pages of an RX_LIST of the FREE records: full with more to follow, full up to 511, and short. -/
theorem witness_QueriesOnlyAnswer_pages :
    (∀ n ∈ [0, 479, 480, 481],
        let b := be8 0 ++ be8 0xFF ++ be16 n
        Taken .rxList (msg 15 b) [] (asked 15 b night) ∧ rxList? b = some ⟨.free, none, n⟩)
      ∧ ([0, 480, 481, 511].map fun n =>
          ((response (after1 .rxList (asked 15 (be8 0 ++ be8 0xFF ++ be16 n) night))).drop 6).take 3)
        = [[32, 0, 33], [32, 0xFF, 0xFF], [31, 0xFF, 0xFF], [1, 0xFF, 0xFF]] := by
  unfold Taken; decide +kernel

theorem witness_SetBoundsTheValue :
    ∀ k ∈ [Setting.tLock, .coastLimit, .lostAfter, .reportTimeout, .silentAfter, .poolLowMark],
      ∀ v ∈ [(settingRange k).1 - 1, (settingRange k).1, (settingRange k).2, (settingRange k).2 + 1],
        Taken .setSetting (msg 19 (be8 (settingNumber k) ++ be32 v)) []
            (asked 19 (be8 (settingNumber k) ++ be32 v) night)
          ∧ set? (be8 (settingNumber k) ++ be32 v) = some (k, v)
          ∧ k ≠ .faultMask ∧ k ≠ .noticeMask := by
  unfold Taken; decide +kernel

theorem witness_SetOfAMaskDropsNamelessMembers :
    ∀ k ∈ [Setting.faultMask, .noticeMask], ∀ v ∈ [0, 65535, 65536],
      Taken .setSetting (msg 19 (be8 (settingNumber k) ++ be32 v)) []
          (asked 19 (be8 (settingNumber k) ++ be32 v) night)
        ∧ set? (be8 (settingNumber k) ++ be32 v) = some (k, v)
        ∧ (k = .faultMask ∨ k = .noticeMask) := by
  unfold Taken; decide +kernel

theorem witness_RestartKeepsOnlyTheSettings :
    (asked 26 [] fullOut).phase = .ready ∧ (asked 26 [] fullOut).link.inbox = [msg 26 []]
      ∧ rowOf (msg 26 []) = .restart ∧ (msg 26 []).delivered = 4 ∧ (msg 26 []).bodyLength = 0
      ∧ Taken .restart (msg 26 [1]) [] (asked 26 [1] night) ∧ (msg 26 [1]).bodyLength ≠ 0 := by
  unfold Taken; decide +kernel

/-- The example state with so many messages waiting. -/
def waiting (n : Nat) : State := night.withInbox (List.replicate n (msg 21 []))

/-- The example state after CS_N fell while the first port state byte was as given. -/
def selected (b : Byte) : State := { night with link := { night.link with csSample := some b } }

/-- A part held in reset. -/
def resetNight : State := { night with phase := .inReset }

theorem witness_WriteMsgDeliversOrOverflows :
    (night.phase ≠ .inReset ∧ night.link.txn = none)
      ∧ ((selected 0x81).link.txn = none ∧ (selected 0x81).link.csSample = some 0x81)
      ∧ (resetNight.link.txn = none ∧ resetNight.phase ≠ .ready)
      ∧ ({ night with phase := .startUp } : State).link.txn = none
      ∧ (waiting 7).link.inbox.length < Config.linkSlots ∧ (waiting 7).link.txn = none
      ∧ Config.linkSlots ≤ (waiting 8).link.inbox.length ∧ (waiting 8).link.txn = none := by
  decide +kernel

theorem witness_ReadMsgReadsTheOldestResponse :
    (night.phase = .ready ∧ night.link.txn = none ∧ night.link.outbox = [])
      ∧ (fullOut.phase = .ready ∧ fullOut.link.txn = none ∧ fullOut.link.outbox =
        ⟨21, 1, .ok, false, false, false, []⟩
          :: List.replicate 7 ⟨21, 1, .ok, false, false, false, []⟩)
      ∧ ((selected 0x81).phase = .ready ∧ (selected 0x81).link.txn = none)
      ∧ (resetNight.phase ≠ .ready ∧ resetNight.link.txn = none) := by decide +kernel

theorem witness_PortStateReadsChangeNothing :
    night.link.txn = none ∧ ((0x31 : Byte) ≠ 0x10 ∧ (0x31 : Byte) ≠ 0x20 ∧ (0x31 : Byte) ≠ 0x30)
      ∧ State.reset.phase ≠ .ready
      ∧ (∃ x ∈ (after1 .writeMsg night).link.txn.toList, x.begun = false ∧ x.kind = .write true)
      ∧ ∃ x ∈ (after1 .readMsg resetNight).link.txn.toList, x.begun = false ∧ x.kind = .read false := by
  decide +kernel

/-- A state with a full outbox. -/
def answered (s : State) : State := { s with link := { s.link with outbox := fullOut.link.outbox } }

/-- R158: a response that comes in between shows in the second port state byte when that byte begins
after it, and the first byte stays as it was sampled when CS_N fell. -/
theorem test_port_bytes_sampled :
    (after1 (.writeMsgEnd [1, 2]) (after1 (.readState .secondByte)
        (answered (after1 .writeMsg (after1 (.readState .firstByte) night))))).link.miso = [0x88, 8, 0]
      ∧ (after1 .readMsg (after1 (.readState .firstByte) night)).link.csSample = none := by
  decide +kernel

/-- R170: in reset a whole READ_MSG sends zeros. -/
theorem test_reset_sends_zeros :
    (after1 (.readMsgEnd 3) (after1 .readMsg (answered resetNight))).link.miso
      = [0, 0, 0, 0] := by decide +kernel

theorem witness_PinResetRestoresEveryBlock :
    resetNight.phase = .inReset ∧ ({ night with phase := .startUp } : State).phase = .startUp
      ∧ State.reset.phase = .startUp := by decide +kernel

theorem witness_SiteTimeAdvancesByOne :
    night.phase ≠ .inReset
      ∧ ({ night with clock := ⟨4294967295, ⟨false, false⟩⟩ } : State).phase ≠ .inReset := by
  decide +kernel

theorem witness_ActiveEdgeIsCaptured :
    ∀ x ∈ [(⟨false, .rise, none, false⟩ : SyncInput), ⟨false, .rise, some 900, false⟩,
        ⟨false, .fall, none, false⟩, ⟨false, .noneMode, none, false⟩],
      (night.withSync 7 x).phase ≠ .inReset ∧ ((night.withSync 7 x).syncIn 7).level ≠ true
        ∧ ((night.withSync 7 x).syncIn 7).sens.gateLevel? = none
        ∧ (night.withSync 7 x).isOpen 7 = true := by decide +kernel

/-- The example state, its sync line in GATE_HIGH at a level, its Timeline as given. -/
def gatedNight (level : Bool) (x : Timeline) : State :=
  (night.withSync 7 ⟨level, .gateHigh, none, level⟩).withTimeline 7 x

/-- A HELD Timeline at position 5,000. -/
def held7 (last : Option ReportKind) (gated : Bool) : Timeline :=
  { running7 with state := .held, anchor := none, frozen := some 5000, lastKind := last, gated := gated }

theorem witness_GateHoldsTheTimeline :
    ∀ x ∈ [running7, { running7 with state := .coasting }, held7 none false,
        { Timeline.reset with state := .acquiring }, { Timeline.reset with state := .stopped },
        { Timeline.reset with state := .lost }],
      (gatedNight false x).phase ≠ .inReset
        ∧ ((gatedNight false x).syncIn 7).sens.gateLevel? = some true
        ∧ ((gatedNight false x).syncIn 7).level ≠ true ∧ (gatedNight false x).isOpen 7 = true
        ∧ (gatedNight false x).timeline 7 = x
        ∧ (night.withSync 8 ⟨false, .gateHigh, none, false⟩).isOpen 8 = false
        ∧ ((night.withSync 8 ⟨false, .gateHigh, none, false⟩).syncIn 8).level ≠ true := by
  decide +kernel

theorem witness_GateReleaseLetsTheTimelineRun :
    ∀ x ∈ [held7 (some .paused) true, held7 (some .playing) true, held7 none true,
        { Timeline.reset with state := .acquiring, gated := true },
        { Timeline.reset with state := .stopped, gated := true },
        { Timeline.reset with state := .lost, gated := true }],
      (gatedNight true x).phase ≠ .inReset
        ∧ ((gatedNight true x).syncIn 7).sens.gateLevel? = some true
        ∧ ((gatedNight true x).syncIn 7).level = true ∧ (gatedNight true x).isOpen 7 = true
        ∧ (gatedNight true x).timeline 7 = x
        ∧ (night.withSync 8 ⟨true, .gateHigh, none, true⟩).isOpen 8 = false
        ∧ ((night.withSync 8 ⟨true, .gateHigh, none, true⟩).syncIn 8).level = true := by
  decide +kernel

theorem witness_SyncModeRewritesTheGate :
    ∀ b ∈ [[7, 0], [7, 3], [7, 4], [8, 2]],
      Taken .syncMode (msg 4 b) [] (asked 4 b night) ∧ (syncMode? b).isSome = true
        ∧ (asked 4 b night).isOpen 7 = true ∧ (asked 4 b night).isOpen 8 = false
        ∧ ((asked 4 b night).timeline 7).gated = false
        ∧ ((asked 4 b (gatedNight true (held7 none true))).timeline 7).gated = true
        ∧ Taken .syncMode (msg 4 b) [] (asked 4 b (gatedNight true (held7 none true)))
        ∧ Sens.gateHigh.gateLevel? = some ((gatedNight true (held7 none true)).syncIn 7).level
        ∧ Sens.gateLow.gateLevel? ≠ some ((gatedNight true (held7 none true)).syncIn 7).level := by
  unfold Taken; decide +kernel

/-- The example state at a site time. -/
def atTime (t : SiteTime) (s : State) : State := { s with clock := ⟨t, ⟨false, false⟩⟩ }

theorem witness_ReportDeadlinesCoastAndLose :
    ∀ n ∈ [2999, 3000, 10999, 11000],
      let t : SiteTime := BitVec.ofNat 32 n
      (atTime t night).phase ≠ .inReset ∧ ((atTime t night).timeline 7).lastAccepted = some 1000
        ∧ ((atTime t night).timeline 7).state = .running
        ∧ ((atTime t (night.withTimeline 7 { running7 with state := .coasting })).timeline 7).state
          = .coasting := by decide +kernel

theorem witness_ReportDeadlinesBoundaries :
    Machine.sdiff 2999 (after 1000 (night.setting .reportTimeout)) < 0
      ∧ 0 ≤ Machine.sdiff 3000 (after 1000 (night.setting .reportTimeout))
      ∧ Machine.sdiff 10999 (after 1000 (night.setting .coastLimit)) < 0
      ∧ 0 ≤ Machine.sdiff 11000 (after 1000 (night.setting .coastLimit)) := by decide +kernel

/-- A PLAYING report for auditorium 7. -/
def playing (pos : Nat) : List Byte := [7, 0] ++ be32 pos

theorem witness_ReportAcquiresTheTimeline :
    ∀ st ∈ [TLState.acquiring, .stopped, .lost], ∀ g ∈ [false, true], ∀ k ∈ [(0 : Byte), 1],
      Taken .timelineReport (msg 5 ([7, k] ++ be32 16777215)) []
          (asked 5 ([7, k] ++ be32 16777215)
            (night.withTimeline 7 { Timeline.reset with state := st, gated := g }))
        ∧ (timelineReport? ([7, k] ++ be32 16777215)).map (fun q => (q.aud, q.pos))
          = some (7, 16777215)
        ∧ (night.withTimeline 7 { Timeline.reset with state := st, gated := g }).isOpen 7 = true
        ∧ ((night.withTimeline 7 { Timeline.reset with state := st, gated := g }).timeline 7).state
          = st := by
  unfold Taken; decide +kernel

/-- A report for auditorium 7: kind and position. -/
def reportBody (k : Byte) (pos : Nat) : List Byte := [7, k] ++ be32 pos

theorem witness_ReportActsByTheState :
    (∀ k ∈ [((0 : Byte), ReportKind.playing), (1, .paused), (2, .stopped)],
        ∀ n ∈ [4991, 4992, 5008, 5009],
        ∀ x ∈ [running7, { running7 with state := .coasting }, held7 none false, held7 none true,
          { running7 with strikes := 1, candidate := some 9 }],
        Taken .timelineReport (msg 5 (reportBody k.1 n)) []
            (asked 5 (reportBody k.1 n) (night.withTimeline 7 x))
          ∧ timelineReport? (reportBody k.1 n) = some ⟨7, k.2, n, none⟩
          ∧ (night.withTimeline 7 x).isOpen 7 = true ∧ (night.withTimeline 7 x).timeline 7 = x
          ∧ (night.withTimeline 7 x).laneOf? 7 = some .A)
      ∧ (night.syncIn 7).sens ≠ .rise ∧ (night.syncIn 7).sens ≠ .fall
      ∧ projectFrom ⟨1000, 5000⟩ 65536 1000 = 5000 ∧ projectFrom ⟨1000, 5000⟩ 65536 990 = 4990
      ∧ night.setting .tLock = 8 ∧ night.setting .jumpConfirm = 2
      ∧ (night.withSetting .jumpConfirm 3).setting .jumpConfirm = 3
      ∧ Machine.sdiff night.clock.time 990 ≤ (night.setting .pairWindow : Int)
      ∧ ((night.withSync 7 ⟨true, .rise, some 990, false⟩).syncIn 7).capture = some 990 := by
  unfold Taken; decide +kernel

theorem witness_ReportActs_table (k : Byte) (n : Nat) (x : Timeline) :
    CueTableOk (asked 5 (reportBody k n) (night.withTimeline 7 x)) := night_cues

/-- The example show with so many listeners on each track. -/
def showOf (n : Nat) : Show :=
  { show7 with tracks := show7.tracks.map fun r => { r with listeners := n } }

/-- The example state with so many listeners on each track, and its one cue as given. -/
def cueNight (n : Nat) (c : Cue) : State :=
  { night with
    directory := vput State.reset.directory 7 (some (showOf n))
    table := { night.table with cues := [c] } }

theorem cueNight_theShow (n : Nat) (c : Cue) (a : Aud) :
    (cueNight n c).theShow? a = if a = 7 then some (showOf n) else none := by
  have h : (cueNight n c).theShow? a = (vput State.reset.directory 7 (some (showOf n))).get a := rfl
  rw [h, vput_get]
  split <;> first | rfl | simp [State.reset]

theorem cueNight_lineup (n : Nat) (c : Cue) (a : Aud) (t : Track) :
    (cueNight n c).lineup a t = if a = 7 ∧ t = 0 then [0] else [] := by
  have h : (cueNight n c).track? a t = ((cueNight n c).theShow? a).bind fun w => w.tracks[t.val]? := rfl
  rw [State.lineup, h, cueNight_theShow]
  by_cases ha : a = 7
  · simp only [ha, if_true, Option.bind_some, true_and]
    match t with
    | 0 => rfl
    | 1 => rfl
    | 2 => rfl
    | 3 => rfl
  · simp [ha]

/-- The Cue Table stays in accord whatever the phase, delivery, points and fill mark of its one cue. -/
theorem cueNight_cues {c : Cue} (n : Nat)
    (h : c.slot = 0 ∧ c.aud = 7 ∧ c.track = 0 ∧ c.blocks = [0] ∧ c.declared = 60 ∧ c.fill ≤ 60) :
    CueTableOk (cueNight n c) := by
  obtain ⟨hs, ha, ht, hb, hd, hf⟩ := h
  have hc : ∀ d, d ∈ (cueNight n c).table.cues ↔ d = c := fun d => List.mem_singleton
  refine ⟨by simp [cueNight], ?_, ?_, ?_, ?_, ?_⟩
  · intro d hd'
    rw [hc] at hd'; subst hd'
    rw [hs, hb, hd]
    exact ⟨by decide, by decide, hf⟩
  · intro a t; rw [cueNight_lineup]; split <;> simp
  · intro a t k
    simp only [cueNight_lineup, hc, exists_eq_left, hs, ha, ht]
    by_cases h7 : a = 7 ∧ t = 0
    · simp [h7, eq_comm]
    · rw [if_neg h7]
      simp only [List.not_mem_nil, false_iff, not_and]
      intro _ h1 h2; exact h7 ⟨h1.symm, h2.symm⟩
  · intro a w hw
    rw [cueNight_theShow] at hw
    split at hw
    · injection hw with hw; subst hw; rfl
    · cases hw
  · have h1 : (cueNight n c).table.free ++ (cueNight n c).table.cues.flatMap Cue.blocks
        = List.range' 1 1023 ++ [0] := by simp [cueNight, hb, night, settle]
    have h2 : List.range 1024 = [0] ++ List.range' 1 1023 := by decide +kernel
    rw [h1]
    show List.Perm _ (List.range 1024)
    rw [h2]
    exact List.perm_append_comm

theorem line44_shape :
    line44.slot = 0 ∧ line44.aud = 7 ∧ line44.track = 0 ∧ line44.blocks = [0] ∧ line44.declared = 60
      ∧ line44.fill ≤ 60 := by decide

/-- The example state with one strike held at an offset of 9. -/
def struck : State := night.withTimeline 7 { running7 with strikes := 1, candidate := some 9 }

/-- One strike held at an offset of 9 from position 500,000, and the cue as given. -/
def struckAt (c : Cue) : State :=
  (cueNight 1 c).withTimeline 7
    { running7 with anchor := some ⟨1000, 500000⟩, strikes := 1, candidate := some 9 }

theorem witness_ConfirmedJump_cue_clauses :
    (∀ x ∈ [(1, 2), (1, 500009), (1, 500010)],
        (struckAt { line44 with inP := x.1, outP := x.2 }).cueAt 0
          = some { line44 with inP := x.1, outP := x.2 })
      ∧ retireMark (struckAt line44) { line44 with outP := 2 } ≤ 500009
      ∧ 500009 < retireMark (struckAt line44) { line44 with outP := 500009 }
      ∧ ((struckAt line44).timeline 7).strikes + 1 = (struckAt line44).setting .jumpConfirm
      ∧ projectFrom ⟨1000, 500000⟩ 65536 1000 = 500000
      ∧ Taken .timelineReport (msg 5 (reportBody 0 500009)) []
          (asked 5 (reportBody 0 500009) (struckAt line44)) := by
  unfold Taken; decide +kernel

theorem witness_ConfirmedJump_cue_table (i o : Nat) :
    CueTableOk (struckAt { line44 with inP := i, outP := o }) :=
  cueNight_cues 1 line44_shape

theorem witness_ConfirmedJumpRelaunchesTheCues :
    (∀ n ∈ [5009, 5017], Taken .timelineReport (msg 5 (playing n)) [] (asked 5 (playing n) struck)
        ∧ timelineReport? (playing n) = some ⟨7, .playing, n, none⟩
        ∧ struck.setting .tLock < ((n : Int) - 5000).natAbs
        ∧ ((n : Int) - 5000 - 9).natAbs ≤ struck.setting .tLock)
      ∧ struck.laneOf? 7 = some .A ∧ (struck.timeline 7).state = .running
      ∧ (struck.timeline 7).anchor = some ⟨1000, 5000⟩
      ∧ (pairReport (struck.syncIn 7) struck.clock.time (struck.setting .pairWindow)).tRef = 1000
      ∧ projectFrom ⟨1000, 5000⟩ (struck.timeline 7).rate 1000 = 5000
      ∧ (struck.timeline 7).strikes ≠ 0
      ∧ struck.setting .jumpConfirm ≤ (struck.timeline 7).strikes + 1
      ∧ (struck.timeline 7).candidate = some 9 := by
  unfold Taken; decide +kernel

theorem witness_ConfirmedJump_cues (n : Nat) : CueTableOk (asked 5 (playing n) struck) := night_cues

theorem witness_ShowOpenBeginsARun :
    (Taken .showOpen (msg 1 openBody) [] (asked 1 openBody night)
      ∧ (showOpen? openBody).map (fun q => (q.aud, q.lane, q.tracks.length)) = some (3, .B, 1)
      ∧ (asked 1 openBody night).isOpen 3 = false) ∧ RosterOk (asked 1 openBody night) :=
  ⟨by unfold Taken; decide +kernel, night_roster⟩

theorem witness_ShowOpen_records :
    ∀ r ∈ [rx0, { rx0 with track := 1 }, { rx0 with state := .lost },
        { rx0 with kind := .descriptionHeadset }],
      let s := asked 1 openBody { night with roster := [{ r with aud := 3 }] }
      Taken .showOpen (msg 1 openBody) [] s ∧ s.isOpen 3 = false
        ∧ s.rx? 0 = some { r with aud := 3 } ∧ RosterOk s := by
  unfold Taken RosterOk; decide +kernel

theorem witness_ShowCloseFreesEverything :
    (Taken .showClose (msg 2 [7]) [] (asked 2 [7] night) ∧ showClose? [7] = some 7
      ∧ (asked 2 [7] night).theShow? 7 = some show7) ∧ CueTableOk (asked 2 [7] night) :=
  ⟨by unfold Taken; decide +kernel, night_cues⟩

theorem witness_ShowWindowReplacesTheWindow :
    ∀ b ∈ [[23, 0, 0, 0, 0, 9], [7, 2, 0, 0, 0, 9], [7, 1, 0, 0, 0, 9]],
      Taken .showWindow (msg 3 b) [] (asked 3 b night) ∧ (showWindow? b).isSome = true
        ∧ night.isOpen 23 = false ∧ night.isOpen 7 = true ∧ night.track? 7 2 = none
        ∧ (night.track? 7 1).isSome = true := by
  unfold Taken; decide +kernel

/-- A CUE_POST of a cue of auditorium 7: track, number, kind, points, declared length, inline bytes. -/
def postBody (t n k inP outP len : Nat) (inline : List Byte) : List Byte :=
  be8 7 ++ be8 t ++ be16 n ++ be8 k ++ [0, 0] ++ be32 inP ++ be32 outP ++ be16 len ++ inline

/-- Whether a CUE_POST meets the checks of R53 in the example state. -/
def postMeets (b : List Byte) : Bool :=
  match cuePost? b with
  | some q =>
    match night.track? q.aud q.track with
    | some r =>
      decide (night.laneOf? q.aud = some .A ∧ q.kind = r.kind ∧ r.base ≤ q.num ∧ q.num ≤ r.limit)
        && decide (night.findCue q.aud q.track q.num = none ∧ q.body.inP < q.body.outP)
        && decide (q.kind = .caption → 1 ≤ q.body.declared ∧ q.body.declared ≤ 512)
        && decide (q.kind = .clip →
          1 ≤ q.body.declared ∧ q.body.declared ≤ 16384 ∧ q.body.attrs = none)
        && decide (q.body.inline.length ≤ q.body.declared)
        && decide (((night.timeline q.aud).project night.clock.time).getD 0 < q.body.outP)
        && decide (night.cueCount q.aud < night.setting .audCueQuota)
        && decide (blocksFor q.body.declared ≤ night.table.free.length)
    | none => false
  | none => false

theorem witness_CuePostWritesTheRecord :
    (∀ b ∈ [postBody 0 0 0 5000 5001 1 [9], postBody 0 199 0 6000 7000 512 [],
          postBody 1 49 1 6000 7000 16384 [1, 2]],
        Taken .cuePost (msg 6 b) [] (asked 6 b night) ∧ postMeets b = true)
      ∧ night.lowestFreeSlot = some 1 := by
  unfold Taken; decide +kernel

theorem witness_CuePost_table (b : List Byte) :
    CueTableOk (asked 6 b night) ∧ Memory.wf (asked 6 b night).table.payload = true :=
  ⟨night_cues, rfl⟩

/-- The result of a request asked of a state. -/
def result (kind : Nat) (body : List Byte) (s : State) : Option Result :=
  let s := asked kind body s
  match s.link.inbox.head? with
  | some m => ((after1 (rowCommand (rowOf m)) s).link.outbox.getLast?).map fun r => r.result
  | none => none

/-- R53: each check of a CUE_POST that fails, the last two in a state whose quota or pool is used up; of two
that fail the first is answered. -/
theorem test_post_refusals :
    [[7], be8 3 ++ (postBody 0 45 0 6000 7000 60 []).drop 1, postBody 3 45 0 6000 7000 60 [],
        postBody 0 200 1 6000 7000 60 [], postBody 0 200 0 7000 7000 60 [], postBody 0 44 0 7000 7000 60 [],
        postBody 0 45 0 4000 4000 60 [], postBody 0 45 0 4000 5000 60 []].map (fun b => result 6 b night)
        = [some .badFormat, some .notOpen, some .noTrack, some .kind, some .outOfWindow, some .exists_,
          some .badFormat, some .late]
      ∧ result 6 (postBody 0 45 0 4000 5001 60 [])
          ({ night with table := { night.table with free := [] } }.withSetting .audCueQuota 1)
        = some .quota
      ∧ result 6 (postBody 0 45 0 4000 5001 60 []) { night with table := { night.table with free := [] } }
        = some .noRoom := by decide +kernel

/-- The example state, its caption changed. -/
def withLine (f : Cue → Cue) : State := night.putCue (f line44)

theorem witness_CueDataRaisesTheFillMark :
    (∀ b ∈ [[7, 0] ++ be16 44 ++ be16 59 ++ [1], [7, 0] ++ be16 44 ++ be16 58 ++ [1],
          [7, 0] ++ be16 44 ++ be16 59 ++ [1, 2]],
        Taken .cueData (msg 7 b) [] (asked 7 b (withLine fun c => { c with fill := 59 }))
          ∧ (cueData? b).isSome = true)
      ∧ (night.track? 7 0).isSome = true
      ∧ (withLine fun c => { c with fill := 59 }).findCue 7 0 44 = some { line44 with fill := 59 }
      ∧ (withLine fun c => { c with phase := .retained }).findCue 7 0 44
        = some { line44 with phase := .retained } := by
  unfold Taken; decide +kernel

theorem witness_CueData_table :
    CueTableOk (withLine fun c => { c with fill := 59 })
      ∧ Memory.wf (withLine fun c => { c with fill := 59 }).table.payload = true := by
  refine ⟨?_, rfl⟩
  obtain ⟨h1, h2, h3, h4, h5, h6⟩ := night_cues
  refine ⟨by decide, by decide, h3, ?_, h5, h6⟩
  intro a t k
  refine (h4 a t k).trans ?_
  constructor
  · rintro ⟨c, hc, rfl, rfl, rfl⟩
    have : c = line44 := List.mem_singleton.1 hc
    subst this
    exact ⟨_, List.mem_singleton.2 rfl, rfl, rfl, rfl⟩
  · rintro ⟨c, hc, rfl, rfl, rfl⟩
    have : c = { line44 with fill := 59 } := List.mem_singleton.1 hc
    subst this
    exact ⟨line44, List.mem_singleton.2 rfl, rfl, rfl, rfl⟩

/-- A CUE_REVISE of cue 44. -/
def reviseBody (inP outP len : Nat) : List Byte :=
  [7, 0] ++ be16 44 ++ [0, 0] ++ be32 inP ++ be32 outP ++ be16 len

theorem witness_CueReviseRewritesTheRecord :
    (∀ b ∈ [reviseBody 5000 5001 1, reviseBody 6000 16777215 512],
        Taken .cueRevise (msg 8 b) [] (asked 8 b night)
          ∧ ∃ q ∈ (cueRevise? b).toList,
            night.laneOf? q.aud = some .A ∧ (night.track? q.aud q.track).isSome = true
              ∧ night.findCue q.aud q.track q.num = some line44 ∧ q.body.inP < q.body.outP
              ∧ 1 ≤ q.body.declared ∧ q.body.declared ≤ 512
              ∧ q.body.inline.length ≤ q.body.declared
              ∧ (∀ p ∈ ((night.timeline q.aud).project night.clock.time).toList, p < q.body.outP)
              ∧ blocksFor q.body.declared ≤ night.table.free.length + line44.blocks.length)
      ∧ line44.kind = .caption := by
  unfold Taken; decide +kernel

/-- R58, R61, R56: the checks of a CUE_REVISE in their order, then a missing cue, a missing track and a CLOSED
auditorium for CUE_DATA and CUE_WITHDRAW. -/
theorem test_cue_refusals :
    [[7], be8 3 ++ (reviseBody 6000 7000 60).drop 1, [7, 3] ++ (reviseBody 6000 7000 60).drop 2,
        [7, 0] ++ be16 45 ++ (reviseBody 6000 7000 60).drop 4, reviseBody 5000 5000 60,
        reviseBody 4000 5000 512].map (fun b => result 8 b { night with table := { night.table with free := [] } })
        = [some .badFormat, some .notOpen, some .noTrack, some .noSuch, some .badFormat, some .late]
      ∧ result 8 (reviseBody 4000 5001 512) { night with table := { night.table with free := [] } }
        = some .noRoom
      ∧ [[7, 0] ++ be16 45 ++ be16 0 ++ [1], [7, 3] ++ be16 44 ++ be16 0 ++ [1], [3, 0] ++ be16 44 ++ be16 0 ++ [1],
          [7]].map (fun b => result 7 b night)
        = [some .noSuch, some .noTrack, some .notOpen, some .badFormat]
      ∧ [[7, 0] ++ be16 45, [7, 3] ++ be16 44, [3, 0] ++ be16 44, [7]].map (fun b => result 9 b night)
        = [some .noSuch, some .noTrack, some .notOpen, some .badFormat] := by decide +kernel

theorem witness_CueRevise_table (b : List Byte) :
    CueTableOk (asked 8 b night) ∧ Memory.wf (asked 8 b night).table.payload = true :=
  ⟨night_cues, rfl⟩

theorem witness_CueWithdrawFreesTheCue :
    (Taken .cueWithdraw (msg 9 ([7, 0] ++ be16 44)) [] (asked 9 ([7, 0] ++ be16 44) night)
      ∧ cueWithdraw? ([7, 0] ++ be16 44) = some ⟨7, 0, 44⟩ ∧ night.laneOf? 7 = some .A
      ∧ (night.track? 7 0).isSome = true ∧ night.findCue 7 0 44 = some line44)
      ∧ CueTableOk (asked 9 ([7, 0] ++ be16 44) night) :=
  ⟨by unfold Taken; decide +kernel, night_cues⟩

/-- Cue 44 SENT and SHOWING, with so many notices on lane A's list, and cue 44's own at its tail or not. -/
def noticed (n : Nat) (own : Bool) : State :=
  (cueNight 1 { line44 with delivery := .sent, phase := .showing }).withLane .A
    { Lane.reset true with
      notices := (List.range n).map (fun i => ⟨.release (BitVec.ofNat 9 i).toFin 9, 1⟩)
        ++ (if own then [⟨.withdraw 7 0 44, 1⟩] else []) }

theorem witness_CueWithdraw_notices :
    (∀ x ∈ [(0, false), (31, false), (32, false), (31, true)],
        Taken .cueWithdraw (msg 9 ([7, 0] ++ be16 44)) []
            (asked 9 ([7, 0] ++ be16 44) (noticed x.1 x.2))
          ∧ (noticed x.1 x.2).findCue 7 0 44
            = some { line44 with delivery := .sent, phase := .showing }
          ∧ (noticed x.1 x.2).laneOf? 7 = some .A)
      ∧ ((noticed 32 false).lane .A).notices.length = 32
      ∧ ∀ k ∈ ((noticed 32 false).lane .A).notices, k.item ≠ .withdraw 7 0 44 := by
  unfold Taken; decide +kernel

theorem witness_CueWithdraw_notices_table (n : Nat) (own : Bool) :
    CueTableOk (asked 9 ([7, 0] ++ be16 44) (noticed n own)) :=
  cueNight_cues 1 line44_shape

/-- RX_ISSUE bodies: a caption display for track 0, a headset for track 1. -/
def issueBodies : List (List Byte) :=
  [be24 1 ++ [0, 7, 0], be24 16777215 ++ [1, 7, 1, 0x41, 0x42, 0x43, 0x44, 0x45, 0x46]]

theorem witness_RxIssueWritesTheLowestFreeRecord :
    (∀ b ∈ issueBodies, Taken .rxIssue (msg 11 b) [] (asked 11 b night)
        ∧ ∃ q ∈ (rxIssue? b).toList, night.laneOf? q.aud = some .A
          ∧ (∃ w ∈ (night.track? q.aud q.track).toList, suits q.kind w.kind = true)
          ∧ night.rxBySerial? q.serial = none)
      ∧ night.lowestFreeRx = some 1 ∧ night.rx? 1 = none
      ∧ ∀ j : Fin 1, (night.rx? ⟨j.val, by omega⟩).isSome = true := by
  unfold Taken; decide +kernel

/-- The example state with the records of the given indices in use. -/
def rosterOf (l : List RxIdx) : State :=
  { night with roster := l.map fun i => { rx0 with index := i, serial := i.val + 1 } }

theorem rosterOf_rx? {l : List RxIdx} {j : RxIdx} (h : j ∈ l) : ((rosterOf l).rx? j).isSome = true :=
  List.find?_isSome.2 ⟨_, List.mem_map.2 ⟨j, h, rfl⟩, beq_self_eq_true j⟩

/-- Every record in use. -/
theorem witness_RxIssue_full (j : RxIdx) : ((rosterOf (List.finRange 512)).rx? j).isSome = true :=
  rosterOf_rx? (List.mem_finRange j)

/-- R139, R141, R144, R4, R13, R27: the checks of the requests on the roster in their order, BUSY, and a CLOSED
auditorium for SHOW_CLOSE and TIMELINE_REPORT. -/
theorem test_roster_refusals :
    [[0], be24 17 ++ [0, 3, 0], be24 17 ++ [0, 7, 3], be24 17 ++ [1, 7, 0], be24 17 ++ [0, 7, 0]].map
        (fun b => result 11 b night)
        = [some .badFormat, some .notOpen, some .noTrack, some .kind, some .duplicate]
      ∧ [[0], [0, 0, 0, 1, 3, 0], [0, 0, 0, 0, 3, 0], [0, 0, 0, 0, 7, 3], [0, 0, 0, 0, 7, 1]].map
          (fun b => result 12 b night)
        = [some .badFormat, some .noSuch, some .notOpen, some .noTrack, some .kind]
      ∧ [[0], [0, 0, 0, 1], [1, 0, 0, 18]].map (fun b => result 13 b night)
        = [some .badFormat, some .noSuch, some .noSuch]
      ∧ [[7], [7, 0, 1, 0, 0x65, 0x6e, 0x67, 0, 0, 0, 9]].map (fun b => result 1 b night)
        = [some .badFormat, some .busy]
      ∧ [[24], [3]].map (fun b => result 2 b night) = [some .badFormat, some .notOpen]
      ∧ [[7, 3] ++ be32 0, [3, 0] ++ be32 0].map (fun b => result 5 b night)
        = [some .badFormat, some .notOpen] := by decide +kernel

theorem witness_RxIssue_table (b : List Byte) : CueTableOk (asked 11 b night) := night_cues

theorem witness_RisingCountReWaitsUnattendedCues :
    ∃ q ∈ (rxIssue? (be24 1 ++ [1, 7, 1])).toList,
      Taken .rxIssue (msg 11 (be24 1 ++ [1, 7, 1])) [] (asked 11 (be24 1 ++ [1, 7, 1]) night)
        ∧ night.laneOf? q.aud = some .A
        ∧ (∃ w ∈ (night.track? q.aud q.track).toList, suits q.kind w.kind = true ∧ w.listeners = 0)
        ∧ night.rxBySerial? q.serial = none ∧ night.lowestFreeRx = some 1 := by
  unfold Taken; decide +kernel

/-- The caption track without listeners, its cue passed over unattended, its one record LOST, and a
CONTENT entry for the cue on the queue. -/
def unattended (n : Nat) : State :=
  { (cueNight n { line44 with delivery := .sent }).withLane .A
      { Lane.reset true with repairs := [newRepair .content (some 0) 7 0 44 4] } with
    roster := [{ rx0 with state := .lost }] }

theorem witness_RisingCount_unattended :
    ∀ n ∈ [0, 1],
      (unattended n).laneOf? 7 = some .A
        ∧ ((unattended n).track? 7 0).map TrackRec.listeners = some n
        ∧ ((unattended n).track? 7 0).map (fun w => suits rx0.kind w.kind) = some true
        ∧ Taken .rxIssue (msg 11 (be24 1 ++ [0, 7, 0])) []
            (asked 11 (be24 1 ++ [0, 7, 0]) (unattended n))
        ∧ (rxIssue? (be24 1 ++ [0, 7, 0])).isSome = true
        ∧ (unattended n).rxBySerial? 1 = none ∧ (unattended n).lowestFreeRx = some 1
        ∧ Taken .rxMove (msg 12 [0, 0, 0, 0, 7, 0]) [] (asked 12 [0, 0, 0, 0, 7, 0] (unattended n))
        ∧ (rxMove? [0, 0, 0, 0, 7, 0]).isSome = true
        ∧ (unattended n).rxNamed (.index 0) = some { rx0 with state := .lost }
        ∧ RosterOk (unattended n) := by
  unfold Taken RosterOk; decide +kernel

theorem witness_RisingCount_checkin :
    ∃ m, checkin? (be8 0x21 ++ be16 0 ++ [17, 7, 0, 13] ++ be16 0 ++ List.replicate 7 0) = some m
      ∧ m.addr = 0 ∧ m.check = BitVec.ofNat 8 rx0.serial ∧ (unattended 0).phase = .ready
      ∧ (unattended 0).rx? 0 = some { rx0 with state := .lost } := by
  refine ⟨_, rfl, ?_⟩; decide +kernel

theorem witness_RisingCount_table (n : Nat) : CueTableOk (unattended n) :=
  cueNight_cues n line44_shape

/-- The example state with auditorium 3 open on lane B too. -/
def twoShows : State :=
  { night with
    directory := vput night.directory 3 (some
      { lane := .B, cueCount := 0
        tracks := [{ kind := .caption, lang := ⟨0x65, 0x6e, 0x67⟩, base := 0, limit := 9,
                     listeners := 0, lastDone := none, lineup := [] }] }) }

theorem witness_RxMoveRebindsTheRecord :
    (∀ b ∈ [[0, 0, 0, 0, 3, 0], [1, 0, 0, 17, 3, 0, 0x41]],
        Taken .rxMove (msg 12 b) [] (asked 12 b twoShows)
          ∧ ∃ q ∈ (rxMove? b).toList, twoShows.rxNamed q.sel = some rx0
            ∧ twoShows.laneOf? q.aud = some .B
            ∧ (∃ w ∈ (twoShows.track? q.aud q.track).toList, suits rx0.kind w.kind = true)
            ∧ (q.aud ≠ rx0.aud ∨ q.track ≠ rx0.track))
      ∧ twoShows.openOn rx0.aud .A = true := by
  unfold Taken; decide +kernel

/-- A move to the record's present place: of a counted record, and of one in LOST. -/
theorem witness_RxMove_same :
    (Taken .rxMove (msg 12 [0, 0, 0, 0, 7, 0]) [] (asked 12 [0, 0, 0, 0, 7, 0] night)
      ∧ (rxMove? [0, 0, 0, 0, 7, 0]).map (fun q => (q.aud, q.track)) = some (rx0.aud, rx0.track)
      ∧ night.rxNamed (.index 0) = some rx0 ∧ night.counted rx0 = true
      ∧ (night.track? 7 0).map (fun w => suits rx0.kind w.kind) = some true
      ∧ night.laneOf? 7 = some .A ∧ night.openOn 7 .B = false
      ∧ (unattended 0).rxNamed (.index 0) = some { rx0 with state := .lost }
      ∧ (unattended 0).counted { rx0 with state := .lost } = false)
      ∧ ListenersOk (asked 12 [0, 0, 0, 0, 7, 0] night)
      ∧ RosterOk (asked 12 [0, 0, 0, 0, 7, 0] (unattended 0)) :=
  ⟨by unfold Taken; decide +kernel, night_listeners, ⟨by decide, by decide⟩⟩

theorem witness_RxMove_roster (b : List Byte) : RosterOk (asked 12 b twoShows) := night_roster

theorem witness_RxReturnFreesTheRecord :
    ∀ b ∈ [[0, 0, 0, 0], [1, 0, 0, 17]],
      Taken .rxReturn (msg 13 b) [] (asked 13 b night)
        ∧ ∃ sel ∈ (rxNamed? b).toList, night.rxNamed sel = some rx0
          ∧ night.openOn rx0.aud .A = true ∧ night.openOn rx0.aud .B = false := by
  unfold Taken; decide +kernel

/-- Two auditoriums open, the record MOVING from 3 on lane B to 7 on lane A, with so many notices on both
lists, and the record's own at their tails or not. -/
def leavingBoth (n : Nat) (own : Bool) : State :=
  let ns := (List.range n).map (fun i => ⟨.release (BitVec.ofNat 9 i).toFin 9, 1⟩)
    ++ (if own then [⟨.release 0 17, 1⟩] else [])
  { twoShows with
    roster := [{ rx0 with state := .moving, movedFrom := some 3 }]
    lanes := ⟨{ Lane.reset true with notices := ns }, { Lane.reset true with notices := ns }⟩ }

theorem witness_RxReturn_notices :
    ∀ x ∈ [(0, false), (31, false), (32, false), (31, true)],
      let s := leavingBoth x.1 x.2
      Taken .rxReturn (msg 13 [0, 0, 0, 0]) [] (asked 13 [0, 0, 0, 0] s)
        ∧ rxNamed? [0, 0, 0, 0] = some (.index 0)
        ∧ s.rxNamed (.index 0) = some { rx0 with state := .moving, movedFrom := some 3 }
        ∧ s.openOn 7 .A = true ∧ s.openOn 3 .B = true
        ∧ (s.lane .A).notices.length = x.1 + (if x.2 then 1 else 0)
        ∧ ((∃ k ∈ (s.lane .B).notices, k.item = .release 0 (BitVec.ofNat 8 rx0.serial)) ↔ x.2 = true) := by
  unfold Taken; decide +kernel

/-- The example state with its record as given, at site time 2,000. -/
def withRx (r : RxRec) : State := { atTime 2000 night with roster := [r] }

theorem witness_DeadlinesExpireRecords :
    (∀ st ∈ [RxState.issued, .moving],
        (withRx { rx0 with state := st, joinDl := some 2000 }).rx? 0
            = some { rx0 with state := st, joinDl := some 2000 })
      ∧ (withRx { rx0 with state := .silent, lossDl := some 2000 }).rx? 0
          = some { rx0 with state := .silent, lossDl := some 2000 }
      ∧ (withRx { rx0 with silenceDl := some 2000 }).rx? 0 = some { rx0 with silenceDl := some 2000 }
      ∧ (withRx rx0).phase ≠ .inReset ∧ 0 ≤ Machine.sdiff (withRx rx0).clock.time 2000 := by
  decide +kernel

theorem witness_LaneStartBeginsAndLaneStopEmpties :
    (Taken .laneStart (msg 17 [0]) [] (asked 17 [0] night) ∧ laneOnly? [0] = some .A
        ∧ laneOnly? [1] = some .B ∧ (night.lane .A).state = .stopped
        ∧ (night.lane .A).rfReady = true)
      ∧ ((nightLane { Lane.reset true with state := .fault }).lane .A).state ≠ .stopped
      ∧ Taken .laneStart (msg 17 [0]) [] (asked 17 [0] (nightLane (Lane.reset false)))
      ∧ ((nightLane (Lane.reset false)).lane .A).rfReady = false
      ∧ Taken .laneStop (msg 18 [0]) [] (asked 18 [0] night) := by
  unfold Taken; decide +kernel

/-- An empty frame of lane A. -/
def frame (n : FrameNo) : Frame := ⟨.A, n, 1000, false, []⟩

/-- A build on its way in buffer 1, at a stage. -/
def building (st : Stage) : Option Build := some ⟨.b1, 1000, 5, [(7, night.reading 7 1000)], [], st⟩

/-- Lane A RUNNING, its buffers as given. -/
def runningLane (a b : Buffer) (missed : Nat) (build : Option Build) : Lane :=
  { Lane.reset true with
    state := .running, frameNo := 4, buf0 := a, buf1 := b, missed := missed, build := build }

theorem witness_BoundaryAirsAFrameOrSkips :
    ∀ x ∈ [runningLane (.ready (frame 5)) .empty 0 none,
        runningLane .empty (.building (frame 5)) 0 (building .finished),
        runningLane (.onAir (frame 4)) (.ready (frame 5)) 0 none,
        runningLane (.onAir (frame 4)) (.building (frame 5)) 1 (building .finished),
        runningLane (.onAir (frame 4)) .empty 1 none],
      (nightLane x).phase ≠ .inReset ∧ isBoundary .A (nightLane x).clock.time = true
        ∧ (nightLane x).clock.due.get .A = true ∧ ((nightLane x).lane .A).state = .running
        ∧ ((nightLane x).lane .A).missed + 1 < 3 ∧ BufId.b0 ≠ BufId.b1
        ∧ ((nightLane x).lane .A) = x := by decide +kernel

theorem witness_UnservedBoundaryAgesTheCues :
    (∀ x ∈ [Lane.reset true, { Lane.reset true with state := .fault },
          runningLane (.onAir (frame 3)) (.ready (frame 4)) 2 none],
        (nightLane x).phase ≠ .inReset ∧ isBoundary .A (nightLane x).clock.time = true
          ∧ (nightLane x).clock.due.get .A = true ∧ ((nightLane x).lane .A) = x
          ∧ (x.state ≠ .running
            ∨ x.state = .running ∧ (x.buf0.isOnAir = true ∨ x.buf1.isOnAir = true) ∧ 2 ≤ x.missed))
      ∧ night.openOn 7 .A = true
      ∧ (night.timeline 7).project night.clock.time = some 5000 ∧ night.openOn 23 .A = false := by
  decide +kernel

theorem witness_UnservedBoundary_table (x : Lane) :
    CueTableOk (nightLane x) ∧ CountersOk (nightLane x) := ⟨night_cues, night_counters⟩

theorem witness_UnservedBoundary_cue_clauses :
    (∀ ph ∈ [CuePhase.ahead, .showing, .retained], ∀ d ∈ [Delivery.waiting, .sending, .sent],
        ∀ k ∈ [CueKind.caption, .clip], ∀ x ∈ [(4000, 5000), (5000, 5001), (5001, 5002)],
        let c := { line44 with phase := ph, delivery := d, kind := k, inP := x.1, outP := x.2 }
        (cueNight 1 c).cueAt 0 = some c ∧ 5000 < retireMark (cueNight 1 c) c)
      ∧ (cueNight 1 line44).openOn 7 .A = true
      ∧ ((cueNight 1 line44).timeline 7).project (cueNight 1 line44).clock.time = some 5000
      ∧ ((cueNight 1 line44).lane .A).state ≠ .running := by decide +kernel

/-- The example state with RETAIN_MS at 0, its cue at its retire mark. -/
def retiring (d : Delivery) : State :=
  (cueNight 1 { line44 with inP := 1, outP := 5000, delivery := d }).withSetting .retainMs 0

theorem witness_UnservedBoundary_retired :
    ∀ d ∈ [Delivery.waiting, .sending, .sent],
      retireMark (retiring d) { line44 with inP := 1, outP := 5000, delivery := d } ≤ 5000
        ∧ 0 < (retiring d).listeners 7 0 := by decide +kernel

theorem witness_UnservedBoundary_retired_table (d : Delivery) :
    CueTableOk (retiring d) ∧ CountersOk (retiring d) :=
  ⟨cueNight_cues 1 line44_shape, night_counters⟩

/-- R72, R73: at a boundary of the stopped lane CLIP_UNDERRUN or CUE_LATE is latched for a clip that underran, a
caption that was never placed, and neither for a cue that was SENT. -/
theorem test_pass_conditions :
    ([(Delivery.sending, CueKind.clip), (.sending, .caption), (.sent, .caption)].map fun x =>
        let t := after1 (.laneBoundary .A)
          (cueNight 1 { line44 with inP := 4000, outP := 5000, delivery := x.1, kind := x.2 })
        (t.cond .clipUnderrun, t.cond .cueLate))
      = [(⟨true, .aud 7⟩, night.cond .cueLate), (night.cond .clipUnderrun, ⟨true, .aud 7⟩),
        (night.cond .clipUnderrun, night.cond .cueLate)] := by decide +kernel

/-- Lane A building into buffer 1 at a stage, with notices, repair entries and a rotation. -/
def buildNight (st : Stage) : State :=
  nightLane
    { runningLane .empty (.building (frame 5)) 0 (building st) with
      notices := [⟨.release 3 9, 1⟩, ⟨.withdraw 7 0 43, 2⟩]
      repairs := [newRepair .gone none 7 0 41 4], rotation := [0] }

theorem witness_BuildProgressPlacesOneSection :
    (∀ st ∈ [Stage.stamps [7], .notices 0 15, .notices 1 0,
          .announcing 0 (announceOf night rx0) [] 10,
          .content [⟨.caption, 0, 6000, 7, 0, 44⟩] 80 0, .repairs 0 8],
        (buildNight st).phase ≠ .inReset ∧ ((buildNight st).lane .A).build = building st
          ∧ ((buildNight st).lane .A).buf .b1 = .building (frame 5)
          ∧ ((buildNight st).lane .A).notices[0]? = some ⟨.release 3 9, 1⟩
          ∧ ((buildNight st).lane .A).repairs[0]? = some (newRepair .gone none 7 0 41 4)
          ∧ (0 : RxIdx) ∈ ((buildNight st).lane .A).rotation ∧ (buildNight st).rx? 0 = some rx0)
      ∧ (building .finished).map (fun b => b.posOf 7) = some (some 5000)
      ∧ (withLine fun c => { c with delivery := .sending }).cueAt 0
        = some { line44 with delivery := .sending }
      ∧ 20 + line44.declared ≤ 80 := by decide +kernel

/-- A build at a stage, with the cue and the repair entry as given, and the auditoriums that have jumped. -/
def buildWith (n : Nat) (c : Cue) (e : Repair) (jumped : List Aud) (st : Stage) : State :=
  (cueNight n c).withLane .A
    { runningLane .empty (.building (frame 5)) 0
        ((building st).map fun b => { b with jumped := jumped }) with repairs := [e] }

/-- Cues that the walk meets at position 5,000: one for each clause, at the bounds of its ranges. -/
def walked : List Cue :=
  [{ line44 with delivery := .sending }, { line44 with delivery := .sending, kind := .clip },
    { line44 with delivery := .sending, kind := .clip, off := 60 }, { line44 with delivery := .sent },
    { line44 with delivery := .sent, inP := 5000 },
    { line44 with delivery := .sent, phase := .showing, repeatDue := true }, { line44 with inP := 5501 },
    { line44 with inP := 5500 }, { line44 with inP := 5500, fill := 59 },
    { line44 with inP := 4000, outP := 5000, phase := .retained },
    { line44 with inP := 5320, kind := .clip }, { line44 with inP := 5321, kind := .clip },
    { line44 with inP := 5000, kind := .clip, fill := 0 }]

theorem witness_BuildProgress_walk :
    ∀ n ∈ [0, 1], ∀ c ∈ walked,
      let s := buildWith n c (newRepair .gone none 7 0 41 4) [] (.walk [] [0] [])
      s.phase ≠ .inReset ∧ (s.lane .A).buf .b1 = .building (frame 5) ∧ s.cueAt 0 = some c
        ∧ s.listeners 7 0 = n ∧ (night.reading 7 1000).pos = some 5000
        ∧ ((s.lane .A).build.map fun b => b.readings.find? fun y => y.1 == c.aud)
          = some (some (7, night.reading 7 1000))
        ∧ (c.phase ≠ .retained → 5000 < c.outP) ∧ (c.phase = .retained → 5000 < retireMark s c)
        ∧ s.setting .captionLead = 500 ∧ s.setting .descLeadBase = 300
        ∧ s.setting .segmentMax = 120 ∧ s.setting .captionRepeat = 1 := by decide +kernel

/-- Stages between the sections: each passage, the choice and the announcement of records, and a section
begun for a record that has left the rotation. -/
theorem witness_BuildProgress_passages :
    (∀ st ∈ [Stage.stamps [], .notices 0 16, .notices 2 0, .select [] [0] 10 4, .select [0] [1] 10 1,
          .select [0] [] 10 4, .announce [0] 10, .announce [] 10,
          .announcing 3 (announceOf night rx0) [] 10, .walk ((7, 0) :: []) [] [], .walk [] [] [],
          .reserve [], .content [] 80 0, .repairs 1 8],
        (buildNight st).phase ≠ .inReset ∧ ((buildNight st).lane .A).build = building st
          ∧ ((buildNight st).lane .A).buf .b1 = .building (frame 5))
      ∧ ((buildNight (.notices 2 0)).lane .A).notices[2]? = none
      ∧ ((buildNight (.repairs 1 8)).lane .A).repairs[1]? = none
      ∧ (3 : RxIdx) ∉ ((buildNight (.announce [] 10)).lane .A).rotation := by decide +kernel

/-- A record due for announcement by its mark: absent, or ANNOUNCE_EVERY frames back, or not yet; it is
not due when it is unmatched or its auditorium is closed on the lane. -/
theorem witness_BuildProgress_due (mark : Option FrameNo) (unmatched : Bool) (a : Aud) :
    let r := { rx0 with marks := ⟨mark, none⟩, unmatched := unmatched, aud := a }
    let s : State := { buildNight (.select [0] [] 10 4) with roster := [r] }
    (s.phase ≠ .inReset ∧ (s.lane .A).buf .b1 = .building (frame 5) ∧ s.rx? 0 = some r
        ∧ 0 ∈ (s.lane .A).rotation ∧ s.openOn 7 .A = true ∧ s.openOn 3 .A = false)
      ∧ ((5 : FrameNo) - 65531).toNat = 10 ∧ ((5 : FrameNo) - 65532).toNat = 9 :=
  ⟨⟨by simp [buildNight, nightLane, night], rfl, rfl, List.mem_singleton.2 rfl,
    show (buildNight .finished).openOn 7 .A = true by decide +kernel,
    show (buildNight .finished).openOn 3 .A = false by decide +kernel⟩, by decide⟩

/-- Cues whose out-point the walk meets at position 5,000, with RETAIN_MS as given: each enters RETAINED,
or is retired where its retire mark is met too. -/
theorem witness_BuildProgress_ends :
    ∀ ms ∈ [0, 5000], ∀ n ∈ [0, 1], ∀ ph ∈ [CuePhase.ahead, .showing, .retained],
      ∀ d ∈ [Delivery.waiting, .sending, .sent], ∀ k ∈ [CueKind.caption, .clip],
      let c := { line44 with phase := ph, delivery := d, kind := k, inP := 4000, outP := 5000 }
      let s := (buildWith n c (newRepair .content (some 0) 7 0 44 4) [] (.walk [] [0] [])).withSetting
        .retainMs ms
      s.phase ≠ .inReset ∧ (s.lane .A).buf .b1 = .building (frame 5) ∧ s.cueAt 0 = some c
        ∧ (night.reading 7 1000).pos = some 5000
        ∧ ((s.lane .A).build.map fun b => b.readings.find? fun y => y.1 == c.aud)
          = some (some (7, night.reading 7 1000))
        ∧ (if ms = 0 then retireMark s c ≤ 5000 else 5000 < retireMark s c)
        ∧ s.openOn 7 .A = true ∧ s.listeners 7 0 = n := by decide +kernel

/-- An offer that qualifies no longer, of each kind. -/
theorem witness_BuildProgress_stale :
    ∀ x ∈ [({ line44 with delivery := .sent }, OfferKind.caption),
        ({ line44 with delivery := .sent, phase := .showing }, .captionRepeat),
        ({ line44 with delivery := .sending, kind := .clip, off := 60 }, .continuing),
        ({ line44 with delivery := .sent, kind := .clip }, .firstSegment)],
      let s := buildWith 1 x.1 (newRepair .gone none 7 0 41 4) []
        (.content [⟨x.2, 0, 6000, 7, 0, 44⟩] 4000 0)
      s.phase ≠ .inReset ∧ (s.lane .A).buf .b1 = .building (frame 5) ∧ s.cueAt 0 = some x.1
        ∧ ((s.lane .A).build.map fun b => b.posOf 7) = some (some 5000) := by decide +kernel

/-- R46, R65: a caption of 60 bytes that is placed shows a send offset of 60, at its first airing and at a
repeat of an airing that was relaunched. -/
theorem test_caption_offset :
    ((after1 (.buildProgress .A) (buildWith 1 { line44 with delivery := .sending }
        (newRepair .gone none 7 0 41 4) [] (.content [⟨.caption, 0, 6000, 7, 0, 44⟩] 80 0))).cueAt 0).map
        (fun c => (c.delivery, c.off)) = some (.sent, 60)
      ∧ ((after1 (.buildProgress .A) (buildWith 1
          { line44 with delivery := .sent, phase := .showing, repeatDue := true }
          (newRepair .gone none 7 0 41 4) []
          (.content [⟨.captionRepeat, 0, 6000, 7, 0, 44⟩] 80 0))).cueAt 0).map
          (fun c => (c.repeatDue, c.off)) = some (false, 60) := by decide +kernel

/-- Step 5 with an entry of each natural size, and offers of both groups. -/
theorem witness_BuildProgress_reserve :
    ∀ k ∈ [CueKind.caption, .clip], ∀ o ∈ [5000, 5001], ∀ n ∈ [59, 60],
      ∀ e ∈ [newRepair .gone none 7 0 44 4, newRepair .content (some 0) 7 0 44 4,
        { newRepair .content (some 0) 7 0 44 4 with off := 60 },
        { newRepair .content (some 0) 7 0 44 4 with state := .holding, hold := 1 },
        { newRepair .content (some 0) 7 0 44 4 with aud := 8 }],
      let c := { line44 with kind := k, inP := 4000, outP := o, fill := n, delivery := .sent }
      let st := Stage.reserve [⟨.caption, 0, 6000, 7, 0, 44⟩, ⟨.continuing, 1, 7000, 7, 1, 3⟩]
      let s := buildWith 1 c e [] st
      s.phase ≠ .inReset ∧ (s.lane .A).buf .b1 = .building (frame 5) ∧ (s.lane .A).repairs = [e]
        ∧ ((s.lane .A).build.map fun b => b.stage) = some st ∧ s.findCue 7 0 44 = some c
        ∧ s.setting .repairFloor = 256 := by decide +kernel

/-- The stages that a jump or a close changes. -/
def openStages : List Stage :=
  [.stamps [3, 7], .notices 1 1, .walk [(3, 0), (7, 1)] [0] [⟨.caption, 0, 6000, 7, 0, 44⟩],
    .reserve [⟨.caption, 0, 6000, 7, 0, 44⟩], .content [⟨.caption, 0, 6000, 7, 0, 44⟩] 80 0, .repairs 1 8]

/-- A close in a build, whatever its stage. -/
theorem witness_ShowClose_build :
    (∀ st ∈ openStages, Taken .showClose (msg 2 [7]) [] (asked 2 [7] (buildNight st))
        ∧ (asked 2 [7] (buildNight st)).theShow? 7 = some show7
        ∧ ((asked 2 [7] (buildNight st)).lane .A).build = building st)
      ∧ ∀ st, CueTableOk (asked 2 [7] (buildNight st)) :=
  ⟨by unfold Taken; decide +kernel, fun _ => night_cues⟩

/-- One strike from a confirmed jump in a build that has read the auditorium, or has not, whatever the
build's stage; the cue behind the new position is WAITING to be relaunched, SENDING, or SENT. -/
def struckBuild (c : Cue) (read : Bool) (st : Stage) : State :=
  (struckAt c).withLane .A
    { runningLane .empty (.building (frame 5)) 0
        ((building st).map fun b => { b with readings := if read then b.readings else [] }) with
      repairs := [newRepair .gone none 7 0 41 4, newRepair .gone none 3 0 41 4] }

theorem witness_ConfirmedJump_build :
    (∀ st ∈ openStages, ∀ read ∈ [false, true], ∀ d ∈ [Delivery.waiting, .sending, .sent],
        let c := { line44 with inP := 499000, outP := 500009, delivery := d, relaunch := true, off := 7 }
        let s := asked 5 (reportBody 0 500009) (struckBuild c read st)
        Taken .timelineReport (msg 5 (reportBody 0 500009)) [] s ∧ s.cueAt 0 = some c
          ∧ s.laneOf? 7 = some .A ∧ (s.timeline 7).state = .running
          ∧ (s.timeline 7).anchor = some ⟨1000, 500000⟩ ∧ (s.timeline 7).candidate = some 9
          ∧ (s.timeline 7).strikes + 1 = s.setting .jumpConfirm ∧ 500009 < retireMark s c
          ∧ ((s.lane .A).build.map fun b => b.readings.any fun y => y.1 == 7) = some read)
      ∧ ∀ d read st, CueTableOk (asked 5 (reportBody 0 500009) (struckBuild
          { line44 with inP := 499000, outP := 500009, delivery := d, relaunch := true, off := 7 } read st)) :=
  ⟨by unfold Taken; decide +kernel, fun _ _ _ => cueNight_cues 1 line44_shape⟩

theorem witness_BuildProgress_offers :
    ∀ x ∈ [({ line44 with delivery := .sending }, OfferKind.caption, 80),
        ({ line44 with delivery := .sending, inP := 5000 }, .caption, 79),
        ({ line44 with delivery := .sent, phase := .showing, repeatDue := true }, .captionRepeat, 80),
        ({ line44 with delivery := .sending, kind := .clip }, .firstSegment, 80),
        ({ line44 with delivery := .sending, kind := .clip }, .firstSegment, 36),
        ({ line44 with delivery := .sending, kind := .clip, off := 50 }, .continuing, 30),
        ({ line44 with delivery := .sending, kind := .clip, off := 45 }, .continuing, 34),
        ({ line44 with delivery := .sending, kind := .clip }, .firstSegment, 35)],
      let s := buildWith 1 x.1 (newRepair .gone none 7 0 41 4) []
        (.content [⟨x.2.1, 0, x.1.inP, 7, 0, 44⟩] x.2.2 0)
      s.phase ≠ .inReset ∧ (s.lane .A).buf .b1 = .building (frame 5) ∧ s.cueAt 0 = some x.1
        ∧ ((s.lane .A).build.map fun b => b.posOf 7) = some (some 5000) := by decide +kernel

theorem witness_BuildProgress_repairs :
    ∀ k ∈ [CueKind.caption, .clip], ∀ o ∈ [5000, 5001], ∀ j ∈ [[], [7]],
      ∀ e ∈ [newRepair .gone none 7 0 44 4, newRepair .content (some 0) 7 0 44 4,
        { newRepair .content (some 0) 7 0 44 4 with off := 45, state := .sending },
        { newRepair .content (some 0) 7 0 44 4 with off := 60, state := .sending },
        { newRepair .content (some 0) 7 0 44 4 with state := .holding, hold := 1 },
        { newRepair .content (some 0) 7 0 44 4 with state := .holding, hold := 2 },
        { newRepair .content (some 0) 7 0 44 4 with aud := 8 }],
      ∀ room ∈ [7, 8, 35, 36, 79, 80],
      let c := { line44 with kind := k, inP := 4000, outP := o, delivery := .sent, phase := .showing }
      let s := buildWith 1 c e j (.repairs 0 room)
      s.phase ≠ .inReset ∧ (s.lane .A).buf .b1 = .building (frame 5)
        ∧ (s.lane .A).repairs[0]? = some e ∧ s.findCue 7 0 44 = some c
        ∧ ((s.lane .A).build.map fun b => (b.posOf 7, b.posOf 8, b.jumped)) = some (some 5000, none, j)
        ∧ s.setting .repairSegmentMax = 240 := by decide +kernel

theorem witness_BuildCompleteMakesAFrameThatFits :
    ((nightLane (runningLane .empty (.building (frame 5)) 0
          (some ⟨.b1, 1000, 5, [], [], .stamps [7]⟩))).lane .A).build
        = some ⟨.b1, 1000, 5, [], [], .stamps [7]⟩
      ∧ (runningLane .empty (.building (frame 5)) 0 none).buf .b1 = .building (frame 5)
      ∧ (frame 5).sections = [] ∧ night.openOn 7 .A = true ∧ night.phase ≠ .inReset := by
  decide +kernel

theorem witness_BuildComplete_invariants (x : Lane) :
    SettingsOk (nightLane x) ∧ CueTableOk (nightLane x) := ⟨night_settings, night_cues⟩

theorem witness_TransceiverLinesMoveTheLane :
    (∀ x ∈ [runningLane (.onAir (frame 4)) .empty 0 none,
          runningLane (.onAir (frame 4)) (.ready (frame 5)) 0 none,
          { Lane.reset true with buf1 := .onAir (frame 4) }],
        (nightLane x).phase ≠ .inReset ∧ (nightLane x).lane .A = x ∧ x.rfReady = true
          ∧ (x.buf0.isOnAir = true ↔ x.buf1.isOnAir = false))
      ∧ ((night.lane .A).buf0.isOnAir = false ∧ (night.lane .A).buf1.isOnAir = false)
      ∧ ((nightLane (Lane.reset false)).lane .A).rfReady = false := by decide +kernel

/-- A CHECKIN or an ASK from short address 0: kind, serial check, track, number. -/
def uplink (kind check track num : Nat) : List Byte :=
  be8 kind ++ be16 0 ++ be8 check ++ [7] ++ be8 track ++ [13] ++ be16 num ++ List.replicate 7 0

theorem witness_CheckinIsHeardOrStray :
    night.phase = .ready
      ∧ (checkin? [] = none ∧ ask? [] = none)
      ∧ ((checkin? (uplink 0x21 18 0 40)).isSome = true ∧ (18 : Byte) ≠ BitVec.ofNat 8 rx0.serial)
      ∧ (checkin? (uplink 0x21 17 0 40)).isSome = true
      ∧ (checkin? (uplink 0x21 17 1 40)).isSome = true
      ∧ (17 : Byte) = BitVec.ofNat 8 rx0.serial ∧ (night.track? 7 0).bind TrackRec.lastDone = some 43
      ∧ ∀ st ∈ [RxState.issued, .joined, .silent, .lost, .moving],
        (withRx { rx0 with state := st }).rx? 0 = some { rx0 with state := st } := by decide +kernel

/-- The bounds of the lag: the last received cue at, one behind and one ahead of the last completed one,
32,767 and 32,768 behind it, and over the wrap; and a track with no last completed cue. -/
theorem witness_Checkin_lag :
    (∀ n ∈ [42, 43, 44, 32811, 32812, 65535],
        checkin? (uplink 0x21 17 0 n) = some ⟨0, 17, 7, 0, 13, n, 0, 0⟩)
      ∧ (night.timeline 7).epoch = 13 ∧ (night.track? 7 0).bind TrackRec.lastDone = some 43
      ∧ ((43 : Int) - 42) % 65536 = 1 ∧ ((43 : Int) - 43) % 65536 = 0 ∧ ((43 : Int) - 44) % 65536 = 65535
      ∧ ((43 : Int) - 32811) % 65536 = 32768 ∧ ((43 : Int) - 32812) % 65536 = 32767
      ∧ ((43 : Int) - 65535) % 65536 = 44
      ∧ checkin? (uplink 0x21 17 1 0) = some ⟨0, 17, 7, 1, 13, 0, 0, 0⟩
      ∧ (withRx { rx0 with track := 1 }).rx? 0 = some { rx0 with track := 1 }
      ∧ (night.track? 7 1).map TrackRec.lastDone = some none := by decide +kernel

/-- A MOVING record that joins while its auditorium is closed; a stray for a list that is full, and for one
that holds an equal notice. -/
theorem witness_Checkin_closed :
    (let r := { rx0 with state := .moving, movedFrom := some 3 }
      let s := { withRx r with directory := State.reset.directory }
      s.phase = .ready ∧ s.rx? 0 = some r ∧ s.laneOf? r.aud = none ∧ r.aud = 7 ∧ r.track = 0)
      ∧ (∀ x ∈ [(32, false), (32, true), (31, false)],
        let s := { leavingBoth x.1 x.2 with roster := [{ rx0 with serial := 18 }] }
        s.phase = .ready ∧ s.rx? 0 = some { rx0 with serial := 18 }
          ∧ (17 : Byte) ≠ BitVec.ofNat 8 18
          ∧ ((∃ k ∈ (s.lane .A).notices, k.item = .release 0 17) ↔ x.2 = true)) := by decide +kernel

theorem witness_Checkin_lost :
    CueTableOk (withRx { rx0 with state := .lost }) ∧ night.laneOf? rx0.aud = some .A :=
  ⟨night_cues, by decide +kernel⟩

theorem witness_AskReachesTheRepairQueue :
    night.phase = .ready ∧ (ask? (uplink 0x22 17 0 44)).isSome = true
      ∧ askValid .A ⟨0, 17, 7, 0, 13, 44⟩ night = true
      ∧ askValid .B ⟨0, 17, 7, 0, 13, 44⟩ night = false
      ∧ night.findCue 7 0 44 = some line44 ∧ line44.delivery ≠ .sent
      ∧ (withLine fun c => { c with delivery := .sent }).findCue 7 0 44
        = some { line44 with delivery := .sent }
      ∧ night.findCue 7 0 43 = none ∧ (night.lane .A).repairs.length < 32
      ∧ (newRepair .gone none 7 0 43 4).state ≠ .holding
      ∧ ([newRepair .gone none 7 0 43 4].map fun e => (e.aud, e.track, e.num)).Nodup
      ∧ 32 ≤ (List.replicate 32 (newRepair .gone none 7 1 3 4)).length := by decide +kernel

/-- A valid ASK for a cue with an entry on the queue, HOLDING and not, its asks at their bound and below;
and one for a cue with none while the queue is full. -/
theorem witness_Ask_entries :
    (∀ st ∈ [RepairState.waiting, .sending, .holding], ∀ n ∈ [254, 255],
        let e := { newRepair .content (some 0) 7 0 44 4 with state := st, asks := n }
        let s := (cueNight 1 { line44 with delivery := .sent }).withLane .A
          { Lane.reset true with repairs := [newRepair .gone none 7 0 43 4, e] }
        s.phase = .ready ∧ ask? (uplink 0x22 17 0 44) = some ⟨0, 17, 7, 0, 13, 44⟩
          ∧ askValid .A ⟨0, 17, 7, 0, 13, 44⟩ s = true ∧ e ∈ (s.lane .A).repairs
          ∧ e.aud = 7 ∧ e.track = 0 ∧ e.num = 44
          ∧ ((s.lane .A).repairs.map fun e => (e.aud, e.track, e.num)).Nodup)
      ∧ ∀ n ∈ [31, 32], ∀ num ∈ [44, 43],
        let s := (cueNight 1 { line44 with delivery := .sent }).withLane .A
          { Lane.reset true with repairs := List.replicate n (newRepair .gone none 7 1 3 4) }
        askValid .A ⟨0, 17, 7, 0, 13, num⟩ s = true ∧ (s.lane .A).repairs.length = n
          ∧ (∀ e ∈ (s.lane .A).repairs, ¬(e.aud = 7 ∧ e.track = 0 ∧ e.num = num))
          ∧ s.findCue 7 0 44 = some { line44 with delivery := .sent } ∧ s.findCue 7 0 43 = none := by
  decide +kernel

theorem witness_StatusRequestsReportClearAndForce :
    Taken .status (msg 21 []) [] (asked 21 [] night) ∧ (msg 21 []).body = []
      ∧ Taken .statusClear (msg 22 (be32 0xFFFFFFFF ++ [1])) []
          (asked 22 (be32 0xFFFFFFFF ++ [1]) night)
      ∧ statusClear? (be32 0xFFFFFFFF ++ [1]) = some (0xFFFFFFFF, true)
      ∧ Taken .statusForce (msg 23 [1, 2]) [] (asked 23 [1, 2] night)
      ∧ statusForce? [1, 2] = some (.set, .clear) := by
  unfold Taken; decide +kernel

end Sys2Proof.Tests
end

section
/-! SUPPORT. The cue table seen from a request on one cue: the addresses of a cue's payload bytes, what the
store reads after they are written, which checks every cue request begins with, and what the consistency of
the table says of one record. -/

namespace Sys2Proof.Machine

/-! ### Payload addresses and payload bytes (R49) -/

/-- Every byte within a cue's declared length has an address (R46, R49). -/
theorem payloadAddr_isSome {blocks : List Nat} {declared k : Nat}
    (hlen : blocks.length = blocksFor declared) (hk : k < declared) :
    (payloadAddr blocks k).isSome = true := by
  have hblock : k / Config.blockBytes < blocks.length := by
    simp only [hlen, blocksFor, Config.blockBytes]
    omega
  simp [payloadAddr, hblock]

/-- Two bytes of a cue whose blocks are distinct never share an address: the address gives back the block
and the place in it. -/
theorem payloadAddr_inj {blocks : List Nat} (hnd : blocks.Nodup) {i j a : Nat}
    (hi : payloadAddr blocks i = some a) (hj : payloadAddr blocks j = some a) : i = j := by
  obtain ⟨x, hx, hxa⟩ := Option.map_eq_some_iff.1 hi
  obtain ⟨y, hy, hya⟩ := Option.map_eq_some_iff.1 hj
  simp only [Config.blockBytes] at hx hy hxa hya
  have hxy : x = y := by omega
  obtain ⟨hlt, -⟩ := List.getElem?_eq_some_iff.1 hx
  have hblock : i / 256 = j / 256 := (List.getElem?_inj hlt hnd).1 (by rw [hx, hy, hxy])
  omega

theorem payloadByte_of_addr {blocks : List Nat} {k a : Nat} (h : payloadAddr blocks k = some a)
    (m : List Host.Cell) : payloadByte blocks m k = memRead m a := by
  simp [payloadByte, h]

/-- Bytes written from payload byte `k` on are read back, as far as the blocks reach. The write of a later
byte spares an earlier one because their addresses differ. -/
theorem payloadByte_writePayload {blocks : List Nat} (hnd : blocks.Nodup) (vs : List Byte) :
    ∀ (k : Nat) (m : List Host.Cell), Memory.wf m = true → ∀ (i : Nat) (v : Byte), vs[i]? = some v →
      (payloadAddr blocks (k + i)).isSome = true →
      payloadByte blocks (writePayload blocks k vs m) (k + i) = v := by
  induction vs with
  | nil => intro k m _ i v hv; simp at hv
  | cons w vs ih =>
    intro k m hm i v hv haddr
    cases i with
    | zero =>
      obtain ⟨a, ha⟩ := Option.isSome_iff_exists.1 haddr
      have hlater : ∀ n, n < vs.length → payloadAddr blocks (k + 1 + n) ≠ some a := by
        intro n _ hn
        have := payloadAddr_inj hnd ha hn
        omega
      rw [payloadByte_of_addr ha]
      simp only [Nat.add_zero] at ha
      simp only [writePayload, ha]
      rw [memRead_writePayload_of_ne blocks vs (k + 1) _ (memWf_memWrite m a w hm) a hlater,
        memRead_memWrite hm]
      simpa using hv
    | succ i =>
      have hstep : k + (i + 1) = k + 1 + i := by omega
      rw [hstep] at haddr ⊢
      unfold writePayload
      refine ih (k + 1) _ ?_ i v (by simpa using hv) haddr
      split
      · exact memWf_memWrite m _ w hm
      · exact hm

/-! ### One record of a consistent table -/

theorem mem_of_findCue {s : State} {a : Aud} {t : Track} {n : Nat} {c : Cue}
    (h : s.findCue a t n = some c) : c ∈ s.table.cues :=
  List.mem_of_find?_eq_some h

/-- No block stands twice in a cue's block list (R50). -/
theorem CueTableOk.blocks_nodup {s : State} (h : CueTableOk s) {c : Cue} (hc : c ∈ s.table.cues) :
    c.blocks.Nodup := by
  obtain ⟨-, -, -, -, -, hperm⟩ := h
  have hall : (s.table.free ++ s.table.cues.flatMap Cue.blocks).Nodup :=
    hperm.nodup_iff.2 List.nodup_range
  exact (List.nodup_flatMap.1 hall.of_append_right).1 c hc

/-- Each payload byte within a cue's declared length has an address. -/
theorem CueTableOk.payloadAddr_isSome {s : State} (h : CueTableOk s) {c : Cue}
    (hc : c ∈ s.table.cues) {k : Nat} (hk : k < c.declared) :
    (payloadAddr c.blocks k).isSome = true := by
  obtain ⟨-, hshape, -⟩ := h
  obtain ⟨-, hlen, -⟩ := hshape c hc
  exact Machine.payloadAddr_isSome hlen hk

/-- A slot holds one cue. -/
theorem CueTableOk.eq_of_slot_eq {s : State} (h : CueTableOk s) {c d : Cue}
    (hc : c ∈ s.table.cues) (hd : d ∈ s.table.cues) (hslot : d.slot = c.slot) : d = c := by
  obtain ⟨hslots, -⟩ := h
  exact List.inj_on_of_nodup_map (hslots.imp Nat.ne_of_lt) hd hc hslot

/-- Writing a changed record back into its slot changes that record alone. -/
theorem CueTableOk.putCue_cues {s : State} (h : CueTableOk s) {c : Cue} (hc : c ∈ s.table.cues)
    (f : Cue → Cue) (hf : (f c).slot = c.slot) :
    (s.putCue (f c)).table.cues = s.table.cues.map fun d => if d.slot = c.slot then f d else d := by
  refine List.map_congr_left fun d hd => ?_
  by_cases hslot : d.slot = c.slot
  · simp [hf, h.eq_of_slot_eq hc hd hslot]
  · simp [hf, hslot]

/-! ### The checks every cue request begins with (R52) -/

/-- Only an OPEN auditorium has tracks. -/
theorem isOpen_of_track? {s : State} {a : Aud} {t : Track} (h : (s.track? a t).isSome = true) :
    s.isOpen a = true := by
  unfold State.isOpen
  cases hw : s.theShow? a with
  | none => simp [State.track?, hw] at h
  | some w => rfl

theorem withTrack_closed {s : State} {a : Aud} (t : Track) (act : TrackRec → Answer)
    (h : s.isOpen a = false) : withTrack a t s act = .error .notOpen := by
  simp [withTrack, h]

theorem withTrack_noTrack {s : State} {a : Aud} {t : Track} (act : TrackRec → Answer)
    (hopen : s.isOpen a = true) (h : s.track? a t = none) :
    withTrack a t s act = .error .noTrack := by
  simp [withTrack, hopen, h]

theorem withTrack_some {s : State} {a : Aud} {t : Track} {r : TrackRec} (act : TrackRec → Answer)
    (h : s.track? a t = some r) : withTrack a t s act = act r := by
  simp [withTrack, h, isOpen_of_track? (s := s) (a := a) (t := t) (by simp [h])]

theorem withCue_noSuch {s : State} {a : Aud} {t : Track} {n : Nat} (act : Cue → Answer)
    (htrack : (s.track? a t).isSome = true) (h : s.findCue a t n = none) :
    withCue a t n s act = .error .noSuch := by
  obtain ⟨r, hr⟩ := Option.isSome_iff_exists.1 htrack
  simp [withCue, withTrack_some _ hr, h]

theorem withCue_some {s : State} {a : Aud} {t : Track} {n : Nat} {c : Cue} (act : Cue → Answer)
    (htrack : (s.track? a t).isSome = true) (h : s.findCue a t n = some c) :
    withCue a t n s act = act c := by
  obtain ⟨r, hr⟩ := Option.isSome_iff_exists.1 htrack
  simp [withCue, withTrack_some _ hr, h]

/-! ### Refusals of a request's own checks -/

theorem withForm_none {α : Type} {parse : List Byte → Option α} {b : List Byte}
    (h : parse b = none) (act : α → State → Answer) (s : State) :
    withForm parse act b s = .error .badFormat := by
  simp [withForm, h]

/-- A command that takes a request refuses what the request's own action refuses. -/
theorem refused_of_act {c : Instr} {row : ReqRow} {act : List Byte → State → Answer} {m : Msg}
    {rest : List Msg} {s : State} {e : Result} (hexec : exec c s = takeRequest row act s)
    (h : Taken row m rest s) (hact : act m.body (s.withInbox rest) = .error e) :
    Refused c m rest e s := by
  obtain ⟨t, ht, hframe, hresp⟩ := refused_request h hact
  exact ⟨t, hexec.trans ht, hresp, hframe⟩

/-- A request whose action begins with `withTrack` refuses a CLOSED auditorium and a missing track. -/
theorem refusedOffTrack_of_withTrack {c : Instr} {row : ReqRow} {act : List Byte → State → Answer}
    {m : Msg} {rest : List Msg} {s : State} {a : Aud} {u : Track} {k : TrackRec → Answer}
    (hexec : exec c s = takeRequest row act s) (h : Taken row m rest s)
    (hact : act m.body (s.withInbox rest) = withTrack a u (s.withInbox rest) k) :
    RefusedOffTrack c m rest a u s :=
  ⟨fun hclosed => refused_of_act hexec h (hact.trans (withTrack_closed u k hclosed)),
    fun hopen hnone => refused_of_act hexec h (hact.trans (withTrack_noTrack k hopen hnone))⟩

end Sys2Proof.Machine
end

section
/-! PROOFS. CUE_DATA (R56, R57). -/

namespace Sys2Proof.Machine

theorem exec_cueData (s : State) : exec .cueData s = execCueData s := rfl

/-- What an accepted CUE_DATA makes of the state (R57). -/
def storeData (c : Cue) (data : List Byte) (s : State) : State :=
  State.putCue
    { s with table := { s.table with payload := writePayload c.blocks c.fill data s.table.payload } }
    { c with fill := c.fill + data.length }

/-- The checks of CUE_DATA on a cue the track holds, in their order, and the state and body of its answer. -/
theorem actCueData_of_findCue {q : CueDataReq} {s : State} {c : Cue}
    (htrack : (s.track? q.aud q.track).isSome = true)
    (hc : s.findCue q.aud q.track q.num = some c) :
    actCueData q s =
      if q.offset ≠ c.fill then .error .order
      else if c.declared < c.fill + q.data.length then .error .badFormat
      else if c.phase = .retained then .error .late
      else accept (storeData c q.data s)
        ([c.rev] ++ be16 (c.fill + q.data.length) ++ be16 c.declared) := by
  unfold actCueData
  rw [withCue_some _ htrack hc]
  rfl

/-- A CUE_DATA that fails a check on its cue answers the first one it fails. -/
theorem actCueData_error {q : CueDataReq} {s : State} {c : Cue}
    (htrack : (s.track? q.aud q.track).isSome = true)
    (hc : s.findCue q.aud q.track q.num = some c)
    (hbad : q.offset ≠ c.fill ∨ c.declared < c.fill + q.data.length ∨ c.phase = .retained) :
    actCueData q s = .error
      (if q.offset ≠ c.fill then .order
       else if c.declared < c.fill + q.data.length then .badFormat else .late) := by
  rw [actCueData_of_findCue htrack hc]
  by_cases hoff : q.offset ≠ c.fill
  · simp only [if_pos hoff]
  by_cases hlen : c.declared < c.fill + q.data.length
  · simp only [if_neg hoff, if_pos hlen]
  · have hret : c.phase = .retained := (hbad.resolve_left hoff).resolve_left hlen
    simp only [if_neg hoff, if_neg hlen, if_pos hret]

/-- A CUE_DATA that passes the checks on its cue is accepted. -/
theorem actCueData_ok {q : CueDataReq} {s : State} {c : Cue}
    (htrack : (s.track? q.aud q.track).isSome = true)
    (hc : s.findCue q.aud q.track q.num = some c) (hoff : q.offset = c.fill)
    (hlen : c.fill + q.data.length ≤ c.declared) (hret : c.phase ≠ .retained) :
    actCueData q s = accept (storeData c q.data s)
      ([c.rev] ++ be16 (c.fill + q.data.length) ++ be16 c.declared) := by
  rw [actCueData_of_findCue htrack hc, if_neg (not_not.2 hoff), if_neg (Nat.not_lt.2 hlen),
    if_neg hret]

/-- An accepted CUE_DATA raises the fill mark of its cue and keeps every other record. -/
theorem storeData_cues {s : State} (htable : CueTableOk s) {c : Cue} (hc : c ∈ s.table.cues)
    (data : List Byte) :
    (storeData c data s).table.cues = s.table.cues.map fun d =>
      if d.slot = c.slot then { d with fill := c.fill + data.length } else d :=
  htable.putCue_cues hc (fun d => { d with fill := c.fill + data.length }) rfl

@[simp] theorem storeData_payload (c : Cue) (data : List Byte) (s : State) :
    (storeData c data s).table.payload = writePayload c.blocks c.fill data s.table.payload := rfl

/-- An accepted CUE_DATA touches the cue records and the payload store alone. -/
theorem same_storeData (p : Part) (hcues : p ≠ .cues) (hpayload : p ≠ .payload) (c : Cue)
    (data : List Byte) (s t : State) : p.same s (storeData c data t) ↔ p.same s t := by
  cases p with
  | cues => exact absurd rfl hcues
  | payload => exact absurd rfl hpayload
  | _ => exact Iff.rfl

/-- The bytes of an accepted CUE_DATA are read back from its cue (R49, R57). -/
theorem payloadByte_storeData {s : State} (htable : CueTableOk s)
    (hwf : Memory.wf s.table.payload = true) {c : Cue} (hc : c ∈ s.table.cues) {data : List Byte}
    (hlen : c.fill + data.length ≤ c.declared) {i : Nat} {v : Byte} (hv : data[i]? = some v) :
    payloadByte c.blocks (storeData c data s).table.payload (c.fill + i) = v := by
  obtain ⟨hi, -⟩ := List.getElem?_eq_some_iff.1 hv
  exact payloadByte_writePayload (htable.blocks_nodup hc) data c.fill _ hwf i v hv
    (htable.payloadAddr_isSome hc (by omega))

theorem cueData_refused {m : Msg} {rest : List Msg} {s : State} {q : CueDataReq} {e : Result}
    (h : Taken .cueData m rest s) (hq : cueData? m.body = some q)
    (hact : actCueData q (s.withInbox rest) = .error e) : Refused .cueData m rest e s :=
  refused_of_act (exec_cueData s) h ((withForm_some hq _ _).trans hact)

/-- An accepted CUE_DATA: the next state, its response and its frame. -/
theorem cueData_accepted {m : Msg} {rest : List Msg} {s : State} {q : CueDataReq} {c : Cue}
    {body : List Byte} (h : Taken .cueData m rest s) (hq : cueData? m.body = some q)
    (hact : actCueData q (s.withInbox rest) = accept (storeData c q.data (s.withInbox rest)) body) :
    ∃ t, exec .cueData s = .next t ∧ t.table = (storeData c q.data s).table
      ∧ Responded m rest .ok false body s t
      ∧ ChangesOnly [.cues, .payload, .inbox, .outbox] s t := by
  have hframe : ∀ p : Part, p ∉ [Part.cues, Part.payload] → p ≠ .inbox → p ≠ .outbox →
      p.same s (storeData c q.data (s.withInbox rest)) := by
    intro p hp hin _
    simp only [List.mem_cons, List.not_mem_nil, not_or, or_false] at hp
    obtain ⟨hcues, hpayload⟩ := hp
    exact (same_storeData p hcues hpayload ..).2 (same_withInbox p hin rest s)
  obtain ⟨hnext, hchanges, hresp⟩ :=
    accepted_request h ((withForm_some hq _ _).trans hact) rfl rfl hframe
  exact ⟨_, (exec_cueData s).trans hnext, rfl, hresp, hchanges⟩

/-- Settles O44: CUE_DATA's checks in their order, and the bytes and the fill mark of an accepted one. -/
theorem cueDataRaisesTheFillMark : Obligations.CueDataRaisesTheFillMark := by
  intro m rest s h
  refine ⟨fun hq => refused_of_act (exec_cueData s) h (withForm_none hq _ _), fun q hq =>
    ⟨refusedOffTrack_of_withTrack (exec_cueData s) h (withForm_some hq _ _),
      fun htrack hnone => cueData_refused h hq (withCue_noSuch _ htrack hnone),
      fun c htrack hfind htable hwf => ⟨fun hoff hlen hret => ?_, fun hbad => ?_⟩⟩⟩
  · have hc : c ∈ s.table.cues := mem_of_findCue hfind
    obtain ⟨t, hnext, ht, hresp, hchanges⟩ :=
      cueData_accepted h hq (actCueData_ok (s := s.withInbox rest) htrack hfind hoff hlen hret)
    refine ⟨t, hnext, ?_, fun i v hv => ?_, fun j hj => ?_, hresp, hchanges⟩
    · rw [ht, storeData_cues htable hc]
    · rw [ht, payloadByte_storeData htable hwf hc hlen hv]
    · rw [ht, storeData_payload, memRead_writePayload_of_ne c.blocks q.data c.fill _ hwf j hj]
  · obtain ⟨t, hnext, hresp, hchanges⟩ := cueData_refused h hq
      (actCueData_error (s := s.withInbox rest) htrack hfind hbad)
    exact ⟨t, hnext, hchanges, hresp⟩

end Sys2Proof.Machine
end

section
/-! SUPPORT. The directory, the roster and the conditions, one rule for each operation: what a changed track
record, a lowered listener count, a rewritten roster record and a written condition show afterwards. -/

namespace Sys2Proof.Machine

/-! ### The directory after a change of one track record -/

theorem State.theShow?_modTrack (s : State) (a b : Aud) (t : Track) (f : TrackRec → TrackRec) :
    (s.modTrack a t f).theShow? b =
      if b = a then (s.theShow? a).map fun w => { w with tracks := w.tracks.modify t.val f }
      else s.theShow? b := by
  unfold State.modTrack
  cases hw : s.theShow? a with
  | none =>
    by_cases hb : b = a
    · simp [hb, hw]
    · simp [hb]
  | some w => simp [State.theShow?, vput_get]

theorem State.theShow?_modTrack_of_ne (s : State) {a b : Aud} (t : Track) (f : TrackRec → TrackRec)
    (h : b ≠ a) : (s.modTrack a t f).theShow? b = s.theShow? b := by
  rw [State.theShow?_modTrack, if_neg h]

@[simp] theorem State.laneOf?_modTrack (s : State) (a b : Aud) (t : Track) (f : TrackRec → TrackRec) :
    (s.modTrack a t f).laneOf? b = s.laneOf? b := by
  unfold State.laneOf?
  rw [State.theShow?_modTrack]
  by_cases h : b = a
  · subst h; cases s.theShow? b <;> simp
  · simp [h]

@[simp] theorem State.cueCount_modTrack (s : State) (a b : Aud) (t : Track)
    (f : TrackRec → TrackRec) : (s.modTrack a t f).cueCount b = s.cueCount b := by
  unfold State.cueCount
  rw [State.theShow?_modTrack]
  by_cases h : b = a
  · subst h; cases s.theShow? b <;> simp
  · simp [h]

theorem State.track?_modTrack (s : State) (a b : Aud) (t u : Track) (f : TrackRec → TrackRec) :
    (s.modTrack a t f).track? b u =
      if b = a ∧ u = t then (s.track? a t).map f else s.track? b u := by
  unfold State.track?
  rw [State.theShow?_modTrack]
  by_cases hb : b = a
  · subst hb
    cases s.theShow? b with
    | none => simp
    | some w =>
      by_cases hu : u = t
      · simp [hu]
      · simp [hu, Fin.val_ne_of_ne (Ne.symm hu)]
  · simp [hb]

/-! ### Listener counts (R138) -/

theorem State.listeners_countDown (s : State) (a : Aud) (t : Track) :
    (s.countDown a t).listeners a t = s.listeners a t - 1 := by
  cases h : s.track? a t <;> simp [State.listeners, State.countDown, State.track?_modTrack, h]

theorem State.listeners_unCount (s : State) (r : RxRec) :
    (s.unCount r).listeners r.aud r.track =
      if s.counted r = true then s.listeners r.aud r.track - 1 else s.listeners r.aud r.track := by
  unfold State.unCount
  split
  · exact s.listeners_countDown r.aud r.track
  · rfl

theorem State.theShow?_unCount_of_ne (s : State) {r : RxRec} {a : Aud} (h : a ≠ r.aud) :
    (s.unCount r).theShow? a = s.theShow? a := by
  unfold State.unCount
  split
  · exact s.theShow?_modTrack_of_ne r.track _ h
  · rfl

theorem listenersOnly_modTrack (s : State) (a : Aud) (t : Track) (g : Nat → Nat) :
    ListenersOnly [(a, t)] s (s.modTrack a t fun w => { w with listeners := g w.listeners }) := by
  refine fun b => ⟨s.laneOf?_modTrack .., s.cueCount_modTrack .., fun v => ?_⟩
  rw [State.track?_modTrack]
  by_cases hv : b = a ∧ v = t
  · obtain ⟨rfl, rfl⟩ := hv
    cases hw : s.track? b v <;> simp [State.listeners, State.track?_modTrack, hw]
  · simp [hv]

theorem listenersOnly_refl (ps : List (Aud × Track)) (s : State) : ListenersOnly ps s s := by
  refine fun a => ⟨rfl, rfl, fun v => ?_⟩
  cases hw : s.track? a v <;> simp [State.listeners, hw]

theorem listenersOnly_unCount (s : State) (r : RxRec) :
    ListenersOnly [(r.aud, r.track)] s (s.unCount r) := by
  unfold State.unCount
  split
  · exact listenersOnly_modTrack s r.aud r.track (· - 1)
  · exact listenersOnly_refl _ s

theorem State.theShow?_congr {s t : State} (h : t.directory = s.directory) (a : Aud) :
    t.theShow? a = s.theShow? a := by
  unfold State.theShow?
  rw [h]

theorem State.listeners_congr {s t : State} (h : t.directory = s.directory) (a : Aud) (u : Track) :
    t.listeners a u = s.listeners a u := by
  unfold State.listeners State.track?
  rw [State.theShow?_congr h]

/-- `ListenersOnly` speaks of the directory alone. -/
theorem ListenersOnly.of_directory {ps : List (Aud × Track)} {s t u : State}
    (h : ListenersOnly ps s t) (hdir : u.directory = t.directory) : ListenersOnly ps s u := by
  intro a
  obtain ⟨hlane, hcount, htrack⟩ := h a
  unfold State.laneOf? State.cueCount State.track? at *
  simp only [State.theShow?_congr hdir, State.listeners_congr hdir]
  exact ⟨hlane, hcount, htrack⟩

/-! ### The record at an index (R135) -/

theorem State.index_of_rx? {s : State} {i : RxIdx} {r : RxRec} (h : s.rx? i = some r) :
    r.index = i := by
  simpa using List.find?_some h

/-- The record at any index after one record has been written back. -/
theorem State.rx?_putRx (s : State) (r : RxRec) (i : RxIdx) :
    (s.putRx r).rx? i = (s.rx? i).map fun x => if x.index == r.index then r else x := by
  unfold State.rx? State.putRx
  rw [List.find?_map]
  congr 2
  funext x
  by_cases hx : x.index = r.index <;> simp [hx]

theorem State.rx?_putRx_self {s : State} {r x : RxRec} {i : RxIdx} (h : s.rx? i = some x)
    (hr : r.index = i) : (s.putRx r).rx? i = some r := by
  simp [State.rx?_putRx, h, hr, State.index_of_rx? h]

theorem State.rx?_putRx_of_ne (s : State) {r : RxRec} {i : RxIdx} (h : i ≠ r.index) :
    (s.putRx r).rx? i = s.rx? i := by
  rw [State.rx?_putRx]
  cases hx : s.rx? i with
  | none => rfl
  | some x => simp [State.index_of_rx? hx, h]

/-! ### Conditions -/

theorem State.cond_withCond_self (s : State) (c : Cond) (x : CondState) :
    (s.withCond c x).cond c = x :=
  vput_get_self ..

/-- The bit of a condition is its place in section 10.1's order. -/
theorem allConds_getElem?_condIdx (c : Cond) : allConds[(condIdx c).val]? = some c := by
  cases c <;> rfl

theorem condIdx_injective : Function.Injective condIdx := by
  intro c d h
  have hc := allConds_getElem?_condIdx c
  rw [h, allConds_getElem?_condIdx d] at hc
  exact (Option.some.inj hc).symm

theorem State.cond_withCond_of_ne (s : State) {c d : Cond} (x : CondState) (h : d ≠ c) :
    (s.withCond c x).cond d = s.cond d :=
  vput_get_of_ne _ _ (condIdx_injective.ne h)

end Sys2Proof.Machine
end

section
/-! PROOFS. The deadlines of the Receiver Roster (R147, R148). -/

namespace Sys2Proof.Machine

theorem exec_joinDeadlineExpiry (i : RxIdx) (s : State) :
    exec (.joinDeadlineExpiry i) s = execJoinDeadlineExpiry i s := rfl

theorem exec_silenceDeadlineExpiry (i : RxIdx) (s : State) :
    exec (.silenceDeadlineExpiry i) s = execSilenceDeadlineExpiry i s := rfl

theorem exec_lossDeadlineExpiry (i : RxIdx) (s : State) :
    exec (.lossDeadlineExpiry i) s = execLossDeadlineExpiry i s := rfl

/-! ### Entering LOST (R148) -/

theorem enterLost_directory (s : State) (r : RxRec) (why : LossReason) :
    (enterLost r why s).directory = (s.unCount r).directory := by
  simp [enterLost]

theorem enterLost_roster (s : State) (r : RxRec) (why : LossReason) :
    (enterLost r why s).roster =
      (s.putRx { r with state := .lost, loss := some why, movedFrom := none, joinDl := none }).roster := by
  have hroster : (s.unCount r).roster = s.roster := by simp
  unfold State.putRx
  rw [← hroster]
  rfl

/-- The record that enters LOST, and every other. -/
theorem rx?_enterLost {s : State} {i : RxIdx} {r : RxRec} (hr : s.rx? i = some r)
    (why : LossReason) :
    (enterLost r why s).rx? i
        = some { r with state := .lost, loss := some why, movedFrom := none, joinDl := none }
      ∧ ∀ j, j ≠ i → (enterLost r why s).rx? j = s.rx? j := by
  have hi : r.index = i := State.index_of_rx? hr
  unfold State.rx? at *
  rw [enterLost_roster]
  exact ⟨State.rx?_putRx_self hr hi, fun j hj => State.rx?_putRx_of_ne s (hi.symm ▸ hj)⟩

theorem lane_enterLost (s : State) (r : RxRec) (why : LossReason) (l : LaneId) :
    (enterLost r why s).lane l =
      { s.lane l with rotation := (s.lane l).rotation.filter fun x => x != r.index } := by
  have hlane : ∀ k, (s.unCount r).lane k = s.lane k := fun k => by simp [State.lane]
  rw [← hlane]
  cases l <;> rfl

theorem cond_enterLost (s : State) (r : RxRec) (why : LossReason) (c : Cond) :
    (enterLost r why s).cond c = if c = .rxLost then ⟨true, .aud r.aud⟩ else s.cond c := by
  have hcond : (s.unCount r).cond c = s.cond c := by simp [State.cond]
  split
  next h => subst h; exact State.cond_withCond_self ..
  next h => exact (State.cond_withCond_of_ne _ _ h).trans hcond

/-- Entering LOST touches the record, its count, the rotations and RX_LOST alone. -/
theorem same_enterLost {p : Part} {s : State} {r : RxRec} {why : LossReason}
    (hp : p ∉ [.show_ r.aud, .lane .A, .lane .B, .roster, .cond .rxLost]) :
    p.same s (enterLost r why s) := by
  simp only [List.mem_cons, List.not_mem_nil, not_or, or_false] at hp
  obtain ⟨hshow, hA, hB, hroster, hcond⟩ := hp
  cases p with
  | show_ a =>
    exact (State.theShow?_congr (enterLost_directory s r why) a).trans
      (s.theShow?_unCount_of_ne fun h => hshow (h ▸ rfl))
  | lane l => cases l with
    | A => exact absurd rfl hA
    | B => exact absurd rfl hB
  | roster => exact absurd rfl hroster
  | cond c =>
    have hc : c ≠ .rxLost := fun h => hcond (h ▸ rfl)
    exact (cond_enterLost s r why c).trans (if_neg hc)
  | sync a => simp [Part.same, State.syncIn]
  | timeline a => simp [Part.same, State.timeline]
  | setting k => simp [Part.same, State.setting]
  | audCounter a c => simp [Part.same, State.audCount]
  | laneCounter l c => simp [Part.same, State.laneCount]
  | _ => simp [Part.same]

/-! ### Reached deadlines (R17, R147) -/

theorem expired_of_reached {s : State} {d : SiteTime} (hphase : s.phase ≠ .inReset)
    (hd : 0 ≤ Machine.sdiff s.clock.time d) : expired s (some d) = true := by
  simp [expired, reached, hphase, hd]

/-- An expiry into SILENT rewrites the record alone. -/
theorem changesOnly_putRx (s : State) (r : RxRec) : ChangesOnly [.roster] s (settle (s.putRx r)) := by
  refine changesOnly_settle fun p hp => ?_
  cases p with
  | roster => exact absurd (List.mem_singleton.2 rfl) hp
  | txn | forced => exact ⟨rfl, rfl⟩
  | _ => rfl

/-- Settles O51: each of the four expiries runs its own case of the machine, and three of them enter LOST. -/
theorem deadlinesExpireRecords : Obligations.DeadlinesExpireRecords := by
  intro i s r d hphase hr hd lost
  have hi : r.index = i := State.index_of_rx? hr
  have hexp : expired s (some d) = true := expired_of_reached hphase hd
  have lost_of_exec : ∀ c why, exec c s = done (enterLost r why s) → lost c why := by
    intro c why hexec
    obtain ⟨hself, hothers⟩ := rx?_enterLost hr why
    have hdir := enterLost_directory s r why
    refine ⟨_, hexec, hself, hothers, (State.listeners_congr hdir ..).trans (s.listeners_unCount r),
      (listenersOnly_unCount s r).of_directory hdir, fun l => ?_,
      (cond_enterLost s r why .rxLost).trans (if_pos rfl),
      changesOnly_settle fun p => same_enterLost⟩
    rw [← hi]
    exact lane_enterLost s r why l
  refine ⟨fun hdl hst => lost_of_exec _ _ ?_, fun hdl hst => lost_of_exec _ _ ?_,
    fun hdl hst => lost_of_exec _ _ ?_, fun hdl hst => ?_⟩
  · simp [exec_joinDeadlineExpiry, execJoinDeadlineExpiry, hr, hdl, hst, hexp]
  · simp [exec_joinDeadlineExpiry, execJoinDeadlineExpiry, hr, hdl, hst, hexp]
  · simp [exec_lossDeadlineExpiry, execLossDeadlineExpiry, hr, hdl, hst, hexp]
  · refine ⟨settle (s.putRx { r with state := .silent }), ?_, State.rx?_putRx_self hr hi,
      fun j hj => State.rx?_putRx_of_ne s (hi.symm ▸ hj), changesOnly_putRx ..⟩
    simp [exec_silenceDeadlineExpiry, execSilenceDeadlineExpiry, hr, hdl, hst, hexp, done]

end Sys2Proof.Machine
end

section
/-! PROOFS. RX_ISSUE (R139, R140): a counterexample to the statement's clause on step 7's place.

The statement gives the lane after a rise from 0 as `lessPassedOver` makes it, in every state. If step 7 of a build
has its place beyond the end of the Repair Queue, `lessPassedOver` moves the place back to the end, even when no cue
was passed over. RX_ISSUE tells the lane about cues that were passed over and about no other, so with none it leaves
the place as it is. No hypothesis of the statement keeps the place within the queue. -/

namespace Sys2Proof.Machine

/-- The RX_ISSUE of serial 1, a caption display, for track 0 of auditorium 0. -/
def issueMsg : Msg := ⟨be8 11 ++ be8 0 ++ be16 6 ++ (be24 1 ++ [0, 0, 0]), 10⟩

/-- Auditorium 0's one track: captions, no cue, no listener. -/
def emptyTrack : TrackRec :=
  { kind := .caption, lang := ⟨0x65, 0x6e, 0x67⟩, base := 0, limit := 9, listeners := 0,
    lastDone := none, lineup := [] }

/-- A lane whose Repair Queue is empty while step 7 of its build has passed one entry. -/
def laneBeyondItsQueue : Lane :=
  { Lane.reset true with
    state := .running, buf0 := .building ⟨.A, 1, 0, false, []⟩
    build := some ⟨.b0, 0, 1, [], [], .repairs 1 0⟩ }

/-- The part ready to take the RX_ISSUE, auditorium 0 open on that lane. -/
def issueBeyondTheQueue : State :=
  { State.reset with
    phase := .ready
    directory := vput State.reset.directory 0 (some ⟨.A, [emptyTrack], 0⟩)
    lanes := ⟨laneBeyondItsQueue, Lane.reset true⟩
    link := { State.reset.link with inbox := [issueMsg] } }

theorem issueBeyondTheQueue_taken : Taken .rxIssue issueMsg [] issueBeyondTheQueue := by
  unfold Taken; decide +kernel

theorem issueBeyondTheQueue_lineup :
    ∀ (a : Aud) (t : Track), issueBeyondTheQueue.lineup a t = [] := by decide +kernel

theorem issueBeyondTheQueue_cueCount :
    ∀ a, ∀ w ∈ issueBeyondTheQueue.theShow? a,
      w.cueCount = (w.tracks.map fun r => r.lineup.length).sum := by decide +kernel

theorem issueBeyondTheQueue_table : issueBeyondTheQueue.table = State.reset.table := by
  unfold issueBeyondTheQueue; rfl

theorem issueBeyondTheQueue_cueTableOk : CueTableOk issueBeyondTheQueue := by
  refine ⟨List.Pairwise.nil, fun c hc => absurd hc List.not_mem_nil, fun a t => ?_, fun a t k => ?_,
    fun a w hw => issueBeyondTheQueue_cueCount a w hw, ?_⟩
  · simp [issueBeyondTheQueue_lineup]
  · simp [issueBeyondTheQueue_lineup, issueBeyondTheQueue_table, State.reset]
  · simp [issueBeyondTheQueue_table, State.reset, Config.payloadBlocks]

/-- The stage of lane A's build once a command has run. -/
def stageAfter (c : Instr) (s : State) : Option Stage :=
  match exec c s with
  | .next t => (t.lane .A).build.map Build.stage
  | _ => none

theorem stageAfter_of_exec {c : Instr} {s t : State} (h : exec c s = .next t) :
    stageAfter c s = (t.lane .A).build.map Build.stage := by
  simp [stageAfter, h]

/-- RX_ISSUE leaves the place where it is. -/
theorem stageAfter_issueBeyondTheQueue :
    stageAfter .rxIssue issueBeyondTheQueue = some (.repairs 1 0) := by decide +kernel

/-- `lessPassedOver` moves it back to the queue's end. -/
theorem lessPassedOver_issueBeyondTheQueue :
    (lessPassedOver 0 0 issueBeyondTheQueue (issueBeyondTheQueue.lane .A)).build.map Build.stage
      = some (.repairs 0 0) := by decide +kernel

/-- Refutes O47: with step 7's place beyond the end of an empty Repair Queue, and no cue on the track, an
RX_ISSUE keeps the place, where the statement has it moved back to 0. -/
theorem not_rxIssueWritesTheLowestFreeRecord :
    ¬ Obligations.RxIssueWritesTheLowestFreeRecord := by
  intro h
  obtain ⟨-, hform⟩ := h issueMsg [] issueBeyondTheQueue issueBeyondTheQueue_taken
  obtain ⟨-, htrack⟩ := hform ⟨1, .captionDisplay, 0, 0, []⟩ (by decide +kernel)
  obtain ⟨-, -, -, haccepted⟩ := htrack emptyTrack (by decide +kernel) (by decide +kernel)
  obtain ⟨t, hexec, -, -, -, -, hlane, -⟩ := haccepted .A 0 rfl rfl rfl
    (fun j hj => absurd hj (Nat.not_lt_zero _)) (by decide +kernel) issueBeyondTheQueue_cueTableOk
  have hnone : emptyTrack.listeners = 0 := rfl
  have hbuild : (t.lane .A).build
      = (lessPassedOver 0 0 issueBeyondTheQueue (issueBeyondTheQueue.lane .A)).build := by
    rw [hlane]
    simp only [if_pos hnone]
  have hstage := stageAfter_of_exec hexec
  rw [hbuild, stageAfter_issueBeyondTheQueue, lessPassedOver_issueBeyondTheQueue] at hstage
  exact absurd hstage (by decide)

end Sys2Proof.Machine
end

section
/-! SUPPORT. Requests whose action leaves the state as it is: they answer, and change nothing else. -/

namespace Sys2Proof.Machine

/-- An action that, when it accepts, leaves the state as it found it. -/
def ReadOnly {α : Type} (act : α → State → Answer) : Prop :=
  ∀ x s r, act x s = .ok r → r.st = s

/-- An action that always accepts the state it was given, whatever the body, is read-only. -/
theorem readOnly_of_accept {α : Type} {act : α → State → Answer}
    (hact : ∀ x s, ∃ body, act x s = accept s body) : ReadOnly act := by
  intro x s r hr
  obtain ⟨body, hbody⟩ := hact x s
  rw [hbody] at hr
  cases hr
  rfl

/-- The form check keeps an action read-only. -/
theorem ReadOnly.withForm {α : Type} {act : α → State → Answer} (hact : ReadOnly act)
    (parse : List Byte → Option α) : ReadOnly (withForm parse act) := by
  intro b s r hr
  cases hx : parse b with
  | none =>
    rw [withForm_none hx] at hr
    cases hr
  | some x =>
    rw [withForm_some hx] at hr
    exact hact x s r hr

/-- A request with a read-only action changes only the inbox and the outbox, and its response carries what
the action answers: a refusal without a body, or OK with the reply's body (R164). -/
theorem exec_of_readOnly {c : Instr} {row : ReqRow} {act : List Byte → State → Answer} {m : Msg}
    {rest : List Msg} {s : State} (hexec : exec c s = takeRequest row act s) (h : Taken row m rest s)
    (hact : ReadOnly act) :
    ∃ t, exec c s = .next t ∧ ChangesOnly [.inbox, .outbox] s t
      ∧ (∀ e, act m.body (s.withInbox rest) = .error e → Responded m rest e false [] s t)
      ∧ (∀ u body, act m.body (s.withInbox rest) = accept u body →
          Responded m rest .ok false body s t) := by
  cases hans : act m.body (s.withInbox rest) with
  | error e =>
    obtain ⟨t, hnext, hframe, hresp⟩ := refused_request h hans
    refine ⟨t, hexec.trans hnext, hframe, fun e' he => ?_, fun u body hok => ?_⟩
    · rwa [← Except.error.inj he]
    · simp [accept] at hok
  | ok r =>
    have hst : r.st = s.withInbox rest := hact _ _ r hans
    have hin : r.st.link.inbox = rest := by rw [hst]; rfl
    have hout : r.st.link.outbox = s.link.outbox := by rw [hst]; rfl
    have hsame : ∀ p : Part, p ∉ [] → p ≠ .inbox → p ≠ .outbox → p.same s r.st := by
      intro p _ hp _
      rw [hst]
      exact same_withInbox p hp rest s
    obtain ⟨hnext, hframe, hresp⟩ := accepted_request h hans hin hout hsame
    refine ⟨_, hexec.trans hnext, hframe, fun e he => ?_, fun u body hok => ?_⟩
    · cases he
    · have hr : r = ⟨u, body, false⟩ := Except.ok.inj hok
      subst hr
      exact hresp

end Sys2Proof.Machine
end

section
/-! PROOFS. IDENTIFY (R169). -/

namespace Sys2Proof.Machine

theorem exec_identify (s : State) : exec .identify s = execIdentify s := rfl

theorem noBody?_of_ne_nil {b : List Byte} (h : b ≠ []) : noBody? b = none :=
  if_neg fun hlen => h (List.length_eq_zero_iff.1 hlen)

/-- The fields of the identity, most significant byte first (R169, R181). -/
theorem actIdentify_eq (s : State) :
    actIdentify () s
      = accept s [0x09, 0x92, 0x03, 0x18, 0x02, 0x00, 0x08, 0x00, 0x04, 0x00] := rfl

theorem actIdentify_readOnly : ReadOnly actIdentify :=
  readOnly_of_accept fun _ s => ⟨_, actIdentify_eq s⟩

/-- Settles O21: IDENTIFY's action is read-only, and a body fails its form check. -/
theorem identifyGivesThePart : Obligations.IdentifyGivesThePart := by
  intro m rest s h
  obtain ⟨t, hnext, hframe, hrefused, haccepted⟩ :=
    exec_of_readOnly (exec_identify s) h (actIdentify_readOnly.withForm noBody?)
  refine ⟨t, hnext, hframe, fun hbody => ?_, fun hbody => ?_⟩
  · have hform : noBody? m.body = some () := by rw [hbody]; rfl
    exact haccepted _ _ ((withForm_some hform _ _).trans (actIdentify_eq _))
  · exact hrefused _ (withForm_none (noBody?_of_ne_nil hbody) _ _)

end Sys2Proof.Machine
end

section
/-! PROOFS. GET (R168). -/

namespace Sys2Proof.Machine

theorem exec_getSetting (s : State) : exec .getSetting s = execGetSetting s := rfl

/-! ### The numbers of the settings (R166, R181) -/

theorem allSettings_getElem?_settingIdx (k : Setting) :
    allSettings[(settingIdx k).val]? = some k := by
  cases k <;> rfl

/-- A setting's number names it. -/
theorem setting?_settingNumber (k : Setting) : setting? (settingNumber k) = some k := by
  simp [setting?, settingNumber, allSettings_getElem?_settingIdx]

theorem setting?_of_gt {n : Nat} (h : 25 < n) : setting? n = none := by
  have hlen : allSettings.length ≤ n - 1 := by
    simp only [allSettings, List.length_cons, List.length_nil]
    omega
  rw [setting?, if_neg (by omega), List.getElem?_eq_none hlen]

/-- A number below 256 is read back from the one byte it is written in. -/
theorem rd8_be8 {n : Nat} (h : n < 256) : rd8 (be8 n) 0 = n := by
  simp [rd8, be8, Nat.mod_eq_of_lt h]

/-! ### GET's operand -/

theorem get?_all : get? [0] = some none := rfl

theorem get?_settingNumber (k : Setting) : get? (be8 (settingNumber k)) = some (some k) := by
  have hlt : settingNumber k < 256 := by
    have := (settingIdx k).isLt
    simp only [settingNumber]
    omega
  have hpos : settingNumber k ≠ 0 := Nat.succ_ne_zero _
  have hlen : (be8 (settingNumber k)).length = 1 := rfl
  rw [get?, if_pos hlen, rd8_be8 hlt, if_neg hpos, setting?_settingNumber]
  rfl

theorem get?_none {b : List Byte} (h : b.length ≠ 1 ∨ 25 < rd8 b 0) : get? b = none := by
  by_cases hlen : b.length = 1
  · have hgt : 25 < rd8 b 0 := h.resolve_left (not_not.2 hlen)
    rw [get?, if_pos hlen, if_neg (by omega), setting?_of_gt hgt]
    rfl
  · exact if_neg hlen

/-! ### GET's action -/

theorem actGet_some (k : Setting) (s : State) :
    actGet (some k) s = accept s (be8 (settingNumber k) ++ be32 (s.setting k)) := rfl

theorem actGet_none (s : State) :
    actGet none s
      = accept s (allSettings.flatMap fun k => be8 (settingNumber k) ++ be32 (s.setting k)) := rfl

theorem actGet_readOnly : ReadOnly actGet := by
  apply readOnly_of_accept
  intro q s
  cases q with
  | none => exact ⟨_, actGet_none s⟩
  | some k => exact ⟨_, actGet_some k s⟩

/-- Settles O22: GET's action is read-only, and its operand names one setting, ALL, or fails the form
check. -/
theorem getReadsTheSettings : Obligations.GetReadsTheSettings := by
  intro m rest s h
  obtain ⟨t, hnext, hframe, hrefused, haccepted⟩ :=
    exec_of_readOnly (exec_getSetting s) h (actGet_readOnly.withForm get?)
  refine ⟨t, hnext, hframe, fun k hbody => ?_, fun hbody => ?_, fun hbad => ?_⟩
  · have hform : get? m.body = some (some k) := by rw [hbody, get?_settingNumber]
    exact haccepted _ _ ((withForm_some hform _ _).trans (actGet_some k _))
  · have hform : get? m.body = some none := by rw [hbody, get?_all]
    exact haccepted _ _ ((withForm_some hform _ _).trans (actGet_none _))
  · exact hrefused _ (withForm_none (get?_none hbad) _ _)

end Sys2Proof.Machine
end

section
/-! SUPPORT. What each command can do, said once: the change an accepted request or an event makes, as a
relation with one constructor for each of them, and the rule by which every invariant and every frame of the
whole machine follows from it. -/

namespace Sys2Proof.Machine

/-! ### The changes of the requests, named -/

/-- SHOW_OPEN opens the auditorium and begins its run (R4 to R6). -/
def beginRun (q : ShowOpenReq) (s : State) : State :=
  let s := { s with directory := vput s.directory q.aud (some ⟨q.lane, q.tracks, 0⟩) }
  let s := s.withTimeline q.aud
    (openedTimeline (s.timeline q.aud) q.rate (s.syncIn q.aud).gate)
  s.withSync q.aud { s.syncIn q.aud with capture := none }

/-- An accepted SHOW_OPEN (R4 to R8). -/
def openShow (q : ShowOpenReq) (s : State) : State :=
  rePlace q.aud q.lane (recountTracks q.aud (recountFlags q.aud (beginRun q s)))

/-- A SHOW_CLOSE frees what the auditorium holds (R13, R14). -/
def emptyShow (a : Aud) (l : LaneId) (s : State) : State :=
  State.forCues (fun c s => s.freeCue c) (s.slotsOf a) (clearTraffic a l s)

/-- The auditorium is CLOSED, its Timeline INACTIVE with the epoch kept (R13, R15). -/
def shutShow (a : Aud) (s : State) : State :=
  let s := { s with directory := vput s.directory a none }
  let s := s.withTimeline a { Timeline.reset with epoch := (s.timeline a).epoch }
  s.withSync a { s.syncIn a with capture := none }

/-- An accepted SHOW_CLOSE (R13 to R15). -/
def closeShow (a : Aud) (l : LaneId) (s : State) : State :=
  (shutShow a (emptyShow a l s)).judgeTimelines a

/-- The release that a SYNC_MODE makes first: the capture slot is emptied, a gated Timeline released (R22). -/
def syncReleased (a : Aud) (s : State) : State :=
  let s := s.withSync a { s.syncIn a with capture := none }
  if (s.timeline a).gated then gateIsReleased a s else s

/-- An accepted SYNC_MODE (R22). -/
def syncModeSet (a : Aud) (m : Sens) (s : State) : State :=
  let gate := gateOf m (s.syncIn a).level
  let s := syncReleased a s
  let s := s.withSync a { s.syncIn a with sens := m, gate := gate }
  if gate then gateBecomesActive a s else s

/-- The pairing of a report taken now (R29). -/
def pairingOf (q : ReportReq) (s : State) : Pairing :=
  if q.kind = .stopped then ⟨s.clock.time, false, false⟩
  else pairReport (s.syncIn q.aud) s.clock.time (s.setting .pairWindow)

/-- What a report taken now does to its Timeline (R26 to R38). -/
def effectOf (q : ReportReq) (s : State) : ReportEffect :=
  reportEffect (s.setting .tLock) (s.setting .jumpConfirm) q.kind (pairingOf q s).tRef q.pos
    (match q.rate with
      | some r => clampRate r
      | none => (s.timeline q.aud).rate)
    { s.timeline q.aud with lastKind := some q.kind }

/-- A report empties the capture slot, is counted if unpaired, and has its effect on the Timeline (R28, R29). -/
def reportWritten (q : ReportReq) (s : State) : State :=
  let s1 := s.withSync q.aud { s.syncIn q.aud with capture := none }
  let s2 := if (pairingOf q s).counts then s1.countAud q.aud .unpaired else s1
  s2.withTimeline q.aud (acceptReport s.clock.time (effectOf q s))

/-- A strike is counted, and one that does not confirm a jump captures TL_GLITCH (R32). -/
def strikeNoted (a : Aud) (e : ReportEffect) (s : State) : State :=
  let s := if e.struck then s.countAud a .strikes else s
  if e.outcome = .strike then s.latch .tlGlitch (.aud a) else s

/-- An accepted TIMELINE_REPORT (R27 to R38). -/
def reportTaken (q : ReportReq) (s : State) : State :=
  let e := effectOf q s
  let s := strikeNoted q.aud e (reportWritten q s)
  (if e.outcome = .jump then jumpEffects q.aud q.pos s else s).judgeTimelines q.aud

/-- An accepted CUE_WITHDRAW (R61). -/
def withdrawCue (c : Cue) (s : State) : State :=
  ((withdrawNotice c s).1.turnRepairsGone c.aud c.track c.num).freeCue c

/-- An RX_RETURN takes the record out of its count and the rotations (R144). -/
def leaveRoster (r : RxRec) (s : State) : State :=
  ((s.unCount r).rotRemove .A r.index).rotRemove .B r.index

/-- An RX_RETURN's RELEASE notices, lane A's first (R145). -/
def releaseNotices (r : RxRec) (onA onB : Bool) (s : State) : State :=
  (releaseNotice onB r .B (releaseNotice onA r .A s).1).1

/-- An accepted RX_RETURN (R144, R145). -/
def returnRx (r : RxRec) (s : State) : State :=
  let u := releaseNotices r (releaseOn s r .A) (releaseOn s r .B) (leaveRoster r s)
  { u with roster := u.roster.filter fun x => x.index != r.index }

/-- An accepted SET (R167). -/
def setTo (k : Setting) (v : Nat) (s : State) : State :=
  let w := effective s k v
  let u := raisePartner k w (s.withSetting k w)
  if k = .poolLowMark then u.judgePool .nobody else u

/-- An accepted STATUS_CLEAR (R178). -/
def statusCleared (mask : Nat) (zero : Bool) (s : State) : State :=
  if zero then (clearLatched mask s).zeroCounters else clearLatched mask s

/-- An accepted STATUS_FORCE (R179). -/
def forceFlags (f n : Force) (s : State) : State :=
  { s with
    status := { s.status with
      forcedFault := forceTo f s.status.forcedFault
      forcedNotice := forceTo n s.status.forcedNotice } }

/-- PIN_RESET (R170). -/
def heldInReset (s : State) : State :=
  { s with phase := .inReset, link := { s.link with csSample := none, txn := none } }

/-- SITE_TIME_ADVANCE (R16, R18). -/
def timeAdvanced (s : State) : State :=
  let t := s.clock.time + 1
  { s with clock := { time := t, due := ⟨isBoundary .A t, isBoundary .B t⟩ } }

/-- A delivered message joins the inbox (R159). -/
def deliver (bytes : List Byte) (s : State) : State :=
  { s with link := { s.link with inbox := s.link.inbox ++ [deliveredMsg bytes] } }

/-- The oldest response leaves the outbox (R160). -/
def dropResponse (s : State) : State := { s with link := { s.link with outbox := s.link.outbox.tail } }

/-! ### What a command can do -/

/-- `Acts c s u`: command `c`, accepted or with its event happening, takes `s` to `u` before the response
is placed and the flags are judged. -/
inductive Acts : Instr → State → State → Prop where
  | reads {c : Instr} {s : State} : Acts c s s
  | showOpen {q : ShowOpenReq} {s : State} {b : List Byte} (hform : showOpen? b = some q)
      (hclosed : s.isOpen q.aud = false) : Acts .showOpen s (openShow q s)
  | showClose {a : Aud} {w : Show} {s : State} (hopen : s.theShow? a = some w) :
      Acts .showClose s (closeShow a w.lane s)
  | showWindow {q : ShowWindowReq} {s : State} :
      Acts .showWindow s
        (s.modTrack q.aud q.track fun r => { r with base := q.base, limit := q.limit })
  | syncMode {a : Aud} {m : Sens} {s : State} : Acts .syncMode s (syncModeSet a m s)
  | timelineReport {q : ReportReq} {s : State} {b : List Byte} (hform : timelineReport? b = some q)
      (hopen : s.isOpen q.aud = true) : Acts .timelineReport s (reportTaken q s)
  | cuePost {q : CuePostReq} {s : State} {slot : Nat}
      (htrack : (s.track? q.aud q.track).isSome = true)
      (hnew : s.findCue q.aud q.track q.num = none) (hbody : bodyOk q.kind q.body = true)
      (hroom : blocksFor q.body.declared ≤ s.table.free.length)
      (hslot : s.lowestFreeSlot = some slot) : Acts .cuePost s (doPost q slot s).1
  | cueData {c : Cue} {data : List Byte} {s : State} {a : Aud} {t : Track} {n : Nat}
      (hcue : s.findCue a t n = some c) (hlen : c.fill + data.length ≤ c.declared) :
      Acts .cueData s (storeData c data s)
  | cueRevise {c : Cue} {x : CueBody} {s : State} {a : Aud} {t : Track} {n : Nat}
      (hcue : s.findCue a t n = some c) (hbody : bodyOk c.kind x = true)
      (hroom : blocksFor x.declared ≤ s.table.free.length + c.blocks.length) :
      Acts .cueRevise s (doRevise x c s).1
  | cueWithdraw {c : Cue} {s : State} {a : Aud} {t : Track} {n : Nat}
      (hcue : s.findCue a t n = some c) : Acts .cueWithdraw s (withdrawCue c s)
  | rxIssue {q : RxIssueReq} {s : State} {i : RxIdx} {w : TrackRec}
      (htrack : s.track? q.aud q.track = some w) (hsuits : suits q.kind w.kind = true)
      (hserial : s.rxBySerial? q.serial = none) (hfree : s.lowestFreeRx = some i) :
      Acts .rxIssue s (doIssue (issuedRec q i s) s)
  | rxMove {q : RxMoveReq} {s : State} {r : RxRec} {w : TrackRec}
      (hrx : s.rxNamed q.sel = some r) (htrack : s.track? q.aud q.track = some w)
      (hsuits : suits r.kind w.kind = true) : Acts .rxMove s (doMove q r s)
  | rxReturn {sel : RxSel} {s : State} {r : RxRec} (hrx : s.rxNamed sel = some r) :
      Acts .rxReturn s (returnRx r s)
  | laneStart {l : LaneId} {s : State} (hstopped : (s.lane l).state = .stopped)
      (hready : (s.lane l).rfReady = true) : Acts .laneStart s (startLane l s)
  | laneStop {l : LaneId} {s : State} : Acts .laneStop s (stopLane l s)
  | setSetting {k : Setting} {v : Nat} {s : State} : Acts .setSetting s (setTo k v s)
  | status {s : State} : Acts .status s (s.clearCond .tlGlitch)
  | statusClear {mask : Nat} {zero : Bool} {s : State} :
      Acts .statusClear s (statusCleared mask zero s)
  | statusForce {f n : Force} {s : State} : Acts .statusForce s (forceFlags f n s)
  | restart {m : Msg} {rest : List Msg} {s : State} (hready : s.phase = .ready)
      (hin : s.link.inbox = m :: rest) (hform : m.isRestart = true) : Acts .restart s (restarted s)
  | writeClaims {s : State} (hready : s.phase = .ready) (hnone : s.link.txn = none)
      (hfree : 0 < s.link.freeSlots) : Acts .writeMsg s (beginTxn (.write true) [] s)
  | writeOverflows {s : State} (hready : s.phase = .ready) (hnone : s.link.txn = none)
      (hfull : s.link.freeSlots = 0) :
      Acts .writeMsg s ((beginTxn (.write false) [] s).latch .inboxOverflow .nobody)
  | writeIgnored {s : State} (hphase : s.phase ≠ .ready) (hnone : s.link.txn = none) :
      Acts .writeMsg s (beginTxn (.write false) [] s)
  | writeDelivers {s : State} {begun : Bool} {out bytes : List Byte}
      (htxn : s.link.txn = some ⟨.write true, begun, out⟩) (hbytes : bytes ≠ []) :
      Acts (.writeMsgEnd bytes) s (deliver bytes (endTxn out bytes.length s))
  | writeEnds {s : State} {claimed begun : Bool} {out bytes : List Byte}
      (htxn : s.link.txn = some ⟨.write claimed, begun, out⟩) :
      Acts (.writeMsgEnd bytes) s (endTxn out bytes.length s)
  | readMsg {s : State} {sel : Bool} {out : List Byte} (hnone : s.link.txn = none) :
      Acts .readMsg s (beginTxn (.read sel) out s)
  | readRemoves {s : State} {sel begun : Bool} {out : List Byte} {n : Nat}
      (htxn : s.link.txn = some ⟨.read sel, begun, out⟩) :
      Acts (.readMsgEnd n) s (dropResponse (endTxn out n s))
  | readEnds {s : State} {sel begun : Bool} {out : List Byte} {n : Nat}
      (htxn : s.link.txn = some ⟨.read sel, begun, out⟩) : Acts (.readMsgEnd n) s (endTxn out n s)
  | csFalls {s : State} {what : PortRead} : Acts (.readState what) s (csFalls s)
  | secondByte {s : State} {what : PortRead} {kind : TxnKind} {out : List Byte}
      (htxn : s.link.txn = some ⟨kind, false, out⟩) :
      Acts (.readState what) s (secondByteBegins kind out s)
  | stateRead {s : State} {what : PortRead} {out : List Byte} {n : Nat} :
      Acts (.readState what) s (idleTxn out n s)
  | void {s : State} {op : Byte} {n : Nat} : Acts (.voidOperation op n) s (idleTxn [] n s)
  | pinReset {s : State} : Acts .pinReset s (heldInReset s)
  | leaveReset {s : State} : Acts .leaveReset s (afterReset s)
  | startUpCompletion {s : State} (h : s.phase = .startUp) :
      Acts .startUpCompletion s { s with phase := .ready }
  | edge {a : Aud} {level : Bool} {s : State} :
      Acts (.activeEdge a level) s (s.withSync a { s.syncIn a with level := level })
  | edgeCaptured {a : Aud} {level : Bool} {s : State} :
      Acts (.activeEdge a level) s
        (s.withSync a { s.syncIn a with level := level, capture := some s.clock.time })
  | edgeOverrun {a : Aud} {level : Bool} {s : State} :
      Acts (.activeEdge a level) s
        ((s.withSync a
          { s.syncIn a with level := level, capture := some s.clock.time }).latch
            .edgeOverrun (.aud a))
  | gateActive {a : Aud} {x : SyncInput} {s : State} :
      Acts (.gateActive a) s (gateBecomesActive a (s.withSync a x))
  | gateRelease {a : Aud} {x : SyncInput} {s : State} :
      Acts (.gateRelease a) s (gateIsReleased a (s.withSync a x))
  | coasts {a : Aud} {s : State} (hrun : (s.timeline a).state = .running) :
      Acts (.coastDeadline a) s
        ((s.withTimeline a { s.timeline a with state := .coasting }).judgeTimelines a)
  | runLost {a : Aud} {s : State} (hrun : (s.timeline a).state = .running) :
      Acts (.coastDeadline a) s
        ((s.withTimeline a (lostTimeline (s.timeline a))).judgeTimelines a)
  | coastLost {a : Aud} {s : State} (hcoast : (s.timeline a).state = .coasting) :
      Acts (.timelineLossDeadline a) s
        ((s.withTimeline a (lostTimeline (s.timeline a))).judgeTimelines a)
  | joinExpires {i : RxIdx} {s : State} {r : RxRec} {why : LossReason} (hrx : s.rx? i = some r) :
      Acts (.joinDeadlineExpiry i) s (enterLost r why s)
  | silenceExpires {i : RxIdx} {s : State} {r : RxRec} (hrx : s.rx? i = some r)
      (hjoined : r.state = .joined) :
      Acts (.silenceDeadlineExpiry i) s (s.putRx { r with state := .silent })
  | lossExpires {i : RxIdx} {s : State} {r : RxRec} (hrx : s.rx? i = some r) :
      Acts (.lossDeadlineExpiry i) s (enterLost r .silentTooLong s)
  | runningBoundary {l : LaneId} {s : State} (hrun : (s.lane l).state = .running) :
      Acts (.laneBoundary l) s (runningBoundary l (boundaryTaken l s))
  | unservedBoundary {l : LaneId} {s : State} (hrun : (s.lane l).state ≠ .running) :
      Acts (.laneBoundary l) s (stoppedPass l s.clock.time (boundaryTaken l s))
  | buildComplete {l : LaneId} {s : State} :
      Acts (.buildComplete l) s (completeBuild l (finishBuild l s))
  | sent {l : LaneId} {s : State} {i : BufId}
      (hair : (s.lane l).bufWhere Buffer.isOnAir = some i) :
      Acts (.sent l) s
        (((s.withLane l { (s.lane l).withBuf i .empty with missed := 0 }).countLane l
          .sent).beginBuild l)
  | rfReleased {l : LaneId} {s : State} :
      Acts (.rfReadyRelease l) s (s.withLane l { s.lane l with rfReady := false })
  | rfReleasedFault {l : LaneId} {s : State} (hrun : (s.lane l).state = .running) :
      Acts (.rfReadyRelease l) s
        ((s.withLane l { s.lane l with rfReady := false }).faultLane l)
  | rfAsserted {l : LaneId} {s : State} :
      Acts (.rfReadyAssert l) s (s.withLane l { s.lane l with rfReady := true })
  | uplinkPurge {l : LaneId} {good : Bool} {msg : List Byte} {s : State} :
      Acts (.uplinkPurge l good msg) s
        ((s.countLane l .uplinkBad).latch .uplinkBad (.lane l))
  | checkin {l : LaneId} {msg : List Byte} {m : CheckinMsg} {s : State} :
      Acts (.checkin l msg) s (takeCheckin l m s)
  | askTaken {l : LaneId} {msg : List Byte} {m : AskMsg} {s : State}
      (hvalid : askValid l m s = true) :
      Acts (.ask l msg) s (takeAsk l m.aud m.track m.num (s.lane l).frameNo s)
  | askIgnored {l : LaneId} {msg : List Byte} {s : State} :
      Acts (.ask l msg) s (s.countLane l .asksIgnored)
  | siteTimeAdvance {s : State} : Acts .siteTimeAdvance s (timeAdvanced s)
  | buildProgress {l : LaneId} {s : State} : Acts (.buildProgress l) s (buildUnit l s)

/-- The commands that take a request and can answer it OK: all requests but RESTART, which has no response,
and BAD_KIND (R163, R164). -/
def acceptsRequest : Instr → Bool
  | .showOpen | .showClose | .showWindow | .syncMode | .timelineReport | .cuePost | .cueData
  | .cueRevise | .cueWithdraw | .cueQueryByCue | .cueQueryByTrack | .rxIssue | .rxMove | .rxReturn
  | .rxLookup | .rxList | .rxCounts | .laneStart | .laneStop | .setSetting | .getSetting | .status
  | .statusClear | .statusForce | .counters | .identify => true
  | _ => false

/-- `c` takes the oldest message of the inbox: it refuses it, or accepts it and acts; the response joins the
outbox (R163, R164). -/
def Answered (c : Instr) (s t : State) : Prop :=
  ∃ m rest u res clamped body, s.link.inbox = m :: rest ∧ s.phase = .ready
    ∧ s.link.outbox.length < Config.linkSlots
    ∧ ((res ≠ .ok ∧ body = [] ∧ clamped = false ∧ u = s.withInbox rest)
        ∨ (res = .ok ∧ acceptsRequest c = true ∧ Acts c (s.withInbox rest) u))
    ∧ t = settle (placeResponse m res clamped body u)

/-- An action whose acceptances are among what its command can do gives a command that changes nothing or
answers. -/
theorem takeRequest_answered {c : Instr} {row : ReqRow} {act : List Byte → State → Answer}
    (hact : ∀ b s r, act b s = .ok r → acceptsRequest c = true ∧ Acts c s r.st)
    (herr : ∀ b s, act b s ≠ .error .ok)
    {s t : State} (h : takeRequest row act s = .next t) : t = s ∨ Answered c s t := by
  obtain hnone | ⟨m, rest, hin, hready, -, hroom, hnext⟩ := takeRequest_cases row act s
  · rw [hnone] at h
    exact .inl (Host.Outcome.next.inj h).symm
  · rw [hnext] at h
    obtain rfl := Host.Outcome.next.inj h
    right
    by_cases hlen : m.lengthOk = true
    · rw [if_pos hlen]
      cases hans : act m.body (s.withInbox rest) with
      | error e =>
        have hne : e ≠ .ok := fun he => herr m.body (s.withInbox rest) (he ▸ hans)
        exact ⟨m, rest, _, e, false, [], hin, hready, hroom, .inl ⟨hne, rfl, rfl, rfl⟩, rfl⟩
      | ok r =>
        exact ⟨m, rest, _, .ok, r.clamped, r.body, hin, hready, hroom,
          .inr ⟨rfl, hact _ _ _ hans⟩, rfl⟩
    · rw [if_neg hlen]
      exact ⟨m, rest, _, .badFormat, false, [], hin, hready, hroom,
        .inl ⟨by decide, rfl, rfl, rfl⟩, rfl⟩

end Sys2Proof.Machine
end

section
/-! SUPPORT. Every command does one of the things `Acts` lists: each request's checks, inverted once. -/

namespace Sys2Proof.Machine

/-- An answer is either a true refusal or an acceptance that acts as `Acts` says. -/
def AnswersBy (c : Instr) (s : State) : Answer → Prop
  | .ok r => acceptsRequest c = true ∧ Acts c s r.st
  | .error e => e ≠ .ok

theorem answersBy_error {c : Instr} {s : State} {e : Result} (h : e ≠ .ok) :
    AnswersBy c s (.error e) := h

theorem answersBy_accept {c : Instr} {s u : State} {b : List Byte} (hc : acceptsRequest c = true)
    (h : Acts c s u) : AnswersBy c s (accept u b) := ⟨hc, h⟩

theorem answersBy_withForm {α : Type} {c : Instr} {parse : List Byte → Option α}
    {act : α → State → Answer}
    (h : ∀ b x s, parse b = some x → AnswersBy c s (act x s)) (b : List Byte) (s : State) :
    AnswersBy c s (withForm parse act b s) := by
  unfold withForm
  split
  · exact h _ _ _ ‹_›
  · exact answersBy_error (by decide)

theorem answersBy_withTrack {c : Instr} {a : Aud} {t : Track} {s : State} {act : TrackRec → Answer}
    (h : ∀ r, s.track? a t = some r → AnswersBy c s (act r)) :
    AnswersBy c s (withTrack a t s act) := by
  unfold withTrack
  split
  · split
    · exact h _ ‹_›
    · exact answersBy_error (by decide)
  · exact answersBy_error (by decide)

theorem answersBy_withCue {c : Instr} {a : Aud} {t : Track} {n : Nat} {s : State}
    {act : Cue → Answer} (h : ∀ x, s.findCue a t n = some x → AnswersBy c s (act x)) :
    AnswersBy c s (withCue a t n s act) := by
  refine answersBy_withTrack fun r _ => ?_
  split
  · exact h _ ‹_›
  · exact answersBy_error (by decide)

theorem answersBy_withSuited {c : Instr} {a : Aud} {t : Track} {k : RxKind} {s : State} {x : Answer}
    (h : ∀ w, s.track? a t = some w → suits k w.kind = true → AnswersBy c s x) :
    AnswersBy c s (withSuited a t k s x) := by
  unfold withSuited
  split
  · split
    · split
      · exact h _ ‹_› ‹_›
      · exact answersBy_error (by decide)
    · exact answersBy_error (by decide)
  · exact answersBy_error (by decide)

/-- A request whose action answers by `Acts` does nothing, refuses or acts. -/
theorem takeRequest_answersBy {c : Instr} {row : ReqRow} {act : List Byte → State → Answer}
    (hact : ∀ b s, AnswersBy c s (act b s)) {s t : State} (h : takeRequest row act s = .next t) :
    t = s ∨ Answered c s t := by
  refine takeRequest_answered (fun b s r hr => ?_) (fun b s he => ?_) h
  · have hans := hact b s
    rwa [hr] at hans
  · exact absurd (hact b s) (by simp [he, AnswersBy])

/-! ### The requests' actions -/

theorem actShowOpen_answers {b : List Byte} {q : ShowOpenReq} {s : State}
    (h : showOpen? b = some q) : AnswersBy .showOpen s (actShowOpen q s) := by
  unfold actShowOpen
  split
  · exact answersBy_error (by decide)
  · exact ⟨rfl, Acts.showOpen h (Bool.eq_false_iff.2 ‹_›)⟩

theorem actShowClose_answers (a : Aud) (s : State) : AnswersBy .showClose s (actShowClose a s) := by
  unfold actShowClose
  split
  · exact answersBy_error (by decide)
  · exact ⟨rfl, Acts.showClose ‹_›⟩

theorem actShowWindow_answers (q : ShowWindowReq) (s : State) :
    AnswersBy .showWindow s (actShowWindow q s) := by
  unfold actShowWindow
  split
  · split
    · exact answersBy_error (by decide)
    · exact ⟨rfl, Acts.showWindow⟩
  · exact answersBy_error (by decide)

theorem actTimelineReport_answers {b : List Byte} {q : ReportReq} {s : State}
    (h : timelineReport? b = some q) : AnswersBy .timelineReport s (actTimelineReport q s) := by
  unfold actTimelineReport
  split
  · exact ⟨rfl, Acts.timelineReport h ‹_›⟩
  · exact answersBy_error (by decide)

theorem actCuePost_answers (q : CuePostReq) (s : State) :
    AnswersBy .cuePost s (actCuePost q s) := by
  refine answersBy_withTrack fun r hr => ?_
  split
  · exact answersBy_error (by decide)
  split
  swap
  · exact answersBy_error (by decide)
  split
  · exact answersBy_error (by decide)
  split
  · exact answersBy_error (by decide)
  split
  · exact answersBy_error (by decide)
  split
  · exact answersBy_error (by decide)
  split
  · exact answersBy_error (by decide)
  split
  · exact ⟨rfl, Acts.cuePost (by simp [hr]) (by simpa using ‹¬ (s.findCue _ _ _).isSome = true›)
      (by simpa using ‹¬ (!bodyOk _ _) = true›) (by omega) ‹_›⟩
  · exact answersBy_error (by decide)

theorem actCueData_answers (q : CueDataReq) (s : State) :
    AnswersBy .cueData s (actCueData q s) := by
  refine answersBy_withCue fun c hc => ?_
  split
  · exact answersBy_error (by decide)
  split
  · exact answersBy_error (by decide)
  split
  · exact answersBy_error (by decide)
  · exact ⟨rfl, Acts.cueData hc (by omega)⟩

theorem actCueRevise_answers (q : CueReviseReq) (s : State) :
    AnswersBy .cueRevise s (actCueRevise q s) := by
  refine answersBy_withCue fun c hc => ?_
  split
  · exact answersBy_error (by decide)
  split
  · exact answersBy_error (by decide)
  split
  · exact answersBy_error (by decide)
  · exact ⟨rfl, Acts.cueRevise hc (by simpa using ‹¬ (!bodyOk _ _) = true›) (by omega)⟩

theorem actCueWithdraw_answers (q : CueRef) (s : State) :
    AnswersBy .cueWithdraw s (actCueWithdraw q s) := by
  unfold actCueWithdraw
  exact answersBy_withCue fun c hc => answersBy_accept (u := withdrawCue c s) rfl (Acts.cueWithdraw hc)

theorem actRxIssue_answers (q : RxIssueReq) (s : State) :
    AnswersBy .rxIssue s (actRxIssue q s) := by
  refine answersBy_withSuited fun w hw hsuits => ?_
  split
  · exact answersBy_error (by decide)
  split
  · exact answersBy_error (by decide)
  · exact ⟨rfl, Acts.rxIssue hw hsuits (by simpa using ‹¬ (s.rxBySerial? _).isSome = true›) ‹_›⟩

theorem actRxMove_answers (q : RxMoveReq) (s : State) :
    AnswersBy .rxMove s (actRxMove q s) := by
  unfold actRxMove
  split
  · exact answersBy_error (by decide)
  · exact answersBy_withSuited fun w hw hsuits => ⟨rfl, Acts.rxMove ‹_› hw hsuits⟩

theorem actRxReturn_answers (sel : RxSel) (s : State) :
    AnswersBy .rxReturn s (actRxReturn sel s) := by
  unfold actRxReturn
  split
  · exact answersBy_error (by decide)
  · exact ⟨rfl, Acts.rxReturn ‹_›⟩

theorem actRxLookup_answers (sel : RxSel) (s : State) :
    AnswersBy .rxLookup s (actRxLookup sel s) := by
  unfold actRxLookup
  split
  · exact ⟨rfl, Acts.reads⟩
  · exact ⟨rfl, Acts.reads⟩
  · exact answersBy_error (by decide)

theorem actLaneStart_answers (l : LaneId) (s : State) :
    AnswersBy .laneStart s (actLaneStart l s) := by
  unfold actLaneStart
  split
  · exact answersBy_error (by decide)
  split
  · exact answersBy_error (by decide)
  · exact ⟨rfl, Acts.laneStart (not_not.1 ‹_›) (by simpa using ‹¬ (s.lane l).rfReady = false›)⟩

theorem actSyncMode_answers (q : Aud × Sens) (s : State) :
    AnswersBy .syncMode s (actSyncMode q s) :=
  answersBy_accept (u := syncModeSet q.1 q.2 s) rfl Acts.syncMode

theorem actSet_answers (q : Setting × Nat) (s : State) :
    AnswersBy .setSetting s (actSet q s) :=
  show acceptsRequest .setSetting = true ∧ Acts .setSetting s (setTo q.1 q.2 s) from
    ⟨rfl, Acts.setSetting⟩

theorem actLaneStop_answers (l : LaneId) (s : State) : AnswersBy .laneStop s (actLaneStop l s) :=
  answersBy_accept rfl Acts.laneStop

theorem actStatus_answers (x : Unit) (s : State) : AnswersBy .status s (actStatus x s) :=
  answersBy_accept rfl Acts.status

theorem actStatusClear_answers (q : Nat × Bool) (s : State) :
    AnswersBy .statusClear s (actStatusClear q s) :=
  answersBy_accept (u := statusCleared q.1 q.2 s) rfl Acts.statusClear

theorem actStatusForce_answers (q : Force × Force) (s : State) :
    AnswersBy .statusForce s (actStatusForce q s) :=
  answersBy_accept (u := forceFlags q.1 q.2 s) rfl Acts.statusForce

/-- An action that always accepts the state it was given reads. -/
theorem answersBy_reads {c : Instr} {s : State} {b : List Byte} (hc : acceptsRequest c = true) :
    AnswersBy c s (accept s b) :=
  answersBy_accept hc Acts.reads

theorem actGet_answers (q : Option Setting) (s : State) : AnswersBy .getSetting s (actGet q s) := by
  unfold actGet
  split
  · exact ⟨rfl, Acts.reads⟩
  · exact ⟨rfl, Acts.reads⟩

/-! ### Every command -/

/-- The end of a command that is no taking of a message: its event has happened. -/
def Happened (c : Instr) (s t : State) : Prop := ∃ u, Acts c s u ∧ t = settle u

/-- What a command can do: nothing; its event; or, for a request, an answer. -/
def Outcomes (c : Instr) (s t : State) : Prop := t = s ∨ Happened c s t ∨ Answered c s t

theorem outcomes_noEvent {c : Instr} {s t : State} (h : noEvent s = .next t) : Outcomes c s t :=
  .inl (Host.Outcome.next.inj h).symm

theorem outcomes_done {c : Instr} {s t u : State} (h : done u = .next t) (hact : Acts c s u) :
    Outcomes c s t :=
  .inr (.inl ⟨u, hact, (Host.Outcome.next.inj h).symm⟩)

theorem outcomes_request {c : Instr} {row : ReqRow} {act : List Byte → State → Answer}
    {s t : State} (hact : ∀ b s, AnswersBy c s (act b s)) (h : takeRequest row act s = .next t) :
    Outcomes c s t :=
  (takeRequest_answersBy hact h).imp_right .inr

theorem outcomes_form {α : Type} {c : Instr} {row : ReqRow} {parse : List Byte → Option α}
    {act : α → State → Answer} {s t : State} (hact : ∀ x s, AnswersBy c s (act x s))
    (h : takeRequest row (withForm parse act) s = .next t) : Outcomes c s t :=
  outcomes_request (answersBy_withForm fun _ x s _ => hact x s) h

/-! ### Each event, inverted -/

theorem execRestart_outcomes {s t : State} (h : execRestart s = .next t) :
    Outcomes .restart s t := by
  unfold execRestart at h
  split at h
  · split at h
    · next hin hc => exact outcomes_done h (Acts.restart hc.1 hin hc.2)
    · exact outcomes_request (fun _ _ => answersBy_error (by decide)) h
  · exact outcomes_noEvent h

theorem execBadKind_outcomes {s t : State} (h : execBadKind s = .next t) :
    Outcomes .badKind s t := by
  unfold execBadKind takeable at h
  split at h
  · exact outcomes_noEvent h
  · next m u hm =>
    split at hm
    · cases hm
    · next m' rest hin =>
      split at hm
      · next hc =>
        simp only [Option.some.injEq, Prod.mk.injEq] at hm
        obtain ⟨rfl, rfl⟩ := hm
        obtain rfl := Host.Outcome.next.inj h
        refine .inr (.inr ⟨m', rest, _, if m'.delivered < 4 then .badFormat else .badKind, false,
          [], hin, hc.1, hc.2.2, .inl ⟨?_, rfl, rfl, rfl⟩, rfl⟩)
        split <;> decide
      · cases hm

theorem execWriteMsg_outcomes {s t : State} (h : execWriteMsg s = .next t) :
    Outcomes .writeMsg s t := by
  unfold execWriteMsg at h
  split at h
  · next hnone =>
    rw [Option.isNone_iff_eq_none] at hnone
    split at h
    · next hready =>
      split at h
      · exact outcomes_done h (Acts.writeClaims hready hnone ‹_›)
      · exact outcomes_done h (Acts.writeOverflows hready hnone (by omega))
    · exact outcomes_done h (Acts.writeIgnored ‹_› hnone)
  · exact outcomes_noEvent h

theorem execWriteMsgEnd_outcomes {bytes : List Byte} {s t : State}
    (h : execWriteMsgEnd bytes s = .next t) : Outcomes (.writeMsgEnd bytes) s t := by
  unfold execWriteMsgEnd at h
  split at h
  · next claimed begun out htxn =>
    split at h
    · next hc =>
      obtain ⟨rfl, hbytes⟩ := hc
      exact outcomes_done h (Acts.writeDelivers htxn hbytes)
    · exact outcomes_done h (Acts.writeEnds htxn)
  · exact outcomes_noEvent h

theorem execReadMsg_outcomes {s t : State} (h : execReadMsg s = .next t) :
    Outcomes .readMsg s t := by
  unfold execReadMsg at h
  split at h
  · next hnone =>
    rw [Option.isNone_iff_eq_none] at hnone
    split at h
    · exact outcomes_done h (Acts.readMsg hnone)
    · exact outcomes_done h (Acts.readMsg hnone)
  · exact outcomes_noEvent h

theorem execReadMsgEnd_outcomes {n : Nat} {s t : State} (h : execReadMsgEnd n s = .next t) :
    Outcomes (.readMsgEnd n) s t := by
  unfold execReadMsgEnd at h
  split at h
  · next htxn =>
    split at h
    · exact outcomes_done h (Acts.readRemoves htxn)
    · exact outcomes_done h (Acts.readEnds htxn)
  · exact outcomes_noEvent h

theorem execReadState_outcomes {what : PortRead} {s t : State}
    (h : execReadState what s = .next t) : Outcomes (.readState what) s t := by
  unfold execReadState at h
  split at h
  · exact outcomes_done h Acts.csFalls
  · exact outcomes_done h (Acts.secondByte ‹_›)
  · exact outcomes_done h Acts.stateRead
  · exact outcomes_noEvent h

theorem execActiveEdge_outcomes {a : Aud} {level : Bool} {s t : State}
    (h : execActiveEdge a level s = .next t) : Outcomes (.activeEdge a level) s t := by
  unfold execActiveEdge at h
  dsimp only at h
  split at h
  · exact outcomes_noEvent h
  split at h
  · exact outcomes_done h Acts.edge
  split at h
  · exact outcomes_noEvent h
  split at h
  · split at h
    · exact outcomes_done h Acts.edgeOverrun
    · exact outcomes_done h Acts.edgeCaptured
  · exact outcomes_done h Acts.edge

theorem execGateActive_outcomes {a : Aud} {s t : State} (h : execGateActive a s = .next t) :
    Outcomes (.gateActive a) s t := by
  unfold execGateActive at h
  dsimp only at h
  split at h
  · exact outcomes_noEvent h
  split at h
  · exact outcomes_noEvent h
  · exact outcomes_done h Acts.gateActive

theorem execGateRelease_outcomes {a : Aud} {s t : State} (h : execGateRelease a s = .next t) :
    Outcomes (.gateRelease a) s t := by
  unfold execGateRelease at h
  dsimp only at h
  split at h
  · exact outcomes_noEvent h
  split at h
  · exact outcomes_noEvent h
  · exact outcomes_done h Acts.gateRelease

theorem execCoastDeadline_outcomes {a : Aud} {s t : State} (h : execCoastDeadline a s = .next t) :
    Outcomes (.coastDeadline a) s t := by
  unfold execCoastDeadline at h
  dsimp only at h
  split at h
  · next hc =>
    split at h
    · exact outcomes_done h (Acts.runLost hc.2.1)
    · exact outcomes_done h (Acts.coasts hc.2.1)
  · exact outcomes_noEvent h

theorem execTimelineLossDeadline_outcomes {a : Aud} {s t : State}
    (h : execTimelineLossDeadline a s = .next t) : Outcomes (.timelineLossDeadline a) s t := by
  unfold execTimelineLossDeadline at h
  dsimp only at h
  split at h
  · next hc => exact outcomes_done h (Acts.coastLost hc.2.1)
  · exact outcomes_noEvent h

theorem execJoinDeadlineExpiry_outcomes {i : RxIdx} {s t : State}
    (h : execJoinDeadlineExpiry i s = .next t) : Outcomes (.joinDeadlineExpiry i) s t := by
  unfold execJoinDeadlineExpiry at h
  split at h
  · split at h
    · split at h
      · exact outcomes_done h (Acts.joinExpires ‹_›)
      · exact outcomes_done h (Acts.joinExpires ‹_›)
      all_goals exact outcomes_noEvent h
    · exact outcomes_noEvent h
  · exact outcomes_noEvent h

theorem execSilenceDeadlineExpiry_outcomes {i : RxIdx} {s t : State}
    (h : execSilenceDeadlineExpiry i s = .next t) : Outcomes (.silenceDeadlineExpiry i) s t := by
  unfold execSilenceDeadlineExpiry at h
  split at h
  · split at h
    · next hc => exact outcomes_done h (Acts.silenceExpires ‹_› hc.1)
    · exact outcomes_noEvent h
  · exact outcomes_noEvent h

theorem execLossDeadlineExpiry_outcomes {i : RxIdx} {s t : State}
    (h : execLossDeadlineExpiry i s = .next t) : Outcomes (.lossDeadlineExpiry i) s t := by
  unfold execLossDeadlineExpiry at h
  split at h
  · split at h
    · exact outcomes_done h (Acts.lossExpires ‹_›)
    · exact outcomes_noEvent h
  · exact outcomes_noEvent h

theorem execLaneBoundary_outcomes {l : LaneId} {s t : State} (h : execLaneBoundary l s = .next t) :
    Outcomes (.laneBoundary l) s t := by
  unfold execLaneBoundary at h
  split at h
  · dsimp only at h
    split at h
    · next hrun => exact outcomes_done h (Acts.runningBoundary hrun)
    all_goals
      next hrun =>
        exact outcomes_done h (Acts.unservedBoundary (s := s) fun hr => by
          have := hrun.symm.trans hr; cases this)
  · exact outcomes_noEvent h

theorem execSent_outcomes {l : LaneId} {s t : State} (h : execSent l s = .next t) :
    Outcomes (.sent l) s t := by
  unfold execSent at h
  split at h
  · exact outcomes_noEvent h
  · split at h
    · exact outcomes_done h (Acts.sent ‹_›)
    · exact outcomes_noEvent h

theorem execRfReadyRelease_outcomes {l : LaneId} {s t : State}
    (h : execRfReadyRelease l s = .next t) : Outcomes (.rfReadyRelease l) s t := by
  unfold execRfReadyRelease at h
  split at h
  · exact outcomes_noEvent h
  · dsimp only at h
    split at h
    · next hc =>
      refine outcomes_done h (Acts.rfReleasedFault ?_)
      have hrun := hc.2
      simpa [State.lane, State.withLane] using hrun
    · exact outcomes_done h Acts.rfReleased

theorem execCheckin_outcomes {l : LaneId} {msg : List Byte} {s t : State}
    (h : execCheckin l msg s = .next t) : Outcomes (.checkin l msg) s t := by
  unfold execCheckin at h
  split at h
  · split at h
    · exact outcomes_done h Acts.checkin
    · exact outcomes_noEvent h
  · exact outcomes_noEvent h

theorem execAsk_outcomes {l : LaneId} {msg : List Byte} {s t : State}
    (h : execAsk l msg s = .next t) : Outcomes (.ask l msg) s t := by
  unfold execAsk at h
  split at h
  · split at h
    · split at h
      · exact outcomes_done h (Acts.askTaken ‹_›)
      · exact outcomes_done h Acts.askIgnored
    · exact outcomes_noEvent h
  · exact outcomes_noEvent h

/-- An event with a condition either happens or does not. -/
theorem outcomes_ite {c : Instr} {s t u : State} {p : Prop} [Decidable p]
    (h : (if p then done u else noEvent s) = .next t) (hact : p → Acts c s u) :
    Outcomes c s t := by
  split at h
  · exact outcomes_done h (hact ‹_›)
  · exact outcomes_noEvent h

/-- What every command can do. -/
theorem exec_outcomes {c : Instr} {s t : State} (h : exec c s = .next t) : Outcomes c s t := by
  cases c with
  | showOpen => exact outcomes_request (answersBy_withForm fun _ _ _ => actShowOpen_answers) h
  | showClose => exact outcomes_form actShowClose_answers h
  | showWindow => exact outcomes_form actShowWindow_answers h
  | syncMode => exact outcomes_form actSyncMode_answers h
  | timelineReport =>
    exact outcomes_request (answersBy_withForm fun _ _ _ => actTimelineReport_answers) h
  | cuePost => exact outcomes_form actCuePost_answers h
  | cueData => exact outcomes_form actCueData_answers h
  | cueRevise => exact outcomes_form actCueRevise_answers h
  | cueWithdraw => exact outcomes_form actCueWithdraw_answers h
  | cueQueryByCue =>
    exact outcomes_form (fun q s => answersBy_withCue fun _ _ => answersBy_reads rfl) h
  | cueQueryByTrack =>
    exact outcomes_form (fun q s => answersBy_withTrack fun _ _ => answersBy_reads rfl) h
  | rxIssue => exact outcomes_form actRxIssue_answers h
  | rxMove => exact outcomes_form actRxMove_answers h
  | rxReturn => exact outcomes_form actRxReturn_answers h
  | rxLookup => exact outcomes_form actRxLookup_answers h
  | rxList => exact outcomes_form (fun _ _ => answersBy_reads rfl) h
  | rxCounts => exact outcomes_form (fun _ _ => answersBy_reads rfl) h
  | laneStart => exact outcomes_form actLaneStart_answers h
  | laneStop => exact outcomes_form actLaneStop_answers h
  | setSetting => exact outcomes_form actSet_answers h
  | getSetting => exact outcomes_form actGet_answers h
  | status => exact outcomes_form actStatus_answers h
  | statusClear => exact outcomes_form actStatusClear_answers h
  | statusForce => exact outcomes_form actStatusForce_answers h
  | counters => exact outcomes_form (fun _ _ => answersBy_reads rfl) h
  | identify => exact outcomes_form (fun _ _ => answersBy_reads rfl) h
  | restart => exact execRestart_outcomes h
  | badKind => exact execBadKind_outcomes h
  | writeMsg => exact execWriteMsg_outcomes h
  | writeMsgEnd bytes => exact execWriteMsgEnd_outcomes h
  | readMsg => exact execReadMsg_outcomes h
  | readMsgEnd clocked => exact execReadMsgEnd_outcomes h
  | readState what => exact execReadState_outcomes h
  | voidOperation op clocked => exact outcomes_ite h fun _ => Acts.void
  | pinReset => exact outcomes_done h Acts.pinReset
  | leaveReset => exact outcomes_ite h fun _ => Acts.leaveReset
  | startUpCompletion => exact outcomes_ite h fun hs => Acts.startUpCompletion hs
  | activeEdge a level => exact execActiveEdge_outcomes h
  | gateActive a => exact execGateActive_outcomes h
  | gateRelease a => exact execGateRelease_outcomes h
  | coastDeadline a => exact execCoastDeadline_outcomes h
  | timelineLossDeadline a => exact execTimelineLossDeadline_outcomes h
  | joinDeadlineExpiry i => exact execJoinDeadlineExpiry_outcomes h
  | silenceDeadlineExpiry i => exact execSilenceDeadlineExpiry_outcomes h
  | lossDeadlineExpiry i => exact execLossDeadlineExpiry_outcomes h
  | laneBoundary l => exact execLaneBoundary_outcomes h
  | buildComplete l => exact outcomes_ite h fun _ => Acts.buildComplete
  | sent l => exact execSent_outcomes h
  | rfReadyRelease l => exact execRfReadyRelease_outcomes h
  | rfReadyAssert l =>
    change execRfReadyAssert l s = _ at h
    unfold execRfReadyAssert at h
    split at h
    · exact outcomes_noEvent h
    · exact outcomes_done h Acts.rfAsserted
  | uplinkPurge l good msg => exact outcomes_ite h fun _ => Acts.uplinkPurge
  | checkin l msg => exact execCheckin_outcomes h
  | ask l msg => exact execAsk_outcomes h
  | siteTimeAdvance =>
    change execSiteTimeAdvance s = _ at h
    unfold execSiteTimeAdvance at h
    split at h
    · exact outcomes_noEvent h
    · exact outcomes_done h Acts.siteTimeAdvance
  | buildProgress l => exact outcomes_ite h fun _ => Acts.buildProgress

/-! ### Invariants of the whole machine -/

/-- What a command's acting keeps, and the taking, the answering and the judging keep, the command keeps. -/
theorem exec_keeps {I : State → Prop} {c : Instr}
    (hin : ∀ s rest, I s → I (s.withInbox rest))
    (hout : ∀ s m r cl b, I s → I (placeResponse m r cl b s)) (hset : ∀ s, I s → I (settle s))
    (hact : ∀ s u, I s → Acts c s u → I u) {s t : State} (hI : I s) (h : exec c s = .next t) :
    I t := by
  obtain rfl | ⟨u, hu, rfl⟩ | ⟨m, rest, u, res, cl, body, -, -, -, hu, rfl⟩ := exec_outcomes h
  · exact hI
  · exact hset _ (hact _ _ hI hu)
  · apply hset
    apply hout
    obtain ⟨-, -, -, rfl⟩ | ⟨-, -, hu⟩ := hu
    · exact hin _ _ hI
    · exact hact _ _ (hin _ _ hI) hu

/-- A predicate that only the queue's rest can tell apart is kept by every step that its commands keep. -/
theorem step_keeps {I : State → Prop} (hpending : ∀ s cs, I s → I { s with pending := cs })
    (hexec : ∀ c s t, I s → exec c s = .next t → I t) {s t : State} (hI : I s)
    (h : step s = .next t) : I t := by
  unfold step at h
  split at h
  · obtain rfl := Host.Outcome.next.inj h
    exact hI
  · exact hexec _ _ _ (hpending _ _ hI) h

end Sys2Proof.Machine
end

section
/-! SUPPORT. What each request's named change leaves as it was, and what every command leaves: the frames that
the invariants and the whole-machine statements rest on. -/

namespace Sys2Proof.Machine

/-! ### The named changes -/

@[simp] theorem beginRun_frame (s : State) (q : ShowOpenReq) :
    (beginRun q s).pending = s.pending ∧
    (beginRun q s).phase = s.phase ∧
    (beginRun q s).clock = s.clock ∧
    (beginRun q s).table = s.table ∧
    (beginRun q s).lanes = s.lanes ∧
    (beginRun q s).roster = s.roster ∧
    (beginRun q s).settings = s.settings ∧
    (beginRun q s).link = s.link ∧
    (beginRun q s).audCounters = s.audCounters ∧
    (beginRun q s).laneCounters = s.laneCounters ∧
    (beginRun q s).status = s.status := by
  unfold beginRun
  simp

@[simp] theorem openShow_frame (s : State) (q : ShowOpenReq) :
    (openShow q s).pending = s.pending ∧
    (openShow q s).phase = s.phase ∧
    (openShow q s).clock = s.clock ∧
    (openShow q s).table = s.table ∧
    (openShow q s).settings = s.settings ∧
    (openShow q s).link = s.link ∧
    (openShow q s).audCounters = s.audCounters ∧
    (openShow q s).laneCounters = s.laneCounters ∧
    (openShow q s).status = s.status := by
  unfold openShow
  simp

@[simp] theorem emptyShow_frame (s : State) (a : Aud) (l : LaneId) :
    (emptyShow a l s).pending = s.pending ∧ (emptyShow a l s).phase = s.phase ∧
    (emptyShow a l s).clock = s.clock ∧ (emptyShow a l s).sync = s.sync ∧
    (emptyShow a l s).timelines = s.timelines ∧
    (emptyShow a l s).table.payload = s.table.payload ∧ (emptyShow a l s).roster = s.roster ∧
    (emptyShow a l s).settings = s.settings ∧ (emptyShow a l s).link = s.link ∧
    (emptyShow a l s).audCounters = s.audCounters ∧
    (emptyShow a l s).laneCounters = s.laneCounters ∧
    (emptyShow a l s).status.forcedFault = s.status.forcedFault ∧
    (emptyShow a l s).status.forcedNotice = s.status.forcedNotice := by
  let fields (u : State) := (u.pending, u.phase, u.clock, u.sync, u.timelines, u.table.payload,
    u.roster, u.settings, u.link, u.audCounters, u.laneCounters, u.status.forcedFault,
    u.status.forcedNotice)
  have h : fields (emptyShow a l s) = fields s := by
    unfold emptyShow
    rw [forCues_keeps fields _ (fun c u => by simp [fields])]
    simp [fields]
  simpa [fields] using h

@[simp] theorem shutShow_frame (s : State) (a : Aud) :
    (shutShow a s).pending = s.pending ∧
    (shutShow a s).phase = s.phase ∧
    (shutShow a s).clock = s.clock ∧
    (shutShow a s).table = s.table ∧
    (shutShow a s).lanes = s.lanes ∧
    (shutShow a s).roster = s.roster ∧
    (shutShow a s).settings = s.settings ∧
    (shutShow a s).link = s.link ∧
    (shutShow a s).audCounters = s.audCounters ∧
    (shutShow a s).laneCounters = s.laneCounters ∧
    (shutShow a s).status = s.status := by
  unfold shutShow
  simp

@[simp] theorem closeShow_frame (s : State) (a : Aud) (l : LaneId) :
    (closeShow a l s).pending = s.pending ∧
    (closeShow a l s).phase = s.phase ∧
    (closeShow a l s).clock = s.clock ∧
    (closeShow a l s).table.payload = s.table.payload ∧
    (closeShow a l s).roster = s.roster ∧
    (closeShow a l s).settings = s.settings ∧
    (closeShow a l s).link = s.link ∧
    (closeShow a l s).audCounters = s.audCounters ∧
    (closeShow a l s).laneCounters = s.laneCounters ∧
    (closeShow a l s).status.forcedFault = s.status.forcedFault ∧
    (closeShow a l s).status.forcedNotice = s.status.forcedNotice := by
  unfold closeShow
  simp

@[simp] theorem syncReleased_frame (s : State) (a : Aud) :
    (syncReleased a s).pending = s.pending ∧
    (syncReleased a s).phase = s.phase ∧
    (syncReleased a s).clock = s.clock ∧
    (syncReleased a s).directory = s.directory ∧
    (syncReleased a s).table = s.table ∧
    (syncReleased a s).lanes = s.lanes ∧
    (syncReleased a s).roster = s.roster ∧
    (syncReleased a s).settings = s.settings ∧
    (syncReleased a s).link = s.link ∧
    (syncReleased a s).audCounters = s.audCounters ∧
    (syncReleased a s).laneCounters = s.laneCounters ∧
    (syncReleased a s).status.forcedFault = s.status.forcedFault ∧
    (syncReleased a s).status.forcedNotice = s.status.forcedNotice := by
  unfold syncReleased
  dsimp only
  (repeat' split) <;> simp

@[simp] theorem syncModeSet_frame (s : State) (a : Aud) (m : Sens) :
    (syncModeSet a m s).pending = s.pending ∧
    (syncModeSet a m s).phase = s.phase ∧
    (syncModeSet a m s).clock = s.clock ∧
    (syncModeSet a m s).directory = s.directory ∧
    (syncModeSet a m s).table = s.table ∧
    (syncModeSet a m s).lanes = s.lanes ∧
    (syncModeSet a m s).roster = s.roster ∧
    (syncModeSet a m s).settings = s.settings ∧
    (syncModeSet a m s).link = s.link ∧
    (syncModeSet a m s).audCounters = s.audCounters ∧
    (syncModeSet a m s).laneCounters = s.laneCounters ∧
    (syncModeSet a m s).status.forcedFault = s.status.forcedFault ∧
    (syncModeSet a m s).status.forcedNotice = s.status.forcedNotice := by
  unfold syncModeSet
  dsimp only
  (repeat' split) <;> simp

@[simp] theorem reportWritten_frame (s : State) (q : ReportReq) :
    (reportWritten q s).pending = s.pending ∧
    (reportWritten q s).phase = s.phase ∧
    (reportWritten q s).clock = s.clock ∧
    (reportWritten q s).directory = s.directory ∧
    (reportWritten q s).table = s.table ∧
    (reportWritten q s).lanes = s.lanes ∧
    (reportWritten q s).roster = s.roster ∧
    (reportWritten q s).settings = s.settings ∧
    (reportWritten q s).link = s.link ∧
    (reportWritten q s).laneCounters = s.laneCounters ∧
    (reportWritten q s).status = s.status := by
  unfold reportWritten
  dsimp only
  (repeat' split) <;> simp

@[simp] theorem strikeNoted_frame (s : State) (a : Aud) (e : ReportEffect) :
    (strikeNoted a e s).pending = s.pending ∧
    (strikeNoted a e s).phase = s.phase ∧
    (strikeNoted a e s).clock = s.clock ∧
    (strikeNoted a e s).sync = s.sync ∧
    (strikeNoted a e s).timelines = s.timelines ∧
    (strikeNoted a e s).directory = s.directory ∧
    (strikeNoted a e s).table = s.table ∧
    (strikeNoted a e s).lanes = s.lanes ∧
    (strikeNoted a e s).roster = s.roster ∧
    (strikeNoted a e s).settings = s.settings ∧
    (strikeNoted a e s).link = s.link ∧
    (strikeNoted a e s).laneCounters = s.laneCounters ∧
    (strikeNoted a e s).status.forcedFault = s.status.forcedFault ∧
    (strikeNoted a e s).status.forcedNotice = s.status.forcedNotice := by
  unfold strikeNoted
  dsimp only
  (repeat' split) <;> simp

@[simp] theorem reportTaken_frame (s : State) (q : ReportReq) :
    (reportTaken q s).pending = s.pending ∧
    (reportTaken q s).phase = s.phase ∧
    (reportTaken q s).clock = s.clock ∧
    (reportTaken q s).table.payload = s.table.payload ∧
    (reportTaken q s).roster = s.roster ∧
    (reportTaken q s).settings = s.settings ∧
    (reportTaken q s).link = s.link ∧
    (reportTaken q s).laneCounters = s.laneCounters ∧
    (reportTaken q s).status.forcedFault = s.status.forcedFault ∧
    (reportTaken q s).status.forcedNotice = s.status.forcedNotice := by
  unfold reportTaken
  dsimp only
  (repeat' split) <;> simp

@[simp] theorem withdrawCue_frame (s : State) (c : Cue) :
    (withdrawCue c s).pending = s.pending ∧
    (withdrawCue c s).phase = s.phase ∧
    (withdrawCue c s).clock = s.clock ∧
    (withdrawCue c s).sync = s.sync ∧
    (withdrawCue c s).timelines = s.timelines ∧
    (withdrawCue c s).table.payload = s.table.payload ∧
    (withdrawCue c s).roster = s.roster ∧
    (withdrawCue c s).settings = s.settings ∧
    (withdrawCue c s).link = s.link ∧
    (withdrawCue c s).audCounters = s.audCounters ∧
    (withdrawCue c s).laneCounters = s.laneCounters ∧
    (withdrawCue c s).status.forcedFault = s.status.forcedFault ∧
    (withdrawCue c s).status.forcedNotice = s.status.forcedNotice := by
  unfold withdrawCue
  simp

@[simp] theorem leaveRoster_frame (s : State) (r : RxRec) :
    (leaveRoster r s).pending = s.pending ∧
    (leaveRoster r s).phase = s.phase ∧
    (leaveRoster r s).clock = s.clock ∧
    (leaveRoster r s).sync = s.sync ∧
    (leaveRoster r s).timelines = s.timelines ∧
    (leaveRoster r s).table = s.table ∧
    (leaveRoster r s).roster = s.roster ∧
    (leaveRoster r s).settings = s.settings ∧
    (leaveRoster r s).link = s.link ∧
    (leaveRoster r s).audCounters = s.audCounters ∧
    (leaveRoster r s).laneCounters = s.laneCounters ∧
    (leaveRoster r s).status = s.status := by
  unfold leaveRoster
  simp

@[simp] theorem releaseNotices_frame (s : State) (r : RxRec) (x y : Bool) :
    (releaseNotices r x y s).pending = s.pending ∧
    (releaseNotices r x y s).phase = s.phase ∧
    (releaseNotices r x y s).clock = s.clock ∧
    (releaseNotices r x y s).sync = s.sync ∧
    (releaseNotices r x y s).timelines = s.timelines ∧
    (releaseNotices r x y s).directory = s.directory ∧
    (releaseNotices r x y s).table = s.table ∧
    (releaseNotices r x y s).roster = s.roster ∧
    (releaseNotices r x y s).settings = s.settings ∧
    (releaseNotices r x y s).link = s.link ∧
    (releaseNotices r x y s).audCounters = s.audCounters ∧
    (releaseNotices r x y s).laneCounters = s.laneCounters ∧
    (releaseNotices r x y s).status.forcedFault = s.status.forcedFault ∧
    (releaseNotices r x y s).status.forcedNotice = s.status.forcedNotice := by
  unfold releaseNotices
  simp

@[simp] theorem returnRx_frame (s : State) (r : RxRec) :
    (returnRx r s).pending = s.pending ∧
    (returnRx r s).phase = s.phase ∧
    (returnRx r s).clock = s.clock ∧
    (returnRx r s).sync = s.sync ∧
    (returnRx r s).timelines = s.timelines ∧
    (returnRx r s).table = s.table ∧
    (returnRx r s).settings = s.settings ∧
    (returnRx r s).link = s.link ∧
    (returnRx r s).audCounters = s.audCounters ∧
    (returnRx r s).laneCounters = s.laneCounters ∧
    (returnRx r s).status.forcedFault = s.status.forcedFault ∧
    (returnRx r s).status.forcedNotice = s.status.forcedNotice := by
  unfold returnRx
  simp

@[simp] theorem setTo_frame (s : State) (k : Setting) (v : Nat) :
    (setTo k v s).pending = s.pending ∧
    (setTo k v s).phase = s.phase ∧
    (setTo k v s).clock = s.clock ∧
    (setTo k v s).sync = s.sync ∧
    (setTo k v s).timelines = s.timelines ∧
    (setTo k v s).directory = s.directory ∧
    (setTo k v s).table = s.table ∧
    (setTo k v s).lanes = s.lanes ∧
    (setTo k v s).roster = s.roster ∧
    (setTo k v s).link = s.link ∧
    (setTo k v s).audCounters = s.audCounters ∧
    (setTo k v s).laneCounters = s.laneCounters ∧
    (setTo k v s).status.forcedFault = s.status.forcedFault ∧
    (setTo k v s).status.forcedNotice = s.status.forcedNotice := by
  unfold setTo
  dsimp only
  (repeat' split) <;> simp

@[simp] theorem statusCleared_frame (s : State) (n : Nat) (z : Bool) :
    (statusCleared n z s).pending = s.pending ∧
    (statusCleared n z s).phase = s.phase ∧
    (statusCleared n z s).clock = s.clock ∧
    (statusCleared n z s).sync = s.sync ∧
    (statusCleared n z s).timelines = s.timelines ∧
    (statusCleared n z s).directory = s.directory ∧
    (statusCleared n z s).table = s.table ∧
    (statusCleared n z s).lanes = s.lanes ∧
    (statusCleared n z s).roster = s.roster ∧
    (statusCleared n z s).settings = s.settings ∧
    (statusCleared n z s).link = s.link ∧
    (statusCleared n z s).status.forcedFault = s.status.forcedFault ∧
    (statusCleared n z s).status.forcedNotice = s.status.forcedNotice := by
  unfold statusCleared
  (repeat' split) <;> simp

@[simp] theorem storeData_frame (s : State) (c : Cue) (d : List Byte) :
    (storeData c d s).pending = s.pending ∧
    (storeData c d s).phase = s.phase ∧
    (storeData c d s).clock = s.clock ∧
    (storeData c d s).sync = s.sync ∧
    (storeData c d s).timelines = s.timelines ∧
    (storeData c d s).directory = s.directory ∧
    (storeData c d s).lanes = s.lanes ∧
    (storeData c d s).roster = s.roster ∧
    (storeData c d s).settings = s.settings ∧
    (storeData c d s).link = s.link ∧
    (storeData c d s).audCounters = s.audCounters ∧
    (storeData c d s).laneCounters = s.laneCounters ∧
    (storeData c d s).status = s.status := by
  unfold storeData
  simp

@[simp] theorem forceFlags_frame (s : State) (x y : Force) :
    (forceFlags x y s).pending = s.pending ∧
    (forceFlags x y s).phase = s.phase ∧
    (forceFlags x y s).clock = s.clock ∧
    (forceFlags x y s).sync = s.sync ∧
    (forceFlags x y s).timelines = s.timelines ∧
    (forceFlags x y s).directory = s.directory ∧
    (forceFlags x y s).table = s.table ∧
    (forceFlags x y s).lanes = s.lanes ∧
    (forceFlags x y s).roster = s.roster ∧
    (forceFlags x y s).settings = s.settings ∧
    (forceFlags x y s).link = s.link ∧
    (forceFlags x y s).audCounters = s.audCounters ∧
    (forceFlags x y s).laneCounters = s.laneCounters := by
  unfold forceFlags
  simp

@[simp] theorem deliver_frame (s : State) (b : List Byte) :
    (deliver b s).pending = s.pending ∧
    (deliver b s).phase = s.phase ∧
    (deliver b s).clock = s.clock ∧
    (deliver b s).sync = s.sync ∧
    (deliver b s).timelines = s.timelines ∧
    (deliver b s).directory = s.directory ∧
    (deliver b s).table = s.table ∧
    (deliver b s).lanes = s.lanes ∧
    (deliver b s).roster = s.roster ∧
    (deliver b s).settings = s.settings ∧
    (deliver b s).audCounters = s.audCounters ∧
    (deliver b s).laneCounters = s.laneCounters ∧
    (deliver b s).status = s.status := by
  unfold deliver
  simp

@[simp] theorem dropResponse_frame (s : State)  :
    (dropResponse s).pending = s.pending ∧
    (dropResponse s).phase = s.phase ∧
    (dropResponse s).clock = s.clock ∧
    (dropResponse s).sync = s.sync ∧
    (dropResponse s).timelines = s.timelines ∧
    (dropResponse s).directory = s.directory ∧
    (dropResponse s).table = s.table ∧
    (dropResponse s).lanes = s.lanes ∧
    (dropResponse s).roster = s.roster ∧
    (dropResponse s).settings = s.settings ∧
    (dropResponse s).audCounters = s.audCounters ∧
    (dropResponse s).laneCounters = s.laneCounters ∧
    (dropResponse s).status = s.status := by
  unfold dropResponse
  simp

@[simp] theorem heldInReset_frame (s : State)  :
    (heldInReset s).pending = s.pending ∧
    (heldInReset s).clock = s.clock ∧
    (heldInReset s).sync = s.sync ∧
    (heldInReset s).timelines = s.timelines ∧
    (heldInReset s).directory = s.directory ∧
    (heldInReset s).table = s.table ∧
    (heldInReset s).lanes = s.lanes ∧
    (heldInReset s).roster = s.roster ∧
    (heldInReset s).settings = s.settings ∧
    (heldInReset s).audCounters = s.audCounters ∧
    (heldInReset s).laneCounters = s.laneCounters ∧
    (heldInReset s).status = s.status := by
  unfold heldInReset
  simp

@[simp] theorem timeAdvanced_frame (s : State)  :
    (timeAdvanced s).pending = s.pending ∧
    (timeAdvanced s).phase = s.phase ∧
    (timeAdvanced s).sync = s.sync ∧
    (timeAdvanced s).timelines = s.timelines ∧
    (timeAdvanced s).directory = s.directory ∧
    (timeAdvanced s).table = s.table ∧
    (timeAdvanced s).lanes = s.lanes ∧
    (timeAdvanced s).roster = s.roster ∧
    (timeAdvanced s).settings = s.settings ∧
    (timeAdvanced s).link = s.link ∧
    (timeAdvanced s).audCounters = s.audCounters ∧
    (timeAdvanced s).laneCounters = s.laneCounters ∧
    (timeAdvanced s).status = s.status := by
  unfold timeAdvanced
  simp

@[simp] theorem State.withInbox_frame (s : State) (rest : List Msg) :
    (s.withInbox rest).pending = s.pending ∧
    (s.withInbox rest).phase = s.phase ∧
    (s.withInbox rest).clock = s.clock ∧
    (s.withInbox rest).sync = s.sync ∧
    (s.withInbox rest).timelines = s.timelines ∧
    (s.withInbox rest).directory = s.directory ∧
    (s.withInbox rest).table = s.table ∧
    (s.withInbox rest).lanes = s.lanes ∧
    (s.withInbox rest).roster = s.roster ∧
    (s.withInbox rest).settings = s.settings ∧
    (s.withInbox rest).audCounters = s.audCounters ∧
    (s.withInbox rest).laneCounters = s.laneCounters ∧
    (s.withInbox rest).status = s.status := by
  unfold State.withInbox
  simp

@[simp] theorem afterReset_pending (s : State) : (afterReset s).pending = s.pending := rfl

@[simp] theorem restarted_pending (s : State) : (restarted s).pending = s.pending := rfl

@[simp] theorem restarted_settings (s : State) : (restarted s).settings = s.settings := rfl

/-! ### Every command -/

theorem acts_pending {c : Instr} {s u : State} (h : Acts c s u) : u.pending = s.pending := by
  cases h <;> simp

theorem acts_settings {c : Instr} {s u : State} (hset : c ≠ .setSetting) (hleave : c ≠ .leaveReset)
    (h : Acts c s u) : u.settings = s.settings := by
  cases h <;> first | exact absurd rfl hset | exact absurd rfl hleave | simp

theorem acts_forced {c : Instr} {s u : State} (hforce : c ≠ .statusForce) (hleave : c ≠ .leaveReset)
    (hrestart : c ≠ .restart) (h : Acts c s u) :
    u.status.forcedFault = s.status.forcedFault ∧ u.status.forcedNotice = s.status.forcedNotice := by
  cases h <;> first | exact absurd rfl hforce | exact absurd rfl hleave | exact absurd rfl hrestart | simp

/-- What the acting of a command keeps of a state's data, the command keeps, where the taking of a message,
the response and the judging do not touch it. -/
theorem exec_keeps_field {α : Type} (g : State → α) {c : Instr}
    (hin : ∀ s rest, g (s.withInbox rest) = g s)
    (hout : ∀ s m r cl b, g (placeResponse m r cl b s) = g s) (hset : ∀ s, g (settle s) = g s)
    (hact : ∀ s u, Acts c s u → g u = g s) {s t : State} (h : exec c s = .next t) : g t = g s :=
  exec_keeps (I := fun u => g u = g s) (fun u rest hu => (hin u rest).trans hu)
    (fun u m r cl b hu => (hout u m r cl b).trans hu) (fun u hu => (hset u).trans hu)
    (fun u v hu hv => (hact u v hv).trans hu) rfl h

end Sys2Proof.Machine
end

section
/-! PROOFS. The whole machine: a step, its answer, the queue and the judged flags. -/

namespace Sys2Proof.Machine

/-! ### Every command continues -/

/-- A command has a next state. -/
def Continues (o : Host.Outcome State Fault Refusal) : Prop := ∃ t, o = .next t

theorem continues_done (s : State) : Continues (done s) := ⟨_, rfl⟩

theorem continues_noEvent (s : State) : Continues (noEvent s) := ⟨_, rfl⟩

/-- An event with a condition has a next state either way. -/
theorem continues_event {p : Prop} [Decidable p] (s t : State) :
    Continues (if p then done t else noEvent s) := by
  split
  · exact continues_done _
  · exact continues_noEvent _

theorem continues_takeRequest (row : ReqRow) (act : List Byte → State → Answer) (s : State) :
    Continues (takeRequest row act s) := by
  obtain h | ⟨_, _, _, _, _, _, h⟩ := takeRequest_cases row act s
  · exact ⟨_, h⟩
  · exact ⟨_, h⟩

theorem continues_restart (s : State) : Continues (execRestart s) := by
  unfold execRestart
  split
  · split
    · exact continues_done _
    · exact continues_takeRequest ..
  · exact continues_noEvent _

theorem continues_badKind (s : State) : Continues (execBadKind s) := by
  unfold execBadKind
  split
  · exact continues_noEvent _
  · exact continues_done _

/-- Every command has a next state in every state (log entry 2). -/
theorem exec_continues (c : Instr) (s : State) : Continues (exec c s) := by
  cases c with
  | restart => exact continues_restart s
  | badKind => exact continues_badKind s
  | pinReset => exact continues_done _
  | showOpen => exact continues_takeRequest ..
  | showClose => exact continues_takeRequest ..
  | showWindow => exact continues_takeRequest ..
  | syncMode => exact continues_takeRequest ..
  | timelineReport => exact continues_takeRequest ..
  | cuePost => exact continues_takeRequest ..
  | cueData => exact continues_takeRequest ..
  | cueRevise => exact continues_takeRequest ..
  | cueWithdraw => exact continues_takeRequest ..
  | cueQueryByCue => exact continues_takeRequest ..
  | cueQueryByTrack => exact continues_takeRequest ..
  | rxIssue => exact continues_takeRequest ..
  | rxMove => exact continues_takeRequest ..
  | rxReturn => exact continues_takeRequest ..
  | rxLookup => exact continues_takeRequest ..
  | rxList => exact continues_takeRequest ..
  | rxCounts => exact continues_takeRequest ..
  | laneStart => exact continues_takeRequest ..
  | laneStop => exact continues_takeRequest ..
  | setSetting => exact continues_takeRequest ..
  | getSetting => exact continues_takeRequest ..
  | status => exact continues_takeRequest ..
  | statusClear => exact continues_takeRequest ..
  | statusForce => exact continues_takeRequest ..
  | counters => exact continues_takeRequest ..
  | identify => exact continues_takeRequest ..
  | voidOperation _ _ => exact continues_event ..
  | leaveReset => exact continues_event ..
  | startUpCompletion => exact continues_event ..
  | buildComplete _ => exact continues_event ..
  | uplinkPurge _ _ _ => exact continues_event ..
  | buildProgress _ => exact continues_event ..
  | writeMsg =>
    change Continues (execWriteMsg s)
    unfold execWriteMsg
    repeat' split
    all_goals exact ⟨_, rfl⟩
  | writeMsgEnd bytes =>
    change Continues (execWriteMsgEnd bytes s)
    unfold execWriteMsgEnd
    repeat' split
    all_goals exact ⟨_, rfl⟩
  | readMsg =>
    change Continues (execReadMsg s)
    unfold execReadMsg
    repeat' split
    all_goals exact ⟨_, rfl⟩
  | readMsgEnd clocked =>
    change Continues (execReadMsgEnd clocked s)
    unfold execReadMsgEnd
    repeat' split
    all_goals exact ⟨_, rfl⟩
  | readState what =>
    change Continues (execReadState what s)
    unfold execReadState
    repeat' split
    all_goals exact ⟨_, rfl⟩
  | activeEdge a level =>
    change Continues (execActiveEdge a level s)
    unfold execActiveEdge
    dsimp only
    repeat' split
    all_goals exact ⟨_, rfl⟩
  | gateActive a =>
    change Continues (execGateActive a s)
    unfold execGateActive
    dsimp only
    repeat' split
    all_goals exact ⟨_, rfl⟩
  | gateRelease a =>
    change Continues (execGateRelease a s)
    unfold execGateRelease
    dsimp only
    repeat' split
    all_goals exact ⟨_, rfl⟩
  | coastDeadline a =>
    change Continues (execCoastDeadline a s)
    unfold execCoastDeadline
    dsimp only
    repeat' split
    all_goals exact ⟨_, rfl⟩
  | timelineLossDeadline a =>
    change Continues (execTimelineLossDeadline a s)
    unfold execTimelineLossDeadline
    dsimp only
    repeat' split
    all_goals exact ⟨_, rfl⟩
  | joinDeadlineExpiry i =>
    change Continues (execJoinDeadlineExpiry i s)
    unfold execJoinDeadlineExpiry
    repeat' split
    all_goals exact ⟨_, rfl⟩
  | silenceDeadlineExpiry i =>
    change Continues (execSilenceDeadlineExpiry i s)
    unfold execSilenceDeadlineExpiry
    repeat' split
    all_goals exact ⟨_, rfl⟩
  | lossDeadlineExpiry i =>
    change Continues (execLossDeadlineExpiry i s)
    unfold execLossDeadlineExpiry
    repeat' split
    all_goals exact ⟨_, rfl⟩
  | laneBoundary l =>
    change Continues (execLaneBoundary l s)
    unfold execLaneBoundary
    dsimp only
    repeat' split
    all_goals exact ⟨_, rfl⟩
  | sent l =>
    change Continues (execSent l s)
    unfold execSent
    repeat' split
    all_goals exact ⟨_, rfl⟩
  | rfReadyRelease l =>
    change Continues (execRfReadyRelease l s)
    unfold execRfReadyRelease
    repeat' split
    all_goals exact ⟨_, rfl⟩
  | rfReadyAssert l =>
    change Continues (execRfReadyAssert l s)
    unfold execRfReadyAssert
    repeat' split
    all_goals exact ⟨_, rfl⟩
  | checkin l msg =>
    change Continues (execCheckin l msg s)
    unfold execCheckin
    repeat' split
    all_goals exact ⟨_, rfl⟩
  | ask l msg =>
    change Continues (execAsk l msg s)
    unfold execAsk
    repeat' split
    all_goals exact ⟨_, rfl⟩
  | siteTimeAdvance =>
    change Continues (execSiteTimeAdvance s)
    unfold execSiteTimeAdvance
    repeat' split
    all_goals exact ⟨_, rfl⟩

/-- Settles O2: every command continues, and no change a command makes touches the queue. -/
theorem everyCommandAnswersAndKeepsTheQueue : Obligations.EveryCommandAnswersAndKeepsTheQueue := by
  intro c s
  obtain ⟨t, ht⟩ := exec_continues c s
  exact ⟨t, ht, exec_keeps_field State.pending (fun _ _ => rfl) (fun _ _ _ _ _ => rfl)
    (fun _ => rfl) (fun _ _ => acts_pending) ht⟩

/-! ### A step -/

/-- Settles O1, by the two cases of the queue. -/
theorem stepRunsTheFrontCommand : Obligations.StepRunsTheFrontCommand := by
  refine ⟨fun c rest s hs => ?_, fun s hs => ?_⟩
  · unfold step
    rw [hs]
  · unfold step
    rw [hs]

/-! ### The judged flags -/

/-- Every command either leaves the state or ends in a judging of the flags. -/
theorem exec_judged {c : Instr} {s t : State} (h : exec c s = .next t) : t = s ∨ Judged t := by
  obtain rfl | ⟨u, -, rfl⟩ | ⟨m, rest, u, res, cl, body, -, -, -, -, rfl⟩ := exec_outcomes h
  · exact .inl rfl
  · exact .inr (judged_settle _)
  · exact .inr (judged_settle _)

/-- Settles O4: a command that changes anything judges the flags at its end. -/
theorem summaryFlagsAreAlwaysJudged : Obligations.SummaryFlagsAreAlwaysJudged := by
  intro s t hs h
  refine step_keeps (I := Judged) (fun _ _ hs => hs) (fun c s t hs h => ?_) hs h
  obtain rfl | ht := exec_judged h
  · exact hs
  · exact ht

/-! ### Forced flags and settings -/

/-- Settles O16: forced flags and settings are touched by no other command's change. -/
theorem forcedFlagsAndSettingsKeep : Obligations.ForcedFlagsAndSettingsKeep := by
  intro c s t h
  refine ⟨fun hforce hleave hrestart => ?_, fun hset hleave k => ?_⟩
  · have hflags := exec_keeps_field (fun u => (u.status.forcedFault, u.status.forcedNotice))
      (fun _ _ => rfl) (fun _ _ _ _ _ => rfl) (fun _ => rfl)
      (fun _ _ hact => Prod.ext_iff.2 (acts_forced hforce hleave hrestart hact)) h
    exact Prod.ext_iff.1 hflags
  · have hsettings := exec_keeps_field State.settings (fun _ _ => rfl) (fun _ _ _ _ _ => rfl)
      (fun _ => rfl) (fun _ _ => acts_settings hset hleave) h
    rw [State.setting, hsettings]
    rfl

/-! ### The payload store -/

/-- The blocks a CUE_POST takes (R54). -/
def postBlocks (q : CuePostReq) (s : State) : List Nat :=
  s.table.free.take (blocksFor q.body.declared)

/-- The Cue Table after an accepted CUE_POST (R54, R55). -/
theorem doPost_table (q : CuePostReq) (slot : Nat) (s : State) :
    (doPost q slot s).1.table =
      { cues := insertCue (postedCue q slot (postBlocks q s)) s.table.cues
        free := s.table.free.drop (blocksFor q.body.declared)
        payload := writePayload (postBlocks q s) 0 q.body.inline s.table.payload } := by
  simp [doPost, postBlocks, postedCue]

/-- The blocks a CUE_REVISE takes, from the free-block list that the old ones have joined (R59). -/
def reviseBlocks (x : CueBody) (c : Cue) (s : State) : List Nat :=
  (s.table.free ++ c.blocks).take (blocksFor x.declared)

/-- The Cue Table after an accepted CUE_REVISE (R59, R60). -/
theorem doRevise_table (x : CueBody) (c : Cue) (s : State) :
    (doRevise x c s).1.table =
      { cues := s.table.cues.map fun y =>
          if y.slot = c.slot then revisedCue x (reviseBlocks x c s) c else y
        free := (s.table.free ++ c.blocks).drop (blocksFor x.declared)
        payload := writePayload (reviseBlocks x c s) 0 x.inline s.table.payload } := by
  by_cases hin : c.inP = x.inP <;>
    simp [doRevise, hin, State.putCue, reviseBlocks, revisedCue]

/-- Every change keeps the payload store canonical: only CUE_POST, CUE_DATA and CUE_REVISE write it. -/
theorem acts_payload {c : Instr} {s u : State} (hwf : Memory.wf s.table.payload = true)
    (h : Acts c s u) : Memory.wf u.table.payload = true := by
  cases h with
  | cuePost => rw [doPost_table]; exact memWf_writePayload _ _ _ _ hwf
  | cueRevise => rw [doRevise_table]; exact memWf_writePayload _ _ _ _ hwf
  | cueData => rw [storeData_payload]; exact memWf_writePayload _ _ _ _ hwf
  | restart => rfl
  | leaveReset => rfl
  | _ => simpa using hwf

/-- Settles O14. -/
theorem payloadStoreStaysCanonical : Obligations.PayloadStoreStaysCanonical := by
  intro s t hwf h
  refine step_keeps (I := fun u => Memory.wf u.table.payload = true) (fun _ _ h => h)
    (fun c s t hs h => ?_) hwf h
  exact exec_keeps (I := fun u => Memory.wf u.table.payload = true) (fun _ _ h => h)
    (fun _ _ _ _ _ h => h) (fun _ h => h) (fun _ _ => acts_payload) hs h

end Sys2Proof.Machine
end

section
/-! PROOFS. Settings within their ranges (R166, R167), and the state after a reset. -/

namespace Sys2Proof.Machine

/-! ### Reading a setting after a write -/

theorem settingIdx_injective : Function.Injective settingIdx := by
  intro k j h
  have hk := allSettings_getElem?_settingIdx k
  rw [h, allSettings_getElem?_settingIdx j] at hk
  exact (Option.some.inj hk).symm

theorem State.setting_withSetting (s : State) (k j : Setting) (v : Nat) :
    (s.withSetting k v).setting j = if j = k then v else s.setting j := by
  simp only [State.setting, State.withSetting, vput_get, settingIdx_injective.eq_iff]

theorem State.setting_congr {s t : State} (h : t.settings = s.settings) (k : Setting) :
    t.setting k = s.setting k := by
  rw [State.setting, h, State.setting]

theorem settingsOk_congr {s t : State} (h : t.settings = s.settings) (hs : SettingsOk s) :
    SettingsOk t := by
  simpa only [SettingsOk, State.setting_congr h] using hs

theorem setTo_setting (k j : Setting) (v : Nat) (s : State) :
    (setTo k v s).setting j =
      (raisePartner k (effective s k v) (s.withSetting k (effective s k v))).setting j := by
  unfold setTo
  dsimp only
  split
  · exact State.setting_congr (by simp) j
  · rfl

/-- The settings after a SET: the one named has the value in effect, and a partner may be raised (R167). -/
theorem setting_setTo (k j : Setting) (v : Nat) (s : State) :
    (setTo k v s).setting j =
      if j = k then effective s k v
      else if k = .reportTimeout ∧ j = .coastLimit then
        max (s.setting .coastLimit) (effective s k v)
      else if k = .silentAfter ∧ j = .lostAfter then
        if s.setting .lostAfter ≤ effective s k v then effective s k v + 1000
        else s.setting .lostAfter
      else s.setting j := by
  rw [setTo_setting]
  generalize effective s k v = w
  unfold raisePartner
  split
  · simp only [State.setting_withSetting, reduceCtorEq, if_false]
    split
    · cases j <;> simp [State.setting_withSetting]
      omega
    · cases j <;> simp [State.setting_withSetting]
      omega
  · simp only [State.setting_withSetting, reduceCtorEq, if_false]
    split <;> cases j <;> simp [State.setting_withSetting]
  · next hr hs =>
    have h1 : ¬ (k = .reportTimeout ∧ j = .coastLimit) := fun h => hr h.1
    have h2 : ¬ (k = .silentAfter ∧ j = .lostAfter) := fun h => hs h.1
    simp only [State.setting_withSetting, h1, h2, if_false]

/-! ### The value in effect -/

theorem clampTo_mem {lo hi v : Nat} (h : lo ≤ hi) : lo ≤ clampTo lo hi v ∧ clampTo lo hi v ≤ hi := by
  unfold clampTo
  split
  · omega
  · split <;> omega

theorem settingRange_le (k : Setting) : (settingRange k).1 ≤ (settingRange k).2 := by
  cases k <;> decide

theorem settingRange_of_isMask {k : Setting} (h : k.isMask = true) :
    settingRange k = (0, 65535) := by
  cases k <;> first | rfl | cases h

theorem boundSetting_mem (k : Setting) (v : Nat) :
    (settingRange k).1 ≤ boundSetting k v ∧ boundSetting k v ≤ (settingRange k).2 := by
  unfold boundSetting
  split
  · rw [settingRange_of_isMask ‹_›]
    dsimp only
    omega
  · exact clampTo_mem (settingRange_le k)

/-- The value a SET puts in effect, but for the two settings that their partner can raise. -/
theorem effective_of_free {k : Setting} (hc : k ≠ .coastLimit) (hl : k ≠ .lostAfter) (s : State)
    (v : Nat) : effective s k v = boundSetting k v := by
  cases k <;> first | rfl | exact absurd rfl hc | exact absurd rfl hl

theorem effective_mem {s : State} (h : SettingsOk s) (k : Setting) (v : Nat) :
    (settingRange k).1 ≤ effective s k v ∧ effective s k v ≤ (settingRange k).2 := by
  obtain ⟨hrange, -, -⟩ := h
  have hb := boundSetting_mem k v
  by_cases hc : k = .coastLimit
  · subst hc
    have hr := hrange .reportTimeout
    simp only [effective, settingRange] at *
    omega
  by_cases hl : k = .lostAfter
  · subst hl
    have hr := hrange .silentAfter
    simp only [effective, settingRange] at *
    split <;> omega
  · rw [effective_of_free hc hl]
    exact hb

/-- A SET keeps every setting in range and in line with its partner. -/
theorem settingsOk_setTo {s : State} (h : SettingsOk s) (k : Setting) (v : Nat) :
    SettingsOk (setTo k v s) := by
  have hw := effective_mem h k v
  obtain ⟨hrange, hcoast, hlost⟩ := h
  refine ⟨fun j => ?_, ?_, ?_⟩
  · rw [setting_setTo]
    split
    · next hj => rw [hj]; exact hw
    split
    · next hj =>
      obtain ⟨rfl, rfl⟩ := hj
      have := hrange .coastLimit
      simp only [settingRange] at *
      omega
    split
    · next hj =>
      obtain ⟨rfl, rfl⟩ := hj
      have := hrange .lostAfter
      simp only [settingRange] at *
      split <;> omega
    · exact hrange j
  · simp only [setting_setTo, reduceCtorEq, and_false, and_true, if_false]
    by_cases hr : k = .reportTimeout
    · subst hr
      simp
    by_cases hc : k = .coastLimit
    · subst hc
      simp [effective]
    · simp only [Ne.symm hr, Ne.symm hc, hr, if_false]
      exact hcoast
  · simp only [setting_setTo, reduceCtorEq, and_false, and_true, if_false]
    by_cases hs : k = .silentAfter
    · subst hs
      simp only [reduceCtorEq, if_true, if_false]
      split <;> omega
    by_cases hl : k = .lostAfter
    · subst hl
      simp only [reduceCtorEq, if_true, if_false, effective]
      split <;> omega
    · simp only [Ne.symm hs, Ne.symm hl, hs, if_false]
      exact hlost

theorem settingsOk_reset : SettingsOk State.reset := by
  refine ⟨fun k => ?_, by decide, by decide⟩
  cases k <;> decide

theorem acts_settingsOk {c : Instr} {s u : State} (hs : SettingsOk s) (h : Acts c s u) :
    SettingsOk u := by
  by_cases hset : c = .setSetting
  · subst hset
    cases h with
    | setSetting => exact settingsOk_setTo hs _ _
    | _ => exact settingsOk_congr (by simp) hs
  by_cases hleave : c = .leaveReset
  · subst hleave
    cases h with
    | leaveReset => exact settingsOk_congr rfl settingsOk_reset
    | _ => exact settingsOk_congr (by simp) hs
  · exact settingsOk_congr (acts_settings hset hleave h) hs

/-- Settles O6. -/
theorem settingsStayInRange : Obligations.SettingsStayInRange := by
  intro s t hs h
  refine step_keeps (I := SettingsOk) (fun _ _ hs => hs) (fun c s t hs h => ?_) hs h
  exact exec_keeps (I := SettingsOk) (fun _ _ hs => hs) (fun _ _ _ _ _ hs => hs) (fun _ hs => hs)
    (fun _ _ => acts_settingsOk) hs h

/-! ### The state after a reset -/

theorem reset_track? (a : Aud) (t : Track) : State.reset.track? a t = none := by
  simp [State.track?, State.theShow?, State.reset]

theorem reset_isOpen (a : Aud) : State.reset.isOpen a = false := by
  simp [State.isOpen, State.theShow?, State.reset]

theorem reset_lineup (a : Aud) (t : Track) : State.reset.lineup a t = [] := by
  simp [State.lineup, reset_track?]

theorem reset_cond (c : Cond) : State.reset.cond c = ⟨false, .absent⟩ := by
  simp [State.cond, State.reset, Status.reset]

theorem Lane.ok_reset (rf : Bool) : (Lane.reset rf).ok :=
  ⟨nofun, nofun, ⟨rfl, rfl⟩, fun _ => ⟨rfl, rfl⟩, Nat.zero_le _, nofun⟩

theorem Lane.listsOk_reset (rf : Bool) : (Lane.reset rf).listsOk :=
  ⟨Nat.zero_le _, List.nodup_nil, Nat.zero_le _, List.nodup_nil, List.nodup_nil⟩

theorem reset_lane (l : LaneId) : State.reset.lane l = Lane.reset Config.rfReadyAtReset := by
  cases l <;> rfl

theorem Timeline.ok_closed (e : BitVec 8) : ({ Timeline.reset with epoch := e } : Timeline).ok :=
  ⟨by simp [Timeline.reset], by simp [Timeline.reset], nofun, nofun,
    show rateMin ≤ 65536 by decide, show 65536 ≤ rateMax by decide, nofun⟩

theorem reset_timeline (a : Aud) : State.reset.timeline a = Timeline.reset := by
  simp [State.timeline, State.reset]

theorem timelinesOk_reset : TimelinesOk State.reset := by
  intro a
  rw [reset_timeline, reset_isOpen]
  exact ⟨Timeline.ok_closed 0, by decide⟩

theorem countersOk_reset : CountersOk State.reset := by
  refine ⟨fun a c => ?_, fun l c => ?_⟩
  · simp [State.audCount, State.reset]
  · cases l <;> simp [State.laneCount, State.reset]

theorem cueTableOk_reset : CueTableOk State.reset := by
  refine ⟨?_, ?_, fun a t => ?_, fun a t k => ?_, fun a w hw => ?_, ?_⟩
  · simp [State.reset]
  · simp [State.reset]
  · simp [reset_lineup]
  · rw [reset_lineup]
    simp [State.reset]
  · simp [State.theShow?, State.reset] at hw
  · simp [State.reset, Config.payloadBlocks]

theorem lineupsOk_reset : LineupsOk State.reset := by
  refine ⟨?_, fun a t => ?_, ?_⟩
  · simp [State.reset]
  · simp [reset_lineup]
  · simp [State.reset]

theorem listenersOk_reset : ListenersOk State.reset := by
  refine ⟨?_, fun a t w hw => ?_⟩
  · simp [State.reset]
  · rw [reset_track?] at hw
    cases hw

theorem repairsOk_reset : RepairsOk State.reset := by
  intro l e he
  rw [reset_lane] at he
  cases he

theorem conditionsFollow_reset : ConditionsFollow State.reset := by
  have hmark : State.reset.setting .poolLowMark = 64 := rfl
  refine ⟨?_, ?_, ?_, ?_⟩
  · simp [reset_cond, reset_isOpen]
  · simp [reset_cond, reset_isOpen]
  · simp [reset_cond, reset_lane, Lane.reset]
  · rw [reset_cond, hmark]
    simp [State.reset]

/-- Settles O3, invariant by invariant. -/
theorem resetMeetsTheInvariants : Obligations.ResetMeetsTheInvariants :=
  ⟨⟨by decide, by decide, by decide⟩, ⟨by decide, by decide, by decide⟩, settingsOk_reset,
    fun l => reset_lane l ▸ Lane.ok_reset _, fun l => reset_lane l ▸ Lane.listsOk_reset _,
    timelinesOk_reset, countersOk_reset, ⟨List.Pairwise.nil, List.nodup_nil⟩, cueTableOk_reset,
    lineupsOk_reset, listenersOk_reset, repairsOk_reset, conditionsFollow_reset, rfl⟩

end Sys2Proof.Machine
end

section
/-! PROOFS. The site link's slots, refused requests, and the Request Engine's waiting (R159, R162 to R164). -/

namespace Sys2Proof.Machine

/-! ### What becomes of the link -/

/-- An accepted request leaves the link to the taking and the answering. -/
theorem acts_link {c : Instr} {s u : State} (hc : acceptsRequest c = true) (h : Acts c s u) :
    u.link = s.link := by
  cases h with
  | reads => rfl
  | _ => simp [acceptsRequest] at hc ⊢

theorem linkOk_congr {s t : State} (h : t.link = s.link) (hs : LinkOk s) : LinkOk t := by
  simpa only [LinkOk, h] using hs

theorem linkOk_settle {s : State} (hs : LinkOk s) : LinkOk (settle s) := hs

/-- A link without a claim is in order when its messages are. -/
theorem linkOk_of_unclaimed {s t : State} (hs : LinkOk s) (hclaimed : t.link.claimed = false)
    (hin : t.link.inbox = s.link.inbox) (hout : t.link.outbox.length ≤ s.link.outbox.length) :
    LinkOk t := by
  obtain ⟨hroom, hresponses, hmsgs⟩ := hs
  refine ⟨?_, hout.trans hresponses, by rwa [hin]⟩
  rw [hin, hclaimed, if_neg Bool.false_ne_true]
  omega

theorem linkOk_reset : LinkOk State.reset := ⟨by decide, by decide, nofun⟩

theorem deliveredMsg_stored (bytes : List Byte) :
    (deliveredMsg bytes).bytes.length = min (deliveredMsg bytes).delivered Config.slotBytes := by
  simp [deliveredMsg, Nat.min_comm]

/-- Every event keeps the inbox and the outbox within their slots. -/
theorem acts_linkOk {c : Instr} {s u : State} (hs : LinkOk s) (h : Acts c s u) : LinkOk u := by
  cases h with
  | writeClaims _ _ hfree =>
    obtain ⟨hroom, hresponses, hmsgs⟩ := hs
    refine ⟨?_, hresponses, hmsgs⟩
    simp only [Link.freeSlots, Config.linkSlots] at hfree
    simp only [beginTxn, Link.claimed, if_true, Config.linkSlots]
    omega
  | writeOverflows => exact linkOk_of_unclaimed hs rfl rfl le_rfl
  | writeIgnored => exact linkOk_of_unclaimed hs rfl rfl le_rfl
  | @writeDelivers _ begun out bytes htxn hbytes =>
    obtain ⟨hroom, hresponses, hmsgs⟩ := hs
    have hclaimed : s.link.claimed = true := by simp [Link.claimed, htxn]
    refine ⟨?_, hresponses, fun m hm => ?_⟩
    · rw [hclaimed, if_pos rfl] at hroom
      simpa [deliver, endTxn, Link.claimed] using hroom
    · obtain hm | hm := List.mem_append.1 hm
      · exact hmsgs m hm
      · obtain rfl := List.mem_singleton.1 hm
        exact ⟨deliveredMsg_stored bytes, List.length_pos_of_ne_nil hbytes⟩
  | writeEnds => exact linkOk_of_unclaimed hs rfl rfl le_rfl
  | readMsg => exact linkOk_of_unclaimed hs rfl rfl le_rfl
  | readRemoves =>
    refine linkOk_of_unclaimed hs rfl rfl ?_
    simp [dropResponse, endTxn]
  | readEnds => exact linkOk_of_unclaimed hs rfl rfl le_rfl
  | csFalls => exact hs
  | @secondByte _ _ kind out htxn =>
    have hclaimed : (secondByteBegins kind out s).link.claimed = s.link.claimed := by
      simp only [secondByteBegins, Link.claimed, htxn]
      cases kind <;> rfl
    obtain ⟨hroom, hrest⟩ := hs
    exact ⟨hclaimed ▸ hroom, hrest⟩
  | stateRead => exact hs
  | void => exact hs
  | pinReset => exact linkOk_of_unclaimed hs rfl rfl le_rfl
  | restart => exact linkOk_congr rfl linkOk_reset
  | leaveReset => exact linkOk_congr rfl linkOk_reset
  | _ => exact linkOk_congr (by simp) hs

/-- Answering a message takes one slot of the outbox for the slot of the inbox that it frees. -/
theorem linkOk_answered {c : Instr} {s t : State} (hs : LinkOk s) (h : Answered c s t) :
    LinkOk t := by
  obtain ⟨m, rest, u, res, cl, body, hin, -, hspace, hu, rfl⟩ := h
  have hlink : u.link = (s.withInbox rest).link := by
    obtain ⟨-, -, -, rfl⟩ | ⟨-, hc, hu⟩ := hu
    · rfl
    · exact acts_link hc hu
  obtain ⟨hroom, hresponses, hmsgs⟩ := hs
  have hclaimed : (s.withInbox rest).link.claimed = s.link.claimed := rfl
  refine ⟨?_, ?_, fun m' hm => ?_⟩
  · change u.link.inbox.length + (if u.link.claimed = true then 1 else 0) ≤ _
    rw [hlink, hclaimed]
    rw [hin, List.length_cons] at hroom
    change rest.length + _ ≤ _
    omega
  · change (u.link.outbox ++ [_]).length ≤ _
    rw [hlink, List.length_append]
    exact hspace
  · change m' ∈ u.link.inbox at hm
    rw [hlink] at hm
    exact hmsgs m' (hin ▸ List.mem_cons_of_mem m hm)

/-- Settles O5. -/
theorem linkStaysWithinItsSlots : Obligations.LinkStaysWithinItsSlots := by
  intro s t hs h
  refine step_keeps (I := LinkOk) (fun _ _ hs => hs) (fun c s t hs h => ?_) hs h
  obtain rfl | ⟨u, hu, rfl⟩ | h := exec_outcomes h
  · exact hs
  · exact linkOk_settle (acts_linkOk hs hu)
  · exact linkOk_answered hs h

/-! ### Refused requests -/

theorem acts_link_rowCommand {row : ReqRow} {s u : State} (h : Acts (rowCommand row) s u)
    (hr : row ≠ .restart) : u.link = s.link := by
  cases row with
  | restart => exact absurd rfl hr
  | badKind => cases h; rfl
  | _ => exact acts_link rfl h

/-- A RESTART that happens leaves an empty outbox. -/
theorem acts_restart_outbox {s u : State} (h : Acts .restart s u) :
    u.link.outbox = [] ∨ u.link.outbox = s.link.outbox := by
  cases h with
  | restart => exact .inl rfl
  | reads => exact .inr rfl

theorem append_singleton_ne {α : Type} (xs : List α) (x : α) : xs ≠ xs ++ [x] := by
  simp

/-- A change without an answer puts no response in the outbox. -/
theorem happened_outbox {row : ReqRow} {s t : State} {r : Response}
    (h : Happened (rowCommand row) s t) : t.link.outbox ≠ s.link.outbox ++ [r] := by
  obtain ⟨u, hu, rfl⟩ := h
  have hout : u.link.outbox = [] ∨ u.link.outbox = s.link.outbox := by
    by_cases hr : row = .restart
    · subst hr
      exact acts_restart_outbox hu
    · exact .inr (congrArg Link.outbox (acts_link_rowCommand hu hr))
  rw [settle_link]
  obtain hout | hout := hout
  · simp [hout]
  · rw [hout]
    exact append_singleton_ne _ _

/-- Settles O18: what is answered with anything but OK has been refused without acting. -/
theorem refusedRequestChangesNothing : Obligations.RefusedRequestChangesNothing := by
  intro row s t r h hout hres
  obtain rfl | hact | ⟨m, rest, u, res, cl, body, hin, -, -, hu, rfl⟩ := exec_outcomes h
  · exact absurd hout (append_singleton_ne _ _)
  · exact absurd hout (happened_outbox hact)
  · have hlink : u.link.outbox = s.link.outbox := by
      obtain ⟨-, -, -, rfl⟩ | ⟨-, hc, hu⟩ := hu
      · rfl
      · rw [acts_link hc hu]
        rfl
    have hr := (congrArg (· ++ [_]) hlink).symm.trans hout
    rw [List.append_right_inj, List.cons.injEq] at hr
    obtain ⟨rfl, -⟩ := hr
    obtain ⟨-, hbody, -, rfl⟩ | ⟨hok, -, -⟩ := hu
    · refine ⟨hbody, changesOnly_settle fun p hp => ?_⟩
      simp only [List.mem_cons, List.not_mem_nil, not_or, or_false] at hp
      exact (same_placeResponse p hp.2 ..).2 (same_withInbox p hp.1 rest s)
    · exact absurd hok hres

/-! ### No message is taken -/

/-- The engine takes nothing while the part is not ready or the outbox is full. -/
theorem takeRequest_waits {row : ReqRow} {act : List Byte → State → Answer} {s : State}
    (h : Config.linkSlots ≤ s.link.outbox.length ∨ s.phase ≠ .ready) :
    takeRequest row act s = .next s := by
  obtain hnone | ⟨m, rest, -, hready, -, hroom, -⟩ := takeRequest_cases row act s
  · exact hnone
  · obtain h | h := h
    · exact absurd hroom (Nat.not_lt.2 h)
    · exact absurd hready h

theorem execBadKind_waits {s : State}
    (h : Config.linkSlots ≤ s.link.outbox.length ∨ s.phase ≠ .ready) :
    execBadKind s = .next s := by
  have hnone : takeable .badKind s = none := by
    unfold takeable
    split
    · rfl
    · rw [if_neg]
      rintro ⟨hready, -, hroom⟩
      exact h.elim (Nat.not_le.2 hroom) (fun h => h hready)
  unfold execBadKind
  rw [hnone]
  rfl

theorem execRestart_waits {s : State}
    (h : Config.linkSlots ≤ s.link.outbox.length ∨ s.phase ≠ .ready)
    (hform : ∀ m rest, s.link.inbox = m :: rest → s.phase = .ready → m.isRestart = false) :
    execRestart s = .next s := by
  unfold execRestart
  split
  · next m rest hin =>
    rw [if_neg]
    · exact takeRequest_waits h
    · rintro ⟨hready, hrestart⟩
      rw [hform m rest hin hready] at hrestart
      cases hrestart
  · rfl

/-- Settles O19. -/
theorem engineWaitsForTheOutbox : Obligations.EngineWaitsForTheOutbox := by
  intro row s h hform
  cases row with
  | restart => exact execRestart_waits h hform
  | badKind => exact execBadKind_waits h
  | _ => exact takeRequest_waits h

/-! ### Bad headers -/

/-- A message of a request kind whose length is not its header's is refused with BAD_FORMAT. -/
theorem takeRequest_badLength {row : ReqRow} {act : List Byte → State → Answer} {m : Msg}
    {rest : List Msg} {s : State} (hready : s.phase = .ready) (hin : s.link.inbox = m :: rest)
    (hroom : s.link.outbox.length < Config.linkSlots) (hrow : rowOf m = row)
    (hlen : m.lengthOk = false) :
    takeRequest row act s
      = .next (settle (placeResponse m .badFormat false [] (s.withInbox rest))) := by
  simp [takeRequest, takeable, hin, hready, hrow, hroom, hlen, done, answer, State.withInbox]

theorem isRestart_lengthOk {m : Msg} (h : m.lengthOk = false) : m.isRestart = false := by
  simp only [Msg.lengthOk, Msg.isRestart, Bool.and_eq_false_iff, decide_eq_false_iff_not,
    beq_eq_false_iff_ne] at *
  omega

theorem execBadKind_taken {m : Msg} {rest : List Msg} {s : State} (hready : s.phase = .ready)
    (hin : s.link.inbox = m :: rest) (hroom : s.link.outbox.length < Config.linkSlots)
    (hrow : rowOf m = .badKind) :
    execBadKind s = .next (settle (placeResponse m
      (if m.delivered < 4 then .badFormat else .badKind) false [] (s.withInbox rest))) := by
  simp [execBadKind, takeable, hin, hready, hrow, hroom, done, answer, State.withInbox]

theorem exec_badLength {row : ReqRow} {m : Msg} {rest : List Msg} {s : State}
    (hready : s.phase = .ready) (hin : s.link.inbox = m :: rest)
    (hroom : s.link.outbox.length < Config.linkSlots) (hrow : rowOf m = row)
    (hlen : m.lengthOk = false) (hkind : row ≠ .badKind) :
    exec (rowCommand row) s
      = .next (settle (placeResponse m .badFormat false [] (s.withInbox rest))) := by
  cases row with
  | badKind => exact absurd rfl hkind
  | restart =>
    change execRestart s = _
    unfold execRestart
    rw [hin]
    dsimp only
    rw [if_neg fun h => by rw [isRestart_lengthOk hlen] at h; cases h.2]
    exact takeRequest_badLength hready hin hroom hrow hlen
  | _ => exact takeRequest_badLength hready hin hroom hrow hlen

/-- A refusal leaves all but the inbox and the outbox. -/
theorem refusal_changesOnly (m : Msg) (rest : List Msg) (res : Result) (s : State) :
    ChangesOnly [.inbox, .outbox] s (settle (placeResponse m res false [] (s.withInbox rest))) := by
  refine changesOnly_settle fun p hp => ?_
  simp only [List.mem_cons, List.not_mem_nil, not_or, or_false] at hp
  exact (same_placeResponse p hp.2 ..).2 (same_withInbox p hp.1 rest s)

/-- Settles O20: the three header checks, in their order. -/
theorem badHeadersAreRefused : Obligations.BadHeadersAreRefused := by
  intro row m rest s hready hin hroom hrow hbad
  by_cases hkind : row = .badKind
  · subst hkind
    refine ⟨_, execBadKind_taken hready hin hroom hrow, refusal_changesOnly .., ?_⟩
    have hres : (if m.delivered < 4 then Result.badFormat else .badKind)
        = if ReqRow.badKind = .badKind ∧ 4 ≤ m.delivered then .badKind else .badFormat := by
      by_cases hshort : m.delivered < 4
      · simp [hshort]
      · simp [hshort, Nat.not_lt.1 hshort]
    rw [← hres]
    exact responded_settle rfl rfl
  · have hlen := hbad.resolve_left hkind
    refine ⟨_, exec_badLength hready hin hroom hrow hlen hkind, refusal_changesOnly .., ?_⟩
    rw [if_neg fun h => hkind h.1]
    exact responded_settle rfl rfl

end Sys2Proof.Machine
end

section
/-! SUPPORT. What the phase pass, the walk, the jumps and the units of a build can do to the state, as a chain of
elementary changes: an invariant that each elementary change keeps is kept by all of them. -/

namespace Sys2Proof.Machine

/-- `c'` is the same cue as `c`, further on in its airing: only delivery, phase, send offset, air count and flags
can differ, and the send offset stays within the fill mark (R46, R47). -/
structure SameCue (c c' : Cue) : Prop where
  slot : c'.slot = c.slot
  aud : c'.aud = c.aud
  track : c'.track = c.track
  num : c'.num = c.num
  inP : c'.inP = c.inP
  rev : c'.rev = c.rev
  declared : c'.declared = c.declared
  fill : c'.fill = c.fill
  blocks : c'.blocks = c.blocks
  off : c.off ≤ c.fill → c'.off ≤ c.fill

/-- `e'` is the same repair entry as `e`, further on in its service (R121). -/
structure SameRepair (e e' : Repair) : Prop where
  kind : e'.kind = e.kind
  aud : e'.aud = e.aud
  track : e'.track = e.track
  num : e'.num = e.num
  rev : e'.rev = e.rev

/-- One elementary change of a walk, a pass or a build. In a jump (`jump`) a SENT cue can lose its delivery. -/
inductive Tick (jump : Bool) : State → State → Prop where
  | cue {s : State} {c c' : Cue} (hc : s.cueAt c.slot = some c) (hsame : SameCue c c')
      (hsent : jump = true ∨ (c.delivery = .sent → c'.delivery = .sent)) : Tick jump s (s.putCue c')
  | retire {s : State} {c : Cue} (hc : s.cueAt c.slot = some c) : Tick jump s (s.retire c)
  | reWait {s : State} {c : Cue} (hc : s.cueAt c.slot = some c) : Tick jump s (reWaitCue c s)
  | counted {s : State} {a : Aud} {k : AudCounter} : Tick jump s (s.countAud a k)
  | latched {s : State} {c : Cond} {w : CondRec} (hc : c ∉ currentConds) :
      Tick jump s (s.latch c w)
  | lastDone {s : State} {a : Aud} {t : Track} {x : Option Nat} :
      Tick jump s (s.modTrack a t fun r => { r with lastDone := x })
  | placed {s : State} {l : LaneId} {i : BufId} {x : Section} : Tick jump s (s.addSection l i x)
  | build {s : State} {l : LaneId} {f : Build → Build} (hf : ∀ b, (f b).buf = b.buf) :
      Tick jump s (s.withLane l ((s.lane l).modBuild f))
  | notices {s : State} {l : LaneId} {ns : List Notice}
      (hsub : (ns.map Notice.item).Sublist ((s.lane l).notices.map Notice.item)) :
      Tick jump s (s.withLane l { s.lane l with notices := ns })
  | unrepair {s : State} {l : LaneId} {k : Nat} : Tick jump s (s.putRepair l k none)
  | repair {s : State} {l : LaneId} {k : Nat} {e e' : Repair}
      (he : (s.lane l).repairs[k]? = some e) (hsame : SameRepair e e') :
      Tick jump s (s.putRepair l k (some e'))
  | announced {s : State} {l : LaneId} {f : FrameNo} {i : RxIdx} :
      Tick jump s (announcePlaced l f i s)

/-- A chain of elementary changes. -/
def Ticks (jump : Bool) : State → State → Prop := Relation.ReflTransGen (Tick jump)

theorem Ticks.refl {jump : Bool} {s : State} : Ticks jump s s := Relation.ReflTransGen.refl

theorem Ticks.trans {jump : Bool} {s t u : State} (h : Ticks jump s t) (h' : Ticks jump t u) :
    Ticks jump s u := Relation.ReflTransGen.trans h h'

theorem Tick.ticks {jump : Bool} {s t : State} (h : Tick jump s t) : Ticks jump s t :=
  Relation.ReflTransGen.single h

/-- What every elementary change keeps, a chain of them keeps. -/
theorem Ticks.keeps {jump : Bool} {I : State → Prop} (hI : ∀ s t, I s → Tick jump s t → I t)
    {s t : State} (h : Ticks jump s t) (hs : I s) : I t := by
  induction h with
  | refl => exact hs
  | tail _ hstep ih => exact hI _ _ ih hstep

theorem foldl_ticks {jump : Bool} {β : Type} {f : State → β → State}
    (hf : ∀ s b, Ticks jump s (f s b)) (xs : List β) (s : State) : Ticks jump s (xs.foldl f s) := by
  induction xs generalizing s with
  | nil => exact .refl
  | cons x xs ih => exact (hf s x).trans (ih _)

theorem forCues_ticks {jump : Bool} {f : Cue → State → State}
    (hf : ∀ s c, s.cueAt c.slot = some c → Ticks jump s (f c s)) (ks : List Nat) (s : State) :
    Ticks jump s (State.forCues f ks s) := by
  induction ks generalizing s with
  | nil => exact .refl
  | cons k ks ih =>
    refine Ticks.trans ?_ (ih _)
    split
    · next c hc =>
      have hslot : c.slot = k := by simpa using List.find?_some hc
      exact hf s c (hslot ▸ hc)
    · exact .refl

theorem times_ticks {jump : Bool} {f : State → State} (hf : ∀ s, Ticks jump s (f s)) (n : Nat)
    (s : State) : Ticks jump s (times n f s) := by
  induction n generalizing s with
  | zero => exact .refl
  | succ n ih => exact (hf s).trans (ih _)

/-! ### The cue in a slot -/

theorem slot_of_cueAt {s : State} {k : Nat} {c : Cue} (h : s.cueAt k = some c) : c.slot = k := by
  simpa using List.find?_some h

theorem cueAt_self {s : State} {k : Nat} {c : Cue} (h : s.cueAt k = some c) :
    s.cueAt c.slot = some c := by rwa [slot_of_cueAt h]

theorem cueAt_congr {s t : State} (h : t.table = s.table) (k : Nat) : t.cueAt k = s.cueAt k := by
  simp only [State.cueAt, h]

/-! ### The phase pass (R71 to R73) -/

/-- A cue further on in its airing is written back into its slot. -/
theorem putCue_ticks {jump : Bool} {s : State} {c : Cue} (c' : Cue) (hc : s.cueAt c.slot = some c)
    (hsame : SameCue c c') (hsent : jump = true ∨ (c.delivery = .sent → c'.delivery = .sent)) :
    Ticks jump s (s.putCue c') :=
  (Tick.cue hc hsame hsent).ticks

theorem latch_ticks {jump : Bool} (s : State) (c : Cond) (w : CondRec)
    (hc : c ∉ currentConds := by decide) : Ticks jump s (s.latch c w) :=
  (Tick.latched hc).ticks

theorem countAud_ticks {jump : Bool} (s : State) (a : Aud) (k : AudCounter) :
    Ticks jump s (s.countAud a k) := Tick.counted.ticks

theorem lateDrop_ticks {jump : Bool} (s : State) (a : Aud) : Ticks jump s (s.lateDrop a) :=
  (countAud_ticks s a _).trans (latch_ticks _ _ _)

theorem enterShowing_ticks {jump : Bool} {s : State} {c : Cue} (hc : s.cueAt c.slot = some c) :
    Ticks jump s (enterShowing s c) :=
  putCue_ticks _ hc ⟨rfl, rfl, rfl, rfl, rfl, rfl, rfl, rfl, rfl, id⟩ (.inr id)

theorem enterRetained_ticks {jump : Bool} {s : State} {c : Cue} (hc : s.cueAt c.slot = some c) :
    Ticks jump s (enterRetained s c) := by
  unfold enterRetained
  dsimp only
  split
  · split
    · refine ((putCue_ticks _ hc ?_ (.inr fun _ => rfl)).trans (countAud_ticks _ _ _)).trans
        (latch_ticks _ _ _)
      exact ⟨rfl, rfl, rfl, rfl, rfl, rfl, rfl, rfl, rfl, id⟩
    · refine (putCue_ticks _ hc ?_ (.inr fun _ => rfl)).trans (lateDrop_ticks _ _)
      exact ⟨rfl, rfl, rfl, rfl, rfl, rfl, rfl, rfl, rfl, id⟩
  · exact putCue_ticks _ hc ⟨rfl, rfl, rfl, rfl, rfl, rfl, rfl, rfl, rfl, id⟩ (.inr id)

theorem retireByPass_ticks {jump : Bool} {s : State} {c : Cue} (hc : s.cueAt c.slot = some c) :
    Ticks jump s (retireByPass s c) := by
  unfold retireByPass
  dsimp only
  split
  · refine (lateDrop_ticks s c.aud).trans (Tick.retire ?_).ticks
    have htable : (s.lateDrop c.aud).table = s.table := by simp
    rwa [cueAt_congr htable]
  · exact (Tick.retire hc).ticks

theorem passRow_ticks {jump : Bool} {slot : Nat} {applies : State → Cue → Bool}
    {act : State → Cue → State}
    (hact : ∀ s c, s.cueAt c.slot = some c → Ticks jump s (act s c)) (s : State) :
    Ticks jump s (passRow slot applies act s) := by
  unfold passRow
  split
  · next hc =>
    split
    · exact hact _ _ (cueAt_self hc)
    · exact .refl
  · exact .refl

theorem phasePass_ticks {jump : Bool} (p k : Nat) (s : State) :
    Ticks jump s (phasePass p k s) := by
  unfold phasePass
  dsimp only
  refine Ticks.trans ?_ (passRow_ticks (fun _ _ => retireByPass_ticks) _)
  refine Ticks.trans ?_ (passRow_ticks (fun _ _ => enterRetained_ticks) _)
  exact passRow_ticks (fun _ _ => enterShowing_ticks) _

theorem stoppedPass_ticks {jump : Bool} (l : LaneId) (air : SiteTime) (s : State) :
    Ticks jump s (stoppedPass l air s) := by
  refine foldl_ticks (fun s a => ?_) _ s
  split
  · split
    · exact foldl_ticks (fun s t => foldl_ticks (fun s k => phasePass_ticks _ k s) _ s) _ s
    · exact .refl
  · exact .refl

/-! ### The launch test and the placements (R76 to R82) -/

theorem launchTest_ticks {jump : Bool} {s : State} {c : Cue} (rate p : Nat)
    (hc : s.cueAt c.slot = some c) : Ticks jump s (launchTest rate p s c) := by
  unfold launchTest
  split
  swap
  · exact .refl
  next hdue =>
  have hwaiting : c.delivery ≠ .sent := by
    rw [isDue, Bool.and_eq_true, beq_iff_eq] at hdue
    rw [hdue.1]
    decide
  split
  · exact putCue_ticks _ hc ⟨rfl, rfl, rfl, rfl, rfl, rfl, rfl, rfl, rfl, id⟩ (.inr fun _ => rfl)
  split
  · refine (putCue_ticks _ hc ?_ (.inr fun _ => rfl)).trans (lateDrop_ticks _ _)
    exact ⟨rfl, rfl, rfl, rfl, rfl, rfl, rfl, rfl, rfl, id⟩
  split
  · exact .refl
  · exact putCue_ticks _ hc
      ⟨rfl, rfl, rfl, rfl, rfl, rfl, rfl, rfl, rfl, fun _ => Nat.zero_le _⟩
      (.inr fun h => absurd h hwaiting)

theorem walkCue_ticks {jump : Bool} (r : Reading) (p k : Nat) (s : State) :
    Ticks jump s (walkCue r p k s).1 := by
  unfold walkCue
  dsimp only
  split
  · exact phasePass_ticks p k s
  · next hc => exact (phasePass_ticks p k s).trans (launchTest_ticks _ _ (cueAt_self hc))

theorem judgeLate_ticks {jump : Bool} (p : Nat) (s : State) (c : Cue) :
    Ticks jump s (judgeLate p s c).1 := by
  unfold judgeLate
  split
  · exact Tick.counted.ticks.trans (Tick.latched (by decide)).ticks
  · exact .refl

theorem cueAt_judgeLate (p k : Nat) (s : State) (c : Cue) :
    (judgeLate p s c).1.cueAt k = s.cueAt k := by
  unfold judgeLate
  split <;> rfl

/-- Lateness touches one flag of the cue (R82). -/
theorem judgeLate_cue (p : Nat) (s : State) (c : Cue) :
    (judgeLate p s c).2 = { c with late := (judgeLate p s c).2.late } := by
  unfold judgeLate
  split <;> rfl

theorem completeAiring_ticks {jump : Bool} {s : State} {c c' : Cue} (hc : s.cueAt c.slot = some c)
    (hsame : SameCue c c') : Ticks jump s (completeAiring s c') :=
  (Tick.cue hc (c' := { c' with delivery := .sent, air := bumpAir c'.air, relaunch := false })
    ⟨hsame.slot, hsame.aud, hsame.track, hsame.num, hsame.inP, hsame.rev, hsame.declared,
      hsame.fill, hsame.blocks, hsame.off⟩ (.inr fun _ => rfl)).ticks.trans Tick.lastDone.ticks

theorem sameCue_captionPlaced {c : Cue} {late : Bool} :
    SameCue c (Cue.captionPlaced { c with late := late }) :=
  ⟨rfl, rfl, rfl, rfl, rfl, rfl, rfl, rfl, rfl, fun _ => Nat.min_le_right _ _⟩

theorem placeCaption_ticks {jump : Bool} {s : State} {c : Cue} (p : Nat)
    (hc : s.cueAt c.slot = some c) : Ticks jump s (placeCaption p s c).1 := by
  unfold placeCaption
  dsimp only
  refine (judgeLate_ticks p s c).trans ?_
  rw [judgeLate_cue]
  exact completeAiring_ticks ((cueAt_judgeLate ..).trans hc) sameCue_captionPlaced

theorem placeRepeat_ticks {jump : Bool} {s : State} {c : Cue} (hc : s.cueAt c.slot = some c) :
    Ticks jump s (placeRepeat s c).1 :=
  putCue_ticks _ hc ⟨rfl, rfl, rfl, rfl, rfl, rfl, rfl, rfl, rfl, fun _ => Nat.min_le_right _ _⟩
    (.inr id)

/-- The end of a segment's placement: the offset counts the bytes, and the airing may be complete. -/
theorem segmentPlaced_ticks {jump : Bool} {s : State} {c : Cue} {n : Nat} {late : Bool}
    (hc : s.cueAt c.slot = some c) (hn : c.off ≤ c.fill → c.off + n ≤ c.fill) :
    Ticks jump s (if c.off + n = c.declared
      then completeAiring s { c with late := late, off := c.off + n }
      else s.putCue { c with late := late, off := c.off + n }) := by
  have hsame : SameCue c { c with late := late, off := c.off + n } :=
    ⟨rfl, rfl, rfl, rfl, rfl, rfl, rfl, rfl, rfl, hn⟩
  split
  · exact completeAiring_ticks hc hsame
  · exact (Tick.cue hc hsame (.inr id)).ticks

theorem placeSegment_ticks {jump : Bool} {s : State} {c : Cue} (p n : Nat)
    (hc : s.cueAt c.slot = some c) (hn : c.off ≤ c.fill → c.off + n ≤ c.fill) :
    Ticks jump s (placeSegment p n s c).1 := by
  unfold placeSegment
  by_cases hoff : c.off = 0
  · rw [if_pos hoff]
    refine (judgeLate_ticks p s c).trans ?_
    have hc' : (judgeLate p s c).1.cueAt c.slot = some c := (cueAt_judgeLate ..).trans hc
    dsimp only
    rw [judgeLate_cue]
    exact segmentPlaced_ticks hc' hn
  · rw [if_neg hoff]
    exact segmentPlaced_ticks (late := c.late) hc hn

theorem fitClip_le {natural room n : Nat} (h : fitClip natural room = some n) : n ≤ natural := by
  unfold fitClip at h
  split at h
  · exact (Option.some.inj h).symm.le
  · split at h
    · have := Option.some.inj h
      omega
    · cases h

theorem placeOffer_ticks {jump : Bool} {s s' : State} {p x : Nat} {o : Offer} {c : Cue}
    {sec : Section} (hc : s.cueAt c.slot = some c) (h : placeOffer p x o c s = some (s', sec)) :
    Ticks jump s s' := by
  unfold placeOffer at h
  split at h
  swap
  · cases h
  split at h
  · split at h
    · have := placeCaption_ticks (jump := jump) p hc
      rwa [Option.some.inj h] at this
    · cases h
  · split at h
    · have := placeRepeat_ticks (jump := jump) hc
      rwa [Option.some.inj h] at this
    · cases h
  all_goals
    obtain ⟨n, hn, hplace⟩ := Option.map_eq_some_iff.1 h
    have hle : c.off ≤ c.fill → c.off + n ≤ c.fill := fun _ => by
      have := fitClip_le hn
      omega
    have := placeSegment_ticks (jump := jump) p n hc hle
    rwa [hplace] at this

/-! ### The units of a build (R101) -/

theorem modBuild_ticks {jump : Bool} (s : State) (l : LaneId) (f : Build → Build)
    (hf : ∀ b, (f b).buf = b.buf) : Ticks jump s (s.withLane l ((s.lane l).modBuild f)) :=
  (Tick.build hf).ticks

theorem toStage_ticks {jump : Bool} (s : State) (l : LaneId) (st : Stage) :
    Ticks jump s (s.toStage l st) :=
  modBuild_ticks s l _ fun _ => rfl

theorem addSection_ticks {jump : Bool} (s : State) (l : LaneId) (i : BufId) (x : Section) :
    Ticks jump s (s.addSection l i x) := Tick.placed.ticks

theorem stampOne_ticks {jump : Bool} (l : LaneId) (b : Build) (a : Aud) (left : List Aud)
    (s : State) : Ticks jump s (stampOne l b a left s) :=
  (addSection_ticks _ _ _ _).trans (modBuild_ticks _ _ _ fun _ => rfl)

theorem addSection_notices (s : State) (l k : LaneId) (i : BufId) (x : Section) :
    ((s.addSection l i x).lane k).notices = (s.lane k).notices := by
  unfold State.addSection
  dsimp only
  split
  · by_cases hk : k = l
    · subst hk
      cases i <;> simp [State.lane, State.withLane, Lane.withBuf]
    · simp [State.lane, State.withLane, hk]
  · rfl

theorem addSection_repairs (s : State) (l k : LaneId) (i : BufId) (x : Section) :
    ((s.addSection l i x).lane k).repairs = (s.lane k).repairs := by
  unfold State.addSection
  dsimp only
  split
  · by_cases hk : k = l
    · subst hk
      cases i <;> simp [State.lane, State.withLane, Lane.withBuf]
    · simp [State.lane, State.withLane, hk]
  · rfl

theorem notices_ticks {jump : Bool} (s : State) (l : LaneId) (ns : List Notice)
    (hsub : (ns.map Notice.item).Sublist ((s.lane l).notices.map Notice.item)) :
    Ticks jump s (s.withLane l { s.lane l with notices := ns }) :=
  (Tick.notices hsub).ticks

/-- Fewer airings left do not change what a list of notices says (R108). -/
theorem map_item_set {ns : List Notice} {k : Nat} {n : Notice} (hn : ns[k]? = some n) (left : Nat) :
    (ns.set k { n with left := left }).map Notice.item = ns.map Notice.item := by
  obtain ⟨hlt, rfl⟩ := List.getElem?_eq_some_iff.1 hn
  rw [List.map_set]
  have hitem : ns[k].item = (ns.map Notice.item)[k]'(by simpa using hlt) := by simp
  dsimp only
  rw [hitem, List.set_getElem_self]

theorem noticeOne_ticks {jump : Bool} {l : LaneId} {b : Build} {passed placed : Nat} {n : Notice}
    {s : State} (hn : (s.lane l).notices[passed]? = some n) :
    Ticks jump s (noticeOne l b passed placed n s) := by
  unfold noticeOne
  dsimp only
  refine (addSection_ticks s l b.buf (noticeSection n)).trans ?_
  split
  · refine (notices_ticks _ _ _ ?_).trans (toStage_ticks _ _ _)
    exact (List.eraseIdx_sublist ..).map _
  · refine (notices_ticks _ _ _ ?_).trans (toStage_ticks _ _ _)
    rw [addSection_notices, map_item_set hn]

theorem walkOne_ticks {jump : Bool} (l : LaneId) (b : Build) (work : List (Aud × Track))
    (slot : Nat) (slots : List Nat) (offers : List Offer) (s : State) :
    Ticks jump s (walkOne l b work slot slots offers s) := by
  unfold walkOne
  dsimp only
  refine (toStage_ticks s l (.walk work slots offers)).trans ?_
  split
  · exact .refl
  split
  · exact .refl
  split
  · exact .refl
  split
  · exact (walkCue_ticks _ _ _ _).trans (toStage_ticks _ _ _)
  · exact walkCue_ticks _ _ _ _

theorem offerOne_ticks {jump : Bool} (l : LaneId) (b : Build) (o : Offer) (os : List Offer)
    (x y : Nat) (s : State) : Ticks jump s (offerOne l b o os x y s) := by
  unfold offerOne
  dsimp only
  split
  · next hc _ =>
    split
    · next h =>
      exact ((placeOffer_ticks (cueAt_self hc) h).trans (addSection_ticks _ _ _ _)).trans
        (toStage_ticks _ _ _)
    · exact toStage_ticks _ _ _
  · exact toStage_ticks _ _ _

theorem unrepair_ticks {jump : Bool} (s : State) (l : LaneId) (k : Nat) :
    Ticks jump s (s.putRepair l k none) := Tick.unrepair.ticks

theorem putRepair_ticks {jump : Bool} {s : State} {l : LaneId} {k : Nat} {e : Repair}
    {e' : Option Repair} (he : (s.lane l).repairs[k]? = some e)
    (hsame : ∀ x, e' = some x → SameRepair e x) : Ticks jump s (s.putRepair l k e') := by
  cases e' with
  | none => exact Tick.unrepair.ticks
  | some x => exact (Tick.repair he (hsame x rfl)).ticks

theorem repairPlaced_ticks {jump : Bool} {l : LaneId} {b : Build} {passed room : Nat} {sec : Section}
    {a : Aud} {answered : Bool} {e : Repair} {e' : Option Repair} {s : State}
    (he : (s.lane l).repairs[passed]? = some e) (hsame : ∀ x, e' = some x → SameRepair e x) :
    Ticks jump s (repairPlaced l b passed room sec a answered e' s) := by
  unfold repairPlaced
  dsimp only
  have he' : ((s.addSection l b.buf sec).lane l).repairs[passed]? = some e := by
    rwa [addSection_repairs]
  refine (addSection_ticks s l b.buf sec).trans ?_
  split
  · exact ((countAud_ticks _ _ _).trans (putRepair_ticks he' hsame)).trans (toStage_ticks _ _ _)
  · exact (putRepair_ticks he' hsame).trans (toStage_ticks _ _ _)

theorem sameRepair_doneRepair {s : State} {e x : Repair} (h : doneRepair s e = some x) :
    SameRepair e x := by
  unfold doneRepair at h
  split at h
  · cases h
  · obtain rfl := Option.some.inj h
    exact ⟨rfl, rfl, rfl, rfl, rfl⟩

theorem sameRepair_servedClip {s : State} {e x : Repair} {c : Cue} {n : Nat}
    (h : servedClip s e c n = some x) : SameRepair e x := by
  unfold servedClip at h
  split at h
  · exact sameRepair_doneRepair h
  · obtain rfl := Option.some.inj h
    exact ⟨rfl, rfl, rfl, rfl, rfl⟩

theorem repairOne_ticks {jump : Bool} {l : LaneId} {b : Build} {passed room : Nat} {e : Repair}
    {s : State} (he : (s.lane l).repairs[passed]? = some e) :
    Ticks jump s (repairOne l b passed room e s) := by
  unfold repairOne
  dsimp only
  generalize (if b.jumped.contains e.aud = true then 0 else room) = room'
  split
  · split
    · exact (unrepair_ticks _ _ _).trans (toStage_ticks _ _ _)
    · refine (putRepair_ticks he fun x hx => ?_).trans (toStage_ticks _ _ _)
      obtain rfl := Option.some.inj hx
      exact ⟨rfl, rfl, rfl, rfl, rfl⟩
  · exact toStage_ticks _ _ _
  · exact ((countAud_ticks _ _ _).trans (unrepair_ticks _ _ _)).trans
      (toStage_ticks _ _ _)
  · split
    · exact repairPlaced_ticks he fun _ => sameRepair_doneRepair
    · exact toStage_ticks _ _ _
  · split
    · exact repairPlaced_ticks he fun _ => sameRepair_doneRepair
    · exact toStage_ticks _ _ _
  · split
    · exact repairPlaced_ticks he fun _ => sameRepair_servedClip
    · exact toStage_ticks _ _ _

theorem buildUnit_ticks {jump : Bool} (l : LaneId) (s : State) : Ticks jump s (buildUnit l s) := by
  unfold buildUnit
  split
  · exact .refl
  next b _ =>
  split
  · exact toStage_ticks _ _ _
  · exact stampOne_ticks _ _ _ _ _
  · split
    · next hn =>
      split
      · exact noticeOne_ticks hn
      · exact toStage_ticks _ _ _
    · exact toStage_ticks _ _ _
  · exact toStage_ticks _ _ _
  · split
    · exact toStage_ticks _ _ _
    split
    · exact toStage_ticks _ _ _
    · exact toStage_ticks _ _ _
  · exact toStage_ticks _ _ _
  · split
    · split
      · exact toStage_ticks _ _ _
      · exact toStage_ticks _ _ _
    · exact toStage_ticks _ _ _
  · exact ((addSection_ticks _ _ _ _).trans Tick.announced.ticks).trans (toStage_ticks _ _ _)
  · exact toStage_ticks _ _ _
  · exact toStage_ticks _ _ _
  · exact walkOne_ticks _ _ _ _ _ _ _
  · exact toStage_ticks _ _ _
  · exact toStage_ticks _ _ _
  · exact offerOne_ticks _ _ _ _ _ _ _
  · split
    · next he => exact repairOne_ticks he
    · exact toStage_ticks _ _ _
  · exact .refl

theorem finishBuild_ticks {jump : Bool} (l : LaneId) (s : State) :
    Ticks jump s (finishBuild l s) := by
  refine times_ticks (fun s => ?_) 8 s
  unfold finishStage
  split
  · exact times_ticks (fun s => buildUnit_ticks l s) _ s
  · exact .refl

/-! ### Jumps and re-waits (R68, R83, R84) -/

theorem jumpCue_ticks {s : State} {c : Cue} (p : Nat) (hc : s.cueAt c.slot = some c) :
    Ticks true s (jumpCue p c s) := by
  unfold jumpCue
  split
  · exact putCue_ticks _ hc
      ⟨rfl, rfl, rfl, rfl, rfl, rfl, rfl, rfl, rfl, fun _ => Nat.zero_le _⟩ (.inl rfl)
  split
  · exact (Tick.retire hc).ticks
  split
  · exact putCue_ticks _ hc ⟨rfl, rfl, rfl, rfl, rfl, rfl, rfl, rfl, rfl, id⟩ (.inl rfl)
  · exact putCue_ticks _ hc ⟨rfl, rfl, rfl, rfl, rfl, rfl, rfl, rfl, rfl, id⟩ (.inl rfl)

theorem jumpCues_ticks (a : Aud) (p : Nat) (s : State) : Ticks true s (jumpCues a p s) :=
  forCues_ticks (fun _ _ hc => jumpCue_ticks p hc) _ s

theorem reWait_ticks {jump : Bool} (a : Aud) (t : Track) (s : State) :
    Ticks jump s (reWait a t s) :=
  forCues_ticks (fun _ _ hc => (Tick.reWait hc).ticks) _ s

theorem tellIfRisen_ticks {jump : Bool} (a : Aud) (t : Track) (before : Nat) (s : State) :
    Ticks jump s (s.tellIfRisen a t before) := by
  unfold State.tellIfRisen
  split
  · exact reWait_ticks a t s
  · exact .refl

end Sys2Proof.Machine
end

section
/-! SUPPORT. The two longest commands in their cases: the boundary of a RUNNING lane (R97) and a report (R27). -/

namespace Sys2Proof.Machine

/-! ### The boundary of a RUNNING lane (R97) -/

theorem State.lane_withLane_self (s : State) (l : LaneId) (x : Lane) :
    (s.withLane l x).lane l = x := PerLane.put_get_self ..

theorem State.lane_withLane_of_ne (s : State) {l k : LaneId} (x : Lane) (h : k ≠ l) :
    (s.withLane l x).lane k = s.lane k := PerLane.put_get_of_ne _ _ h

theorem State.lane_withLane (s : State) (l k : LaneId) (x : Lane) :
    (s.withLane l x).lane k = if k = l then x else s.lane k := PerLane.put_get ..

theorem State.lane_congr {s t : State} (h : t.lanes = s.lanes) (l : LaneId) :
    t.lane l = s.lane l := by
  rw [State.lane, h, State.lane]

theorem State.withLane_withLane (s : State) (l : LaneId) (x y : Lane) :
    (s.withLane l x).withLane l y = s.withLane l y := by
  cases l <;> rfl

/-- A buffer is ON_AIR on a lane. -/
def Lane.airing (x : Lane) : Bool := (x.bufWhere Buffer.isOnAir).isSome

/-- Steps 1 and 2 of R97: the frame number rises, and the missed-completion count with a buffer ON_AIR. -/
def countBoundary (l : LaneId) (s : State) : State :=
  s.withLane l { s.lane l with
    frameNo := (s.lane l).frameNo + 1
    missed := if (s.lane l).airing then (s.lane l).missed + 1 else (s.lane l).missed }

/-- The boundary of a RUNNING lane in its two cases: the third miss in a row, and any other (R97). -/
theorem runningBoundary_eq (l : LaneId) (s : State) :
    runningBoundary l s =
      if (s.lane l).airing = true ∧ 3 ≤ (s.lane l).missed + 1 then
        stoppedPass l s.clock.time ((countBoundary l s).faultLane l)
      else (airAtBoundary l (countBoundary l s)).beginBuild l := by
  have hair (n : FrameNo) : ({ s.lane l with frameNo := n } : Lane).bufWhere Buffer.isOnAir
      = (s.lane l).bufWhere Buffer.isOnAir := rfl
  unfold runningBoundary countBoundary
  cases hlate : (s.lane l).airing with
  | false =>
    rw [Lane.airing] at hlate
    simp only [State.lane_withLane_self, hair, hlate, if_false, false_and, Bool.false_eq_true]
  | true =>
    rw [Lane.airing] at hlate
    simp only [State.lane_withLane_self, State.withLane_withLane, hair, hlate, if_true, true_and]
    rfl

/-- Steps 3 to 5 of R97 in their cases: the buffer that goes on the air, cut if it was BUILDING, or the skip. -/
theorem airAtBoundary_cases (l : LaneId) (s : State) :
    (∃ i, (s.lane l).bufWhere Buffer.isBuilding = some i
        ∧ ((s.lane l).airing = false ∧ airAtBoundary l s = airBuffer l i (cutBuild l i s)
          ∨ (s.lane l).airing = true
            ∧ airAtBoundary l s = (cutBuild l i s).countLane l .skipped))
      ∨ (s.lane l).bufWhere Buffer.isBuilding = none
        ∧ ((∃ i, (s.lane l).bufWhere Buffer.isReady = some i ∧ (s.lane l).airing = false
              ∧ airAtBoundary l s = airBuffer l i s)
          ∨ ((s.lane l).bufWhere Buffer.isReady = none ∨ (s.lane l).airing = true)
            ∧ airAtBoundary l s = s.countLane l .skipped) := by
  unfold airAtBoundary Lane.airing
  cases hb : (s.lane l).bufWhere Buffer.isBuilding with
  | some i =>
    refine .inl ⟨i, rfl, ?_⟩
    cases ha : (s.lane l).bufWhere Buffer.isOnAir with
    | none => exact .inl ⟨rfl, by simp only [hb, ha]⟩
    | some j => exact .inr ⟨rfl, by simp only [hb, ha]⟩
  | none =>
    refine .inr ⟨rfl, ?_⟩
    cases hr : (s.lane l).bufWhere Buffer.isReady with
    | none => exact .inr ⟨.inl rfl, by simp only [hb, hr]⟩
    | some i =>
      cases ha : (s.lane l).bufWhere Buffer.isOnAir with
      | none => exact .inl ⟨i, rfl, rfl, by simp only [hb, hr, ha]⟩
      | some j => exact .inr ⟨.inr rfl, by simp only [hb, hr, ha]⟩

/-! ### A report (R27 to R33) -/

/-- A report before the judging of its auditorium's conditions. -/
def reportActed (q : ReportReq) (s : State) : State :=
  strikeNoted q.aud (effectOf q s) (reportWritten q s)

theorem reportTaken_of_jump {q : ReportReq} {s : State} (h : (effectOf q s).outcome = .jump) :
    reportTaken q s = (jumpEffects q.aud q.pos (reportActed q s)).judgeTimelines q.aud := by
  simp only [reportTaken, reportActed, h, if_true]

theorem reportTaken_of_noJump {q : ReportReq} {s : State} (h : (effectOf q s).outcome ≠ .jump) :
    reportTaken q s = (reportActed q s).judgeTimelines q.aud := by
  simp only [reportTaken, reportActed, h, if_false]

end Sys2Proof.Machine
end

section
/-! PROOFS. Counters within 16 bits (R180). -/

namespace Sys2Proof.Machine

theorem bump_le {n : Nat} (h : n ≤ 65535) : bump n ≤ 65535 := by
  unfold bump
  split <;> omega

theorem State.audCount_countAud (s : State) (a b : Aud) (c d : AudCounter) :
    (s.countAud a c).audCount b d =
      if b = a ∧ audCounterIdx d = audCounterIdx c then bump (s.audCount a c)
      else s.audCount b d := by
  by_cases hb : b = a
  · subst hb
    simp [State.audCount, State.countAud, vput_get]
  · simp [State.audCount, State.countAud, hb]

theorem State.laneCount_countLane (s : State) (l k : LaneId) (c d : LaneCounter) :
    (s.countLane l c).laneCount k d =
      if k = l ∧ laneCounterIdx d = laneCounterIdx c then bump (s.laneCount l c)
      else s.laneCount k d := by
  by_cases hk : k = l
  · subst hk
    simp [State.laneCount, State.countLane, vput_get]
  · simp [State.laneCount, State.countLane, hk]

theorem countersOk_congr {s t : State} (ha : t.audCounters = s.audCounters)
    (hl : t.laneCounters = s.laneCounters) (hs : CountersOk s) : CountersOk t := by
  simpa only [CountersOk, State.audCount, State.laneCount, ha, hl] using hs

theorem countersOk_countAud {s : State} (hs : CountersOk s) (a : Aud) (c : AudCounter) :
    CountersOk (s.countAud a c) := by
  refine ⟨fun b d => ?_, hs.2⟩
  rw [State.audCount_countAud]
  split
  · exact bump_le (hs.1 a c)
  · exact hs.1 b d

theorem countersOk_countLane {s : State} (hs : CountersOk s) (l : LaneId) (c : LaneCounter) :
    CountersOk (s.countLane l c) := by
  refine ⟨hs.1, fun k d => ?_⟩
  rw [State.laneCount_countLane]
  split
  · exact bump_le (hs.2 l c)
  · exact hs.2 k d

theorem tick_countersOk {jump : Bool} {s t : State} (hs : CountersOk s) (h : Tick jump s t) :
    CountersOk t := by
  cases h with
  | counted => exact countersOk_countAud hs _ _
  | _ => exact countersOk_congr (by simp) (by simp) hs

theorem ticks_countersOk {jump : Bool} {s t : State} (hs : CountersOk s) (h : Ticks jump s t) :
    CountersOk t :=
  h.keeps (fun _ _ => tick_countersOk) hs

theorem countersOk_reportActed {s : State} (hs : CountersOk s) (q : ReportReq) :
    CountersOk (reportActed q s) := by
  have hwritten : CountersOk (reportWritten q s) := by
    unfold reportWritten
    dsimp only
    split
    · exact countersOk_countAud (s := s.withSync _ _) hs _ _
    · exact hs
  unfold reportActed strikeNoted
  dsimp only
  have hstruck : CountersOk (if (effectOf q s).struck then
      (reportWritten q s).countAud q.aud .strikes else reportWritten q s) := by
    split
    · exact countersOk_countAud hwritten _ _
    · exact hwritten
  split
  · exact hstruck
  · exact hstruck

theorem countersOk_jumpEffects {s : State} (hs : CountersOk s) (a : Aud) (p : Nat) :
    CountersOk (jumpEffects a p s) := by
  unfold jumpEffects
  dsimp only
  have hcounted : CountersOk ((s.latch .tlJump (.aud a)).countAud a .jumps) :=
    countersOk_countAud (s := s.latch .tlJump (.aud a)) hs a .jumps
  have hforgot : CountersOk (forgetInBuild a ((s.latch .tlJump (.aud a)).countAud a .jumps)) :=
    countersOk_congr (by simp) (by simp) hcounted
  have hjumped := ticks_countersOk hforgot (jumpCues_ticks a p _)
  exact countersOk_congr (by simp) (by simp) hjumped

theorem countersOk_reportTaken {s : State} (hs : CountersOk s) (q : ReportReq) :
    CountersOk (reportTaken q s) := by
  have hacted := countersOk_reportActed hs q
  by_cases hjump : (effectOf q s).outcome = .jump
  · rw [reportTaken_of_jump hjump]
    exact countersOk_congr (by simp) (by simp) (countersOk_jumpEffects hacted q.aud q.pos)
  · rw [reportTaken_of_noJump hjump]
    exact countersOk_congr (by simp) (by simp) hacted

theorem countersOk_airAtBoundary {s : State} (hs : CountersOk s) (l : LaneId) :
    CountersOk (airAtBoundary l s) := by
  have hcut (i : BufId) : CountersOk (cutBuild l i s) := countersOk_countLane
    (countersOk_congr (s := s) rfl rfl hs) l .cut
  obtain ⟨i, -, ⟨-, h⟩ | ⟨-, h⟩⟩ | ⟨-, ⟨i, -, -, h⟩ | ⟨-, h⟩⟩ := airAtBoundary_cases l s <;> rw [h]
  · exact countersOk_congr (by simp) (by simp) (hcut i)
  · exact countersOk_countLane (hcut i) _ _
  · exact countersOk_congr (by simp) (by simp) hs
  · exact countersOk_countLane hs _ _

theorem countersOk_runningBoundary {s : State} (hs : CountersOk s) (l : LaneId) :
    CountersOk (runningBoundary l s) := by
  have hcounted : CountersOk (countBoundary l s) := hs
  rw [runningBoundary_eq]
  split
  · exact ticks_countersOk (jump := false) (countersOk_congr (by simp) (by simp) hcounted)
      (stoppedPass_ticks _ _ _)
  · exact countersOk_congr (by simp) (by simp) (countersOk_airAtBoundary hcounted l)

theorem countersOk_statusCleared {s : State} (hs : CountersOk s) (mask : Nat) (zero : Bool) :
    CountersOk (statusCleared mask zero s) := by
  unfold statusCleared
  split
  · refine ⟨fun a c => ?_, fun l c => ?_⟩
    · simp [State.audCount, State.zeroCounters]
    · cases l <;> simp [State.laneCount, State.zeroCounters]
  · exact countersOk_congr (by simp) (by simp) hs

theorem countersOk_takeCheckin {s : State} (hs : CountersOk s) (l : LaneId) (m : CheckinMsg) :
    CountersOk (takeCheckin l m s) := by
  have hstray : CountersOk (strayCheckin l m s) :=
    countersOk_countLane (countersOk_congr (by simp) (by simp) hs) l .strays
  unfold takeCheckin
  split
  · split
    · exact countersOk_congr (by simp) (by simp) hs
    · exact hstray
  · exact hstray

theorem countersOk_takeAsk {s : State} (hs : CountersOk s) (l : LaneId) (a : Aud) (t : Track)
    (n : Nat) (f : FrameNo) : CountersOk (takeAsk l a t n f s) := by
  have hlatched : CountersOk (s.latch .repairDropped (.lane l)) := hs
  unfold takeAsk
  dsimp only
  split
  · split
    · exact countersOk_countLane hs _ _
    · exact hs
  split
  · split
    · split
      · exact countersOk_countLane hlatched _ _
      · exact hs
    · exact countersOk_countLane hs _ _
  · split
    · exact countersOk_countLane hlatched _ _
    · exact hs

theorem acts_countersOk {c : Instr} {s u : State} (hs : CountersOk s) (h : Acts c s u) :
    CountersOk u := by
  cases h with
  | timelineReport => exact countersOk_reportTaken hs _
  | statusClear => exact countersOk_statusCleared hs _ _
  | restart => exact countersOk_congr rfl rfl countersOk_reset
  | leaveReset => exact countersOk_congr rfl rfl countersOk_reset
  | runningBoundary => exact countersOk_runningBoundary (s := boundaryTaken _ s) hs _
  | unservedBoundary =>
    exact ticks_countersOk (jump := false) (s := boundaryTaken _ s) hs (stoppedPass_ticks ..)
  | @buildComplete l =>
    have hfinished := ticks_countersOk (jump := false) hs (finishBuild_ticks l s)
    exact countersOk_congr (by simp) (by simp) hfinished
  | @sent l _ i =>
    have hcounted := countersOk_countLane
      (s := s.withLane l { (s.lane l).withBuf i .empty with missed := 0 }) hs l .sent
    exact countersOk_congr (by simp) (by simp) hcounted
  | uplinkPurge => exact countersOk_countLane hs _ _
  | checkin => exact countersOk_takeCheckin hs _ _
  | askTaken => exact countersOk_takeAsk hs _ _ _ _ _
  | askIgnored => exact countersOk_countLane hs _ _
  | buildProgress => exact ticks_countersOk (jump := false) hs (buildUnit_ticks ..)
  | _ => exact countersOk_congr (by simp) (by simp) hs

/-- Settles O10. -/
theorem countersStaySixteenBits : Obligations.CountersStaySixteenBits := by
  intro s t hs h
  refine step_keeps (I := CountersOk) (fun _ _ hs => hs) (fun c s t hs h => ?_) hs h
  exact exec_keeps (I := CountersOk) (fun _ _ hs => hs) (fun _ _ _ _ _ hs => hs) (fun _ hs => hs)
    (fun _ _ => acts_countersOk) hs h

end Sys2Proof.Machine
end

section
/-! SUPPORT. The freeing of a cue and the re-placing of a record, cut into their parts. -/

namespace Sys2Proof.Machine

/-- A freed cue leaves the table, its lineup and the cue count, and its blocks become free (R12, R48, R50). -/
def outOfTable (c : Cue) (s : State) : State :=
  let s := s.dropFromLineup c
  State.modCueCount
    { s with
      table := { s.table with
        cues := s.table.cues.filter fun x => x.slot != c.slot
        free := s.table.free ++ c.blocks } } c.aud (· - 1)

/-- The build of a cue's lane forgets its slot (R69). -/
def forgetInLane (c : Cue) (s : State) : State :=
  match s.laneOf? c.aud with
  | some l => s.withLane l ((s.lane l).modBuild (Build.forgetSlot c.slot))
  | none => s

/-- A cue is freed: out of the table, out of its lane's build, POOL_LOW judged (R12, R45, R50, R51). -/
theorem State.freeCue_eq (s : State) (c : Cue) :
    s.freeCue c = (forgetInLane c (outOfTable c s)).judgePool (.aud c.aud) := rfl

theorem outOfTable_table (s : State) (c : Cue) :
    (outOfTable c s).table =
      { s.table with
        cues := s.table.cues.filter fun x => x.slot != c.slot
        free := s.table.free ++ c.blocks } := by
  simp [outOfTable]

theorem outOfTable_lanes (s : State) (c : Cue) : (outOfTable c s).lanes = s.lanes := by
  simp [outOfTable]

@[simp] theorem forgetInLane_frame (s : State) (c : Cue) :
    (forgetInLane c s).directory = s.directory ∧ (forgetInLane c s).table = s.table ∧
    (forgetInLane c s).timelines = s.timelines ∧ (forgetInLane c s).settings = s.settings ∧
    (forgetInLane c s).status = s.status := by
  unfold forgetInLane
  split <;> simp

theorem State.freeCue_table (s : State) (c : Cue) :
    (s.freeCue c).table =
      { s.table with
        cues := s.table.cues.filter fun x => x.slot != c.slot
        free := s.table.free ++ c.blocks } := by
  simp [State.freeCue_eq, outOfTable_table]

theorem State.freeCue_directory (s : State) (c : Cue) :
    (s.freeCue c).directory = (outOfTable c s).directory := by
  simp [State.freeCue_eq]

/-- A record bound to an opened auditorium, MOVING when it was last heard on another lane (R8). -/
def reJoined (a : Aud) (l : LaneId) (s : State) (r : RxRec) : RxRec :=
  if movesAtOpen l r then
    { r with state := .moving, movedFrom := some a,
             joinDl := some (after s.clock.time (s.setting .joinWindow)) }
  else r

/-- A record joins the tail of a lane's rotation unless it is there (R8). -/
def placeAtOpen (l : LaneId) (r : RxRec) (s : State) : State :=
  if s.inRotation l r.index then s else s.rotAppend l r.index

/-- The re-placing of one record in its parts (R8). -/
theorem rePlaceOne_eq (a : Aud) (l : LaneId) (s : State) (r : RxRec) :
    rePlaceOne a l s r =
      let r' := reJoined a l s r
      if r'.state = .lost then s.putRx r'
      else
        let u := placeAtOpen l r' (s.putRx r')
        if r'.state = .moving ∧ (r'.movedFrom.map fun m => u.openOn m l.other).getD false = true
        then u
        else u.rotRemove l.other r'.index := rfl

end Sys2Proof.Machine
end

section
/-! SUPPORT. The shape of a lane: its state, what kind each buffer is, its missed-completion count and the buffer
its build fills. Nearly everything that happens leaves it alone. -/

namespace Sys2Proof.Machine

/-- Two buffers of one kind (R96). -/
structure SameKind (b c : Buffer) : Prop where
  onAir : c.isOnAir = b.isOnAir
  building : c.isBuilding = b.isBuilding
  ready : c.isReady = b.isReady

/-- Two lanes that differ at most in their lists, frames, frame number and build stage. -/
structure SameShape (x y : Lane) : Prop where
  state : y.state = x.state
  missed : y.missed = x.missed
  buf0 : SameKind x.buf0 y.buf0
  buf1 : SameKind x.buf1 y.buf1
  build : y.build.map Build.buf = x.build.map Build.buf

theorem SameKind.refl (b : Buffer) : SameKind b b := ⟨rfl, rfl, rfl⟩

theorem SameKind.trans {b c d : Buffer} (h : SameKind b c) (h' : SameKind c d) : SameKind b d :=
  ⟨h'.onAir.trans h.onAir, h'.building.trans h.building, h'.ready.trans h.ready⟩

theorem SameShape.trans {x y z : Lane} (h : SameShape x y) (h' : SameShape y z) : SameShape x z :=
  ⟨h'.state.trans h.state, h'.missed.trans h.missed, h.buf0.trans h'.buf0, h.buf1.trans h'.buf1,
    h'.build.trans h.build⟩

/-- A lane whose buffers, state, count and build are untouched has the same shape. -/
theorem SameShape.of_eq {x y : Lane} (hstate : y.state = x.state) (hmissed : y.missed = x.missed)
    (h0 : y.buf0 = x.buf0) (h1 : y.buf1 = x.buf1)
    (hbuild : y.build.map Build.buf = x.build.map Build.buf) : SameShape x y :=
  ⟨hstate, hmissed, h0 ▸ .refl _, h1 ▸ .refl _, hbuild⟩

theorem SameShape.refl (x : Lane) : SameShape x x := .of_eq rfl rfl rfl rfl rfl

theorem sameShape_modBuild (x : Lane) {f : Build → Build} (hf : ∀ b, (f b).buf = b.buf) :
    SameShape x (x.modBuild f) := by
  refine .of_eq rfl rfl rfl rfl ?_
  simp [Lane.modBuild, Function.comp_def, hf]

theorem dropRepairs_buf (repairs : List Repair) (p : Repair → Bool) (b : Build) :
    (b.dropRepairs repairs p).buf = b.buf := by
  unfold Build.dropRepairs
  split <;> rfl

theorem dropNotices_buf (notices : List Notice) (p : Notice → Bool) (b : Build) :
    (b.dropNotices notices p).buf = b.buf := by
  unfold Build.dropNotices
  split <;> rfl

theorem forgetSlot_buf (slot : Nat) (b : Build) : (b.forgetSlot slot).buf = b.buf := by
  unfold Build.forgetSlot
  split <;> rfl

theorem forgetAud_buf (f : Nat → Option Aud) (a : Aud) (b : Build) :
    (b.forgetAud f a).buf = b.buf := by
  unfold Build.forgetAud
  dsimp only
  split <;> rfl

theorem closeAud_buf (f : Nat → Option Aud) (a : Aud) (b : Build) :
    (b.closeAud f a).buf = b.buf := by
  unfold Build.closeAud
  dsimp only
  split <;> exact forgetAud_buf f a b

theorem sameShape_removeRepairs (x : Lane) (p : Repair → Bool) :
    SameShape x (x.removeRepairs p) :=
  (sameShape_modBuild x (dropRepairs_buf x.repairs p)).trans (.of_eq rfl rfl rfl rfl rfl)

theorem sameShape_removeNotices (x : Lane) (p : Notice → Bool) :
    SameShape x (x.removeNotices p) :=
  (sameShape_modBuild x (dropNotices_buf x.notices p)).trans (.of_eq rfl rfl rfl rfl rfl)

/-! ### Both lanes -/

/-- Both lanes keep their shape. -/
def SameShapes (s t : State) : Prop := ∀ l, SameShape (s.lane l) (t.lane l)

theorem SameShapes.refl (s : State) : SameShapes s s := fun _ => .refl _

theorem SameShapes.trans {s t u : State} (h : SameShapes s t) (h' : SameShapes t u) :
    SameShapes s u := fun l => (h l).trans (h' l)

theorem SameShapes.of_lanes {s t : State} (h : t.lanes = s.lanes) : SameShapes s t :=
  fun l => State.lane_congr h l ▸ .refl _

theorem sameShapes_withLane {s : State} {l : LaneId} {x : Lane} (h : SameShape (s.lane l) x) :
    SameShapes s (s.withLane l x) := by
  intro k
  rw [State.lane_withLane]
  split
  · next hk => rwa [hk]
  · exact .refl _

theorem foldl_sameShapes {β : Type} {f : State → β → State} (hf : ∀ s b, SameShapes s (f s b))
    (xs : List β) (s : State) : SameShapes s (xs.foldl f s) := by
  induction xs generalizing s with
  | nil => exact .refl _
  | cons x xs ih => exact (hf s x).trans (ih _)

theorem forCues_sameShapes {f : Cue → State → State} (hf : ∀ c s, SameShapes s (f c s))
    (ks : List Nat) (s : State) : SameShapes s (State.forCues f ks s) := by
  induction ks generalizing s with
  | nil => exact .refl _
  | cons k ks ih =>
    refine SameShapes.trans ?_ (ih _)
    split
    · exact hf _ s
    · exact .refl s

/-! ### The operations on lists, cues and records -/

theorem addNotice_sameShapes (s : State) (l : LaneId) (i : NoticeItem) :
    SameShapes s (s.addNotice l i).1 := by
  unfold State.addNotice
  dsimp only
  split
  · exact sameShapes_withLane (.of_eq rfl rfl rfl rfl rfl)
  split
  · exact .of_lanes rfl
  · exact sameShapes_withLane (.of_eq rfl rfl rfl rfl rfl)

theorem removeRepairsOf_sameShapes (s : State) (a : Aud) (t : Track) (n : Nat) :
    SameShapes s (s.removeRepairsOf a t n) := by
  unfold State.removeRepairsOf
  split
  · exact sameShapes_withLane (sameShape_removeRepairs _ _)
  · exact .refl s

theorem turnRepairsGone_sameShapes (s : State) (a : Aud) (t : Track) (n : Nat) :
    SameShapes s (s.turnRepairsGone a t n) := by
  unfold State.turnRepairsGone
  split
  · exact sameShapes_withLane (.of_eq rfl rfl rfl rfl rfl)
  · exact .refl s

theorem forgetInLane_sameShapes (s : State) (c : Cue) : SameShapes s (forgetInLane c s) := by
  unfold forgetInLane
  split
  · exact sameShapes_withLane (sameShape_modBuild _ (forgetSlot_buf c.slot))
  · exact .refl s

theorem freeCue_sameShapes (s : State) (c : Cue) : SameShapes s (s.freeCue c) := by
  rw [State.freeCue_eq]
  exact ((SameShapes.of_lanes (outOfTable_lanes s c)).trans
    (forgetInLane_sameShapes (outOfTable c s) c)).trans (.of_lanes (by simp))

theorem retire_sameShapes (s : State) (c : Cue) : SameShapes s (s.retire c) :=
  (freeCue_sameShapes s c).trans (turnRepairsGone_sameShapes _ _ _ _)

theorem reWaitCue_sameShapes (s : State) (c : Cue) : SameShapes s (reWaitCue c s) := by
  unfold reWaitCue
  dsimp only
  split
  · split
    · exact SameShapes.trans (SameShapes.of_lanes rfl)
        (sameShapes_withLane (s := s.putCue _) (sameShape_removeRepairs _ _))
    · exact .of_lanes rfl
  · exact .refl s

theorem addSection_sameShapes (s : State) (l : LaneId) (i : BufId) (x : Section) :
    SameShapes s (s.addSection l i x) := by
  unfold State.addSection
  dsimp only
  split
  · next f hf =>
    refine sameShapes_withLane ?_
    cases i
    · have hbuf : (s.lane l).buf0 = .building f := hf
      exact ⟨rfl, rfl, by rw [hbuf]; exact ⟨rfl, rfl, rfl⟩, .refl _, rfl⟩
    · have hbuf : (s.lane l).buf1 = .building f := hf
      exact ⟨rfl, rfl, .refl _, by rw [hbuf]; exact ⟨rfl, rfl, rfl⟩, rfl⟩
  · exact .refl s

theorem putRepair_sameShapes (s : State) (l : LaneId) (k : Nat) (e : Option Repair) :
    SameShapes s (s.putRepair l k e) := by
  unfold State.putRepair
  dsimp only
  split <;> exact sameShapes_withLane (.of_eq rfl rfl rfl rfl rfl)

theorem rotAppend_sameShapes (s : State) (l : LaneId) (i : RxIdx) :
    SameShapes s (s.rotAppend l i) := sameShapes_withLane (.of_eq rfl rfl rfl rfl rfl)

theorem rotRemove_sameShapes (s : State) (l : LaneId) (i : RxIdx) :
    SameShapes s (s.rotRemove l i) := sameShapes_withLane (.of_eq rfl rfl rfl rfl rfl)

theorem announcePlaced_sameShapes (s : State) (l : LaneId) (f : FrameNo) (i : RxIdx) :
    SameShapes s (announcePlaced l f i s) := by
  unfold announcePlaced
  dsimp only
  split
  · split
    · exact (rotAppend_sameShapes s l i).trans (.of_lanes rfl)
    · exact rotAppend_sameShapes s l i
  · exact .refl s

theorem tick_sameShapes {jump : Bool} {s t : State} (h : Tick jump s t) : SameShapes s t := by
  cases h with
  | retire => exact retire_sameShapes _ _
  | reWait => exact reWaitCue_sameShapes _ _
  | placed => exact addSection_sameShapes _ _ _ _
  | build hf => exact sameShapes_withLane (sameShape_modBuild _ hf)
  | notices => exact sameShapes_withLane (.of_eq rfl rfl rfl rfl rfl)
  | unrepair => exact putRepair_sameShapes _ _ _ _
  | repair => exact putRepair_sameShapes _ _ _ _
  | announced => exact announcePlaced_sameShapes _ _ _ _
  | _ => exact .of_lanes (by simp)

theorem Ticks.sameShapes {jump : Bool} {s t : State} (h : Ticks jump s t) : SameShapes s t :=
  h.keeps (I := SameShapes s) (fun _ _ hs ht => hs.trans (tick_sameShapes ht)) (.refl s)

/-! ### The requests and the uplink -/

theorem placeAtOpen_sameShapes (s : State) (l : LaneId) (r : RxRec) :
    SameShapes s (placeAtOpen l r s) := by
  unfold placeAtOpen
  split
  · exact .refl s
  · exact rotAppend_sameShapes _ _ _

theorem rePlace_sameShapes (s : State) (a : Aud) (l : LaneId) :
    SameShapes s (rePlace a l s) := by
  refine foldl_sameShapes (fun s r => ?_) _ s
  rw [rePlaceOne_eq]
  dsimp only
  have hput : SameShapes s (s.putRx (reJoined a l s r)) := .of_lanes rfl
  split
  · exact hput
  · have hplaced := hput.trans (placeAtOpen_sameShapes _ l (reJoined a l s r))
    split
    · exact hplaced
    · exact hplaced.trans (rotRemove_sameShapes _ _ _)

theorem openShow_sameShapes (s : State) (q : ShowOpenReq) : SameShapes s (openShow q s) :=
  (SameShapes.of_lanes (by simp)).trans
    (rePlace_sameShapes (recountTracks q.aud (recountFlags q.aud (beginRun q s))) _ _)

theorem clearTraffic_sameShapes (s : State) (a : Aud) (l : LaneId) :
    SameShapes s (clearTraffic a l s) :=
  sameShapes_withLane (((sameShape_modBuild _ (closeAud_buf _ a)).trans
    (sameShape_removeRepairs _ _)).trans (sameShape_removeNotices _ _))

theorem closeShow_sameShapes (s : State) (a : Aud) (l : LaneId) :
    SameShapes s (closeShow a l s) := by
  have hempty : SameShapes s (emptyShow a l s) :=
    (clearTraffic_sameShapes s a l).trans
      (forCues_sameShapes (fun c s => freeCue_sameShapes s c) _ _)
  exact hempty.trans (.of_lanes (by simp [closeShow]))

theorem forgetInBuild_sameShapes (s : State) (a : Aud) : SameShapes s (forgetInBuild a s) := by
  unfold forgetInBuild
  split
  · refine sameShapes_withLane (sameShape_modBuild _ fun b => ?_)
    split
    · exact forgetAud_buf _ a b
    · rfl
  · exact .refl s

theorem purgeRepairs_sameShapes (s : State) (a : Aud) : SameShapes s (purgeRepairs a s) := by
  unfold purgeRepairs
  split
  · exact sameShapes_withLane (sameShape_removeRepairs _ _)
  · exact .refl s

theorem jumpEffects_sameShapes (s : State) (a : Aud) (p : Nat) :
    SameShapes s (jumpEffects a p s) := by
  unfold jumpEffects
  dsimp only
  exact ((SameShapes.of_lanes (by simp)).trans (forgetInBuild_sameShapes _ a)).trans
    ((jumpCues_ticks a p _).sameShapes.trans (purgeRepairs_sameShapes _ a))

theorem reportTaken_sameShapes (s : State) (q : ReportReq) : SameShapes s (reportTaken q s) := by
  have hacted : SameShapes s (reportActed q s) := .of_lanes (by simp [reportActed])
  by_cases hjump : (effectOf q s).outcome = .jump
  · rw [reportTaken_of_jump hjump]
    exact (hacted.trans (jumpEffects_sameShapes _ q.aud q.pos)).trans (.of_lanes (by simp))
  · rw [reportTaken_of_noJump hjump]
    exact hacted.trans (.of_lanes (by simp))

theorem doPost_sameShapes (s : State) (q : CuePostReq) (slot : Nat) :
    SameShapes s (doPost q slot s).1 := by
  unfold doPost
  dsimp only
  exact SameShapes.trans (SameShapes.of_lanes (by simp)) (removeRepairsOf_sameShapes _ _ _ _)

theorem doRevise_sameShapes (s : State) (x : CueBody) (c : Cue) :
    SameShapes s (doRevise x c s).1 := by
  unfold doRevise
  dsimp only
  refine SameShapes.trans (SameShapes.of_lanes ?_) (removeRepairsOf_sameShapes _ _ _ _)
  split <;> simp

theorem withdrawCue_sameShapes (s : State) (c : Cue) : SameShapes s (withdrawCue c s) := by
  have hnotice : SameShapes s (withdrawNotice c s).1 := by
    unfold withdrawNotice
    split
    · split
      · exact addNotice_sameShapes _ _ _
      · exact .refl s
    · exact .refl s
  exact (hnotice.trans (turnRepairsGone_sameShapes _ _ _ _)).trans (freeCue_sameShapes _ c)

theorem doIssue_sameShapes (s : State) (r : RxRec) : SameShapes s (doIssue r s) := by
  unfold doIssue
  dsimp only
  refine SameShapes.trans ?_ (tellIfRisen_ticks (jump := false) _ _ _ _).sameShapes
  split
  · exact SameShapes.trans (SameShapes.of_lanes (by simp)) (rotAppend_sameShapes _ _ _)
  · exact .of_lanes (by simp)

theorem placeInRotation_sameShapes (s : State) (l : LaneId) (i : RxIdx) :
    SameShapes s (placeInRotation l i s) := by
  unfold placeInRotation
  dsimp only
  split
  · exact (rotAppend_sameShapes s l i).trans (.of_lanes rfl)
  · exact rotAppend_sameShapes s l i

theorem moveRotations_sameShapes (s : State) (q : RxMoveReq) (i : RxIdx) (a : Aud) :
    SameShapes s (moveRotations q i a s) := by
  unfold moveRotations
  dsimp only
  have hremoved := (rotRemove_sameShapes s .A i).trans (rotRemove_sameShapes _ .B i)
  split
  · split
    · exact (hremoved.trans (placeInRotation_sameShapes _ _ _)).trans
        (placeInRotation_sameShapes _ _ _)
    · exact hremoved.trans (placeInRotation_sameShapes _ _ _)
  · exact hremoved

theorem doMove_sameShapes (s : State) (q : RxMoveReq) (r : RxRec) :
    SameShapes s (doMove q r s) := by
  unfold doMove
  dsimp only
  exact ((SameShapes.of_lanes (by simp)).trans (moveRotations_sameShapes _ _ _ _)).trans
    (tellIfRisen_ticks (jump := false) _ _ _ _).sameShapes

theorem releaseNotice_sameShapes (s : State) (w : Bool) (r : RxRec) (l : LaneId) :
    SameShapes s (releaseNotice w r l s).1 := by
  unfold releaseNotice
  split
  · exact addNotice_sameShapes _ _ _
  · exact .refl s

theorem returnRx_sameShapes (s : State) (r : RxRec) : SameShapes s (returnRx r s) := by
  have hleft : SameShapes s (leaveRoster r s) :=
    (SameShapes.of_lanes (by simp)).trans
      ((rotRemove_sameShapes (s.unCount r) .A r.index).trans (rotRemove_sameShapes _ .B r.index))
  exact (hleft.trans (releaseNotice_sameShapes _ _ r .A)).trans
    ((releaseNotice_sameShapes _ _ r .B).trans (.of_lanes rfl))

theorem enterLost_sameShapes (s : State) (r : RxRec) (why : LossReason) :
    SameShapes s (enterLost r why s) := by
  intro l
  rw [lane_enterLost]
  exact .of_eq rfl rfl rfl rfl rfl

theorem rejoin_sameShapes (s : State) (l : LaneId) (r : RxRec) : SameShapes s (rejoin l r s) := by
  have hplaced := rotAppend_sameShapes s (laneOrArrival s r l) r.index
  unfold rejoin
  dsimp only
  split
  · exact (hplaced.trans (.of_lanes (by simp))).trans
      (tellIfRisen_ticks (jump := false) _ _ _ _).sameShapes
  · exact hplaced

theorem takeCheckin_sameShapes (s : State) (l : LaneId) (m : CheckinMsg) :
    SameShapes s (takeCheckin l m s) := by
  have hstray : SameShapes s (strayCheckin l m s) := by
    unfold strayCheckin
    exact (addNotice_sameShapes s l _).trans (.of_lanes rfl)
  unfold takeCheckin
  split
  · split
    · unfold heardCheckin
      dsimp only
      split
      any_goals exact .of_lanes rfl
      · exact (SameShapes.of_lanes rfl).trans (rejoin_sameShapes (s.putRx _) _ _)
      · split
        · exact (SameShapes.of_lanes rfl).trans (rotRemove_sameShapes (s.putRx _) _ _)
        · exact .of_lanes rfl
    · exact hstray
  · exact hstray

theorem takeAsk_sameShapes (s : State) (l : LaneId) (a : Aud) (t : Track) (n : Nat)
    (f : FrameNo) : SameShapes s (takeAsk l a t n f s) := by
  unfold takeAsk
  dsimp only
  repeat' split
  any_goals exact .of_lanes rfl
  all_goals exact sameShapes_withLane (.of_eq rfl rfl rfl rfl rfl)

end Sys2Proof.Machine
end

section
/-! PROOFS. The frame buffers of both lanes (R90, R91, R96, R97). -/

namespace Sys2Proof.Machine

theorem Lane.ok_congr {x y : Lane} (h : SameShape x y) (hx : x.ok) : y.ok := by
  obtain ⟨hstate, hmissed, ⟨h0a, h0b, h0r⟩, ⟨h1a, h1b, h1r⟩, hbuild⟩ := h
  obtain ⟨hair, hunaired, hb, hrunning, hle, hlt⟩ := hx
  refine ⟨?_, ?_, ?_, ?_, ?_, ?_⟩
  · rwa [h0a, h1a]
  · simpa only [Buffer.isUnaired, h0b, h0r, h1b, h1r] using hunaired
  · cases hy : y.build with
    | none =>
      rw [hy, Option.map_none, eq_comm, Option.map_eq_none_iff] at hbuild
      rw [hbuild] at hb
      exact ⟨h0b.trans hb.1, h1b.trans hb.2⟩
    | some b =>
      rw [hy, Option.map_some, eq_comm, Option.map_eq_some_iff] at hbuild
      obtain ⟨b', hx', hbuf⟩ := hbuild
      rw [hx'] at hb
      dsimp only at hb ⊢
      rw [← hbuf]
      cases hi : b'.buf
      · rw [hi] at hb
        exact h0b.trans hb
      · rw [hi] at hb
        exact h1b.trans hb
  · simpa only [hstate, Buffer.isUnaired, h0b, h0r, h1b, h1r] using hrunning
  · rwa [hmissed]
  · rwa [hmissed, hstate]

theorem lanesOk_of_shapes {s t : State} (h : SameShapes s t) (hs : LanesOk s) : LanesOk t :=
  fun l => Lane.ok_congr (h l) (hs l)

theorem lanesOk_withLane {s : State} {l : LaneId} {x : Lane} (hs : LanesOk s) (hx : x.ok) :
    LanesOk (s.withLane l x) := by
  intro k
  rw [State.lane_withLane]
  split
  · exact hx
  · exact hs k

/-- A buffer that one of the lane's two is, by what it satisfies. -/
theorem Lane.buf_of_bufWhere {x : Lane} {p : Buffer → Bool} {i : BufId}
    (h : x.bufWhere p = some i) : p (x.buf i) = true := by
  unfold Lane.bufWhere at h
  split at h
  · next h0 => obtain rfl := Option.some.inj h; exact h0
  split at h
  · next h1 => obtain rfl := Option.some.inj h; exact h1
  · cases h

theorem Lane.not_of_bufWhere_none {x : Lane} {p : Buffer → Bool} (h : x.bufWhere p = none) :
    p x.buf0 = false ∧ p x.buf1 = false := by
  unfold Lane.bufWhere at h
  split at h
  · cases h
  split at h
  · cases h
  · exact ⟨Bool.eq_false_iff.2 ‹_›, Bool.eq_false_iff.2 ‹_›⟩

/-! ### The beginning, the end and the abandoning of a build -/

/-- A build begun in an EMPTY buffer of a RUNNING lane that builds nothing. -/
theorem Lane.ok_begin {x : Lane} {i : BufId} {f : Frame} {b : Build} (hx : x.ok)
    (hrun : x.state = .running)
    (hnone : x.bufWhere (fun b => b.isBuilding || b.isReady) = none)
    (hempty : (x.buf i).isEmpty = true) (hbuf : b.buf = i) :
    ({ x.withBuf i (.building f) with build := some b } : Lane).ok := by
  obtain ⟨hn0, hn1⟩ := Lane.not_of_bufWhere_none hnone
  obtain ⟨hair, -, -, -, hle, hlt⟩ := hx
  subst hbuf
  cases hb : b.buf <;> rw [hb] at hempty
  · cases h0 : x.buf0 <;> simp only [Lane.buf, h0, Buffer.isEmpty, Bool.false_eq_true] at hempty
    refine ⟨by simp [Lane.withBuf, Buffer.isOnAir], ?_, ?_, fun h => absurd hrun h, hle, hlt⟩
    · simpa [Lane.withBuf, Buffer.isUnaired] using fun _ => hn1
    · simp [hb, Lane.withBuf, Lane.buf, Buffer.isBuilding]
  · cases h1 : x.buf1 <;> simp only [Lane.buf, h1, Buffer.isEmpty, Bool.false_eq_true] at hempty
    refine ⟨by simp [Lane.withBuf, Buffer.isOnAir], ?_, ?_, fun h => absurd hrun h, hle, hlt⟩
    · simp [Lane.withBuf, Buffer.isUnaired, hn0]
    · simp [hb, Lane.withBuf, Lane.buf, Buffer.isBuilding]

theorem lanesOk_beginBuild {s : State} (hs : LanesOk s) (l : LaneId) :
    LanesOk (s.beginBuild l) := by
  unfold State.beginBuild
  dsimp only
  split
  · next hcond =>
    split
    · next i hi =>
      exact lanesOk_withLane hs
        (Lane.ok_begin (hs l) hcond.1 hcond.2 (Lane.buf_of_bufWhere hi) rfl)
    · exact hs
  · exact hs

theorem Buffer.dropUnaired_isUnaired (b : Buffer) : b.dropUnaired.isUnaired = false := by
  cases b <;> rfl

theorem Buffer.dropUnaired_isBuilding (b : Buffer) : b.dropUnaired.isBuilding = false := by
  cases b <;> rfl

theorem Buffer.dropUnaired_isOnAir (b : Buffer) : b.dropUnaired.isOnAir = b.isOnAir := by
  cases b <;> rfl

/-- A lane that has abandoned its build is in order in any state, its count within bounds. -/
theorem Lane.ok_abandon {x y : Lane} (hair : ¬(x.buf0.isOnAir = true ∧ x.buf1.isOnAir = true))
    (hbuild : y.build = none) (h0 : y.buf0 = x.buf0.dropUnaired) (h1 : y.buf1 = x.buf1.dropUnaired)
    (hle : y.missed ≤ 3) (hlt : y.state = .running → y.missed < 3) : y.ok := by
  refine ⟨?_, ?_, ?_, fun _ => ?_, hle, hlt⟩
  · rwa [h0, h1, Buffer.dropUnaired_isOnAir, Buffer.dropUnaired_isOnAir]
  · simp [h0, Buffer.dropUnaired_isUnaired]
  · rw [hbuild, h0, h1]
    exact ⟨Buffer.dropUnaired_isBuilding _, Buffer.dropUnaired_isBuilding _⟩
  · rw [h0, h1]
    exact ⟨Buffer.dropUnaired_isUnaired _, Buffer.dropUnaired_isUnaired _⟩

/-- What the lanes are after a FAULT, of which the lane itself only needs a bounded count. -/
theorem lanesOk_faultLane {s : State} {l : LaneId} (hother : ∀ k, k ≠ l → (s.lane k).ok)
    (hair : ¬((s.lane l).buf0.isOnAir = true ∧ (s.lane l).buf1.isOnAir = true))
    (hmissed : (s.lane l).missed ≤ 3) : LanesOk (s.faultLane l) := by
  refine lanesOk_of_shapes (s := s.withLane l { (s.lane l).abandon with state := .fault })
    (.of_lanes (by simp [State.faultLane])) fun k => ?_
  rw [State.lane_withLane]
  split
  · exact Lane.ok_abandon hair rfl rfl rfl hmissed nofun
  · exact hother k ‹_›

/-- A BUILDING buffer becomes READY, cut or complete, and the build is over. -/
theorem Lane.ok_endBuild {x : Lane} {i : BufId} {f g : Frame} (hx : x.ok)
    (hbuf : x.buf i = .building f) :
    ({ x.withBuf i (.ready g) with build := none } : Lane).ok := by
  obtain ⟨hair, hunaired, hb, hrunning, hle, hlt⟩ := hx
  cases i <;> simp only [Lane.buf] at hbuf <;> rw [hbuf] at hair hunaired hrunning
  · have h1 : x.buf1.isUnaired = false := by
      simpa [Buffer.isUnaired, Buffer.isBuilding] using hunaired
    refine ⟨by simp [Lane.withBuf, Buffer.isOnAir], ?_, ?_, fun h => ?_, hle, hlt⟩
    · simp [Lane.withBuf, h1]
    · simpa [Lane.withBuf, Buffer.isBuilding, Buffer.isUnaired] using (Bool.or_eq_false_iff.1 h1).1
    · exact absurd (hrunning h).1 (by simp [Buffer.isUnaired, Buffer.isBuilding])
  · have h0 : x.buf0.isUnaired = false := by
      simpa [Buffer.isUnaired, Buffer.isBuilding] using hunaired
    refine ⟨by simp [Lane.withBuf, Buffer.isOnAir], ?_, ?_, fun h => ?_, hle, hlt⟩
    · simp [Lane.withBuf, h0]
    · simpa [Lane.withBuf, Buffer.isBuilding, Buffer.isUnaired] using (Bool.or_eq_false_iff.1 h0).1
    · exact absurd (hrunning h).2 (by simp [Buffer.isUnaired, Buffer.isBuilding])

theorem lanesOk_completeBuild {s : State} (hs : LanesOk s) (l : LaneId) :
    LanesOk (completeBuild l s) := by
  unfold completeBuild
  dsimp only
  split
  · split
    · next hbuf => exact lanesOk_withLane hs (Lane.ok_endBuild (hs l) hbuf)
    · exact hs
  · exact hs

theorem Buffer.eq_building {b : Buffer} (h : b.isBuilding = true) : ∃ f, b = .building f := by
  cases b <;> first | exact ⟨_, rfl⟩ | cases h

theorem Buffer.eq_onAir {b : Buffer} (h : b.isOnAir = true) : ∃ f, b = .onAir f := by
  cases b <;> first | exact ⟨_, rfl⟩ | cases h

/-- The lane after a cut: the BUILDING buffer is READY, its frame marked cut, and the build is over (R97). -/
theorem cutBuild_lane {s : State} {l : LaneId} {i : BufId} {f : Frame}
    (hbuf : (s.lane l).buf i = .building f) :
    (cutBuild l i s).lanes = (s.withLane l
      { (s.lane l).withBuf i (.ready { f with cut := true }) with build := none }).lanes := by
  simp [cutBuild, hbuf]

theorem lanesOk_cutBuild {s : State} (hs : LanesOk s) {l : LaneId} {i : BufId}
    (hi : (s.lane l).bufWhere Buffer.isBuilding = some i) : LanesOk (cutBuild l i s) := by
  obtain ⟨f, hbuf⟩ := Buffer.eq_building (Lane.buf_of_bufWhere hi)
  exact lanesOk_of_shapes (.of_lanes (cutBuild_lane hbuf))
    (lanesOk_withLane hs (Lane.ok_endBuild (hs l) hbuf))

/-- A READY buffer goes on the air when none is there. -/
theorem Lane.ok_putOnAir {x : Lane} {i : BufId} {f g : Frame} (hx : x.ok)
    (hbuf : x.buf i = .ready f) (hair : x.airing = false) : (x.putOnAir i g).ok := by
  rw [Lane.airing, Option.isSome_eq_false_iff, Option.isNone_iff_eq_none] at hair
  obtain ⟨hair0, hair1⟩ := Lane.not_of_bufWhere_none hair
  obtain ⟨-, hunaired, hb, hrunning, hle, hlt⟩ := hx
  have hnone : x.buf0.isBuilding = false ∧ x.buf1.isBuilding = false → x.build = none := by
    intro h
    cases hbuild : x.build with
    | none => rfl
    | some b =>
      rw [hbuild] at hb
      cases hbb : b.buf <;> simp [hbb, Lane.buf, h] at hb
  cases i <;> simp only [Lane.buf] at hbuf <;> rw [hbuf] at hunaired
  · have h1 : x.buf1.isUnaired = false := by
      simpa [Buffer.isUnaired, Buffer.isReady] using hunaired
    have hb1 := (Bool.or_eq_false_iff.1 h1).1
    have hbuild := hnone ⟨by rw [hbuf]; rfl, hb1⟩
    refine ⟨?_, ?_, ?_, fun h => ?_, hle, hlt⟩
    · simp [Lane.putOnAir, Lane.withBuf, hair1]
    · simp [Lane.putOnAir, Lane.withBuf, h1]
    · simpa [Lane.putOnAir, Lane.withBuf, hbuild, Buffer.isBuilding] using hb1
    · exact ⟨rfl, h1⟩
  · have h0 : x.buf0.isUnaired = false := by
      simpa [Buffer.isUnaired, Buffer.isReady] using hunaired
    have hb0 := (Bool.or_eq_false_iff.1 h0).1
    have hbuild := hnone ⟨hb0, by rw [hbuf]; rfl⟩
    refine ⟨?_, ?_, ?_, fun h => ?_, hle, hlt⟩
    · simp [Lane.putOnAir, Lane.withBuf, hair0]
    · simp [Lane.putOnAir, Lane.withBuf, h0]
    · simpa [Lane.putOnAir, Lane.withBuf, hbuild, Buffer.isBuilding] using hb0
    · exact ⟨h0, rfl⟩

theorem lanesOk_airBuffer {s : State} (hs : LanesOk s) {l : LaneId} {i : BufId}
    (hair : (s.lane l).airing = false) : LanesOk (airBuffer l i s) := by
  unfold airBuffer
  split
  · next hbuf => exact lanesOk_withLane hs (Lane.ok_putOnAir (hs l) hbuf hair)
  · exact hs

theorem Lane.airing_eq (x : Lane) : x.airing = (x.buf0.isOnAir || x.buf1.isOnAir) := by
  unfold Lane.airing Lane.bufWhere
  cases x.buf0.isOnAir <;> cases x.buf1.isOnAir <;> rfl

/-- A cut puts nothing on the air and takes nothing off it. -/
theorem airing_cutBuild {s : State} {l : LaneId} {i : BufId} {f : Frame}
    (hbuf : (s.lane l).buf i = .building f) :
    ((cutBuild l i s).lane l).airing = (s.lane l).airing := by
  rw [State.lane_congr (cutBuild_lane hbuf), State.lane_withLane_self]
  cases i <;> simp only [Lane.buf] at hbuf <;>
    simp [Lane.airing_eq, Lane.withBuf, hbuf, Buffer.isOnAir]

theorem lanesOk_airAtBoundary {s : State} (hs : LanesOk s) (l : LaneId) :
    LanesOk (airAtBoundary l s) := by
  obtain ⟨i, hi, ⟨hair, h⟩ | ⟨-, h⟩⟩ | ⟨-, ⟨i, -, hair, h⟩ | ⟨-, h⟩⟩ := airAtBoundary_cases l s <;>
    rw [h]
  · obtain ⟨f, hbuf⟩ := Buffer.eq_building (Lane.buf_of_bufWhere hi)
    exact lanesOk_airBuffer (lanesOk_cutBuild hs hi) ((airing_cutBuild hbuf).trans hair)
  · exact lanesOk_of_shapes (.of_lanes (by simp)) (lanesOk_cutBuild hs hi)
  · exact lanesOk_airBuffer hs hair
  · exact lanesOk_of_shapes (.of_lanes (by simp)) hs

theorem lanesOk_runningBoundary {s : State} (hs : LanesOk s) {l : LaneId}
    (hrun : (s.lane l).state = .running) : LanesOk (runningBoundary l s) := by
  obtain ⟨hair, hunaired, hb, hrunning, hle, hlt⟩ := hs l
  rw [runningBoundary_eq]
  split
  · refine lanesOk_of_shapes (stoppedPass_ticks (jump := false) _ _ _).sameShapes ?_
    refine lanesOk_faultLane (fun k hk => ?_) ?_ ?_ <;> unfold countBoundary
    · rw [State.lane_withLane_of_ne _ _ hk]
      exact hs k
    · rwa [State.lane_withLane_self]
    · rw [State.lane_withLane_self]
      have := hlt hrun
      dsimp only
      split <;> omega
  · next hmiss =>
    refine lanesOk_beginBuild (lanesOk_airAtBoundary (lanesOk_withLane hs ?_) l) l
    have hcount : (if (s.lane l).airing = true then (s.lane l).missed + 1 else (s.lane l).missed)
        < 3 := by
      split
      · next ha =>
        by_contra hge
        exact hmiss ⟨ha, by omega⟩
      · exact hlt hrun
    exact ⟨hair, hunaired, hb, hrunning, hcount.le, fun _ => hcount⟩

theorem lanesOk_startLane {s : State} (hs : LanesOk s) (l : LaneId) : LanesOk (startLane l s) := by
  have hstarted (x : Lane) (hx : x.ok) : LanesOk (clearMarks l (s.withLane l x)) :=
    lanesOk_withLane hs hx
  refine lanesOk_beginBuild (hstarted _ ?_) l
  exact ⟨nofun, nofun, ⟨rfl, rfl⟩, fun h => absurd rfl h, Nat.zero_le _, fun _ => Nat.zero_lt_succ _⟩

theorem lanesOk_stopLane {s : State} (hs : LanesOk s) (l : LaneId) : LanesOk (stopLane l s) := by
  have hstopped : LanesOk (s.withLane l
      { (s.lane l).abandon with state := .stopped, missed := 0, notices := [], repairs := [] }) :=
    lanesOk_withLane hs (Lane.ok_abandon (hs l).1 rfl rfl rfl (Nat.zero_le _) nofun)
  exact lanesOk_of_shapes (.of_lanes (by simp [stopLane])) hstopped

/-- The ON_AIR buffer is emptied and the count cleared (R98). -/
theorem Lane.ok_sent {x : Lane} {i : BufId} (hx : x.ok)
    (hair : x.bufWhere Buffer.isOnAir = some i) :
    ({ x.withBuf i .empty with missed := 0 } : Lane).ok := by
  obtain ⟨f, hbuf⟩ := Buffer.eq_onAir (Lane.buf_of_bufWhere hair)
  obtain ⟨-, -, hb, hrunning, -, -⟩ := hx
  have hbuild : ∀ b, x.build = some b → b.buf ≠ i := by
    rintro b hsome rfl
    rw [hsome] at hb
    dsimp only at hb
    rw [hbuf] at hb
    cases hb
  cases i <;> simp only [Lane.buf] at hbuf <;> rw [hbuf] at hrunning
  · refine ⟨by simp [Lane.withBuf, Buffer.isOnAir],
      by simp [Lane.withBuf, Buffer.isUnaired, Buffer.isBuilding, Buffer.isReady], ?_,
      fun h => ⟨rfl, (hrunning h).2⟩, Nat.zero_le _, fun _ => Nat.zero_lt_succ _⟩
    cases hsome : x.build with
    | none => rw [hsome] at hb; simpa [Lane.withBuf, hsome, Buffer.isBuilding] using hb.2
    | some b =>
      rw [hsome] at hb
      cases hbb : b.buf
      · exact absurd hbb (hbuild b hsome)
      · simpa [Lane.withBuf, Lane.buf, hsome, hbb] using hb
  · refine ⟨by simp [Lane.withBuf, Buffer.isOnAir],
      by simp [Lane.withBuf, Buffer.isUnaired, Buffer.isBuilding, Buffer.isReady], ?_,
      fun h => ⟨(hrunning h).1, rfl⟩, Nat.zero_le _, fun _ => Nat.zero_lt_succ _⟩
    cases hsome : x.build with
    | none => rw [hsome] at hb; simpa [Lane.withBuf, hsome, Buffer.isBuilding] using hb.1
    | some b =>
      rw [hsome] at hb
      cases hbb : b.buf
      · simpa [Lane.withBuf, Lane.buf, hsome, hbb] using hb
      · exact absurd hbb (hbuild b hsome)

theorem acts_lanesOk {c : Instr} {s u : State} (hs : LanesOk s) (h : Acts c s u) : LanesOk u := by
  cases h with
  | showOpen => exact lanesOk_of_shapes (openShow_sameShapes _ _) hs
  | showClose => exact lanesOk_of_shapes (closeShow_sameShapes _ _ _) hs
  | timelineReport => exact lanesOk_of_shapes (reportTaken_sameShapes _ _) hs
  | cuePost => exact lanesOk_of_shapes (doPost_sameShapes _ _ _) hs
  | cueRevise => exact lanesOk_of_shapes (doRevise_sameShapes _ _ _) hs
  | cueWithdraw => exact lanesOk_of_shapes (withdrawCue_sameShapes _ _) hs
  | rxIssue => exact lanesOk_of_shapes (doIssue_sameShapes _ _) hs
  | rxMove => exact lanesOk_of_shapes (doMove_sameShapes _ _ _) hs
  | rxReturn => exact lanesOk_of_shapes (returnRx_sameShapes _ _) hs
  | joinExpires => exact lanesOk_of_shapes (enterLost_sameShapes _ _ _) hs
  | lossExpires => exact lanesOk_of_shapes (enterLost_sameShapes _ _ _) hs
  | checkin => exact lanesOk_of_shapes (takeCheckin_sameShapes _ _ _) hs
  | askTaken => exact lanesOk_of_shapes (takeAsk_sameShapes _ _ _ _ _ _) hs
  | laneStart => exact lanesOk_startLane hs _
  | laneStop => exact lanesOk_stopLane hs _
  | restart => intro l; cases l <;> exact Lane.ok_reset _
  | leaveReset => intro l; cases l <;> exact Lane.ok_reset _
  | runningBoundary hrun => exact lanesOk_runningBoundary (s := boundaryTaken _ s) hs hrun
  | unservedBoundary =>
    exact lanesOk_of_shapes (s := boundaryTaken _ s)
      (stoppedPass_ticks (jump := false) _ _ _).sameShapes hs
  | @buildComplete l =>
    exact lanesOk_completeBuild
      (lanesOk_of_shapes (finishBuild_ticks (jump := false) l s).sameShapes hs) l
  | @sent l _ i hair =>
    have hsent := lanesOk_withLane (l := l) hs (Lane.ok_sent (hs l) hair)
    exact lanesOk_beginBuild (lanesOk_of_shapes (.of_lanes (by simp)) hsent) l
  | rfReleased => exact lanesOk_withLane hs (hs _)
  | @rfReleasedFault l _ hrun =>
    refine lanesOk_faultLane (fun k hk => ?_) ?_ ?_
    · rw [State.lane_withLane_of_ne _ _ hk]
      exact hs k
    · rw [State.lane_withLane_self]
      exact (hs l).1
    · rw [State.lane_withLane_self]
      obtain ⟨-, -, -, -, hle, -⟩ := hs l
      exact hle
  | rfAsserted => exact lanesOk_withLane hs (hs _)
  | buildProgress => exact lanesOk_of_shapes (buildUnit_ticks (jump := false) _ _).sameShapes hs
  | _ => exact lanesOk_of_shapes (.of_lanes (by simp)) hs

/-- Settles O7. -/
theorem laneBuffersStayExclusive : Obligations.LaneBuffersStayExclusive := by
  intro s t hs h
  refine step_keeps (I := LanesOk) (fun _ _ hs => hs) (fun c s t hs h => ?_) hs h
  exact exec_keeps (I := LanesOk) (fun _ _ hs => hs) (fun _ _ _ _ _ hs => hs) (fun _ hs => hs)
    (fun _ _ => acts_lanesOk) hs h

end Sys2Proof.Machine
end

section
/-! SUPPORT. What stays of the open shows: their lanes, and their tracks' kinds and listener counts. -/

namespace Sys2Proof.Machine

/-- What the Cue Table's doings leave of an open show: its lane, and each track's kind and listener count. -/
def Show.core (w : Show) : LaneId × List (CueKind × Nat) :=
  (w.lane, w.tracks.map fun r => (r.kind, r.listeners))

/-- The cores of all the shows stay. -/
def SameCores (s t : State) : Prop :=
  ∀ a, (t.theShow? a).map Show.core = (s.theShow? a).map Show.core

/-- Every auditorium stays CLOSED, or OPEN on its lane. -/
def SameOpens (s t : State) : Prop := ∀ a, t.laneOf? a = s.laneOf? a

theorem SameCores.refl (s : State) : SameCores s s := fun _ => rfl

theorem SameCores.trans {s t u : State} (h : SameCores s t) (h' : SameCores t u) :
    SameCores s u := fun a => (h' a).trans (h a)

theorem SameCores.of_directory {s t : State} (h : t.directory = s.directory) : SameCores s t :=
  fun a => by rw [State.theShow?_congr h]

theorem SameOpens.refl (s : State) : SameOpens s s := fun _ => rfl

theorem SameOpens.trans {s t u : State} (h : SameOpens s t) (h' : SameOpens t u) :
    SameOpens s u := fun a => (h' a).trans (h a)

theorem SameOpens.of_directory {s t : State} (h : t.directory = s.directory) : SameOpens s t :=
  fun a => by simp only [State.laneOf?, State.theShow?_congr h]

theorem State.laneOf?_eq_core (s : State) (a : Aud) :
    s.laneOf? a = ((s.theShow? a).map Show.core).map Prod.fst := by
  cases h : s.theShow? a <;> simp [State.laneOf?, h, Show.core]

theorem SameCores.opens {s t : State} (h : SameCores s t) : SameOpens s t := fun a => by
  rw [State.laneOf?_eq_core, h a, ← State.laneOf?_eq_core]

theorem State.track?_map_core (s : State) (a : Aud) (u : Track) :
    (s.track? a u).map (fun r => (r.kind, r.listeners))
      = ((s.theShow? a).map Show.core).bind fun k => k.2[u.val]? := by
  cases h : s.theShow? a <;> simp [State.track?, h, Show.core]

theorem SameCores.track {s t : State} (h : SameCores s t) (a : Aud) (u : Track) :
    (t.track? a u).map (fun r => (r.kind, r.listeners))
      = (s.track? a u).map fun r => (r.kind, r.listeners) := by
  rw [State.track?_map_core, h a, ← State.track?_map_core]

theorem State.isOpen_eq_laneOf? (s : State) (a : Aud) : s.isOpen a = (s.laneOf? a).isSome := by
  simp [State.isOpen, State.laneOf?]

theorem SameOpens.isOpen {s t : State} (h : SameOpens s t) (a : Aud) : t.isOpen a = s.isOpen a := by
  rw [State.isOpen_eq_laneOf?, h a, State.isOpen_eq_laneOf?]

theorem SameOpens.openOn {s t : State} (h : SameOpens s t) (a : Aud) (l : LaneId) :
    t.openOn a l = s.openOn a l := by
  rw [State.openOn, h a, State.openOn]

/-- A change of a track that leaves its kind and its count leaves the cores. -/
theorem modTrack_sameCores (s : State) (a : Aud) (t : Track) {f : TrackRec → TrackRec}
    (hf : ∀ r, (f r).kind = r.kind ∧ (f r).listeners = r.listeners) :
    SameCores s (s.modTrack a t f) := by
  intro b
  rw [State.theShow?_modTrack]
  split
  · next hb =>
    subst hb
    cases s.theShow? b with
    | none => rfl
    | some w =>
      have hcore : (w.tracks.modify t.val f).map (fun r => (r.kind, r.listeners))
          = w.tracks.map fun r => (r.kind, r.listeners) := by
        apply List.ext_getElem?
        intro i
        rw [List.getElem?_map, List.getElem?_map, List.getElem?_modify]
        cases w.tracks[i]? with
        | none => simp
        | some r =>
          by_cases hi : t.val = i <;> simp [hi, hf r]
      simp [Show.core, hcore]
  · rfl

theorem State.theShow?_modCueCount (s : State) (a b : Aud) (f : Nat → Nat) :
    (s.modCueCount a f).theShow? b =
      if b = a then (s.theShow? a).map fun w => { w with cueCount := f w.cueCount }
      else s.theShow? b := by
  unfold State.modCueCount
  cases hw : s.theShow? a with
  | none => by_cases hb : b = a <;> simp [hb, hw]
  | some w => simp [State.theShow?, vput_get]

theorem modCueCount_sameCores (s : State) (a : Aud) (f : Nat → Nat) :
    SameCores s (s.modCueCount a f) := by
  intro b
  rw [State.theShow?_modCueCount]
  split
  · next hb => subst hb; cases s.theShow? b <;> rfl
  · rfl

theorem modTrack_sameOpens (s : State) (a : Aud) (t : Track) (f : TrackRec → TrackRec) :
    SameOpens s (s.modTrack a t f) := fun b => s.laneOf?_modTrack a b t f

/-! ### Cues -/

theorem freeCue_sameCores (s : State) (c : Cue) : SameCores s (s.freeCue c) := by
  have hdrop : SameCores s (s.dropFromLineup c) := modTrack_sameCores _ _ _ fun _ => ⟨rfl, rfl⟩
  have hout : SameCores s (outOfTable c s) :=
    (hdrop.trans (.of_directory rfl)).trans (modCueCount_sameCores _ _ _)
  exact hout.trans (.of_directory (State.freeCue_directory s c))

theorem retire_sameCores (s : State) (c : Cue) : SameCores s (s.retire c) :=
  (freeCue_sameCores s c).trans (.of_directory (by simp [State.retire]))

theorem tick_sameCores {jump : Bool} {s t : State} (h : Tick jump s t) : SameCores s t := by
  cases h with
  | retire => exact retire_sameCores _ _
  | lastDone => exact modTrack_sameCores _ _ _ fun _ => ⟨rfl, rfl⟩
  | _ => exact .of_directory (by simp)

theorem Ticks.sameCores {jump : Bool} {s t : State} (h : Ticks jump s t) : SameCores s t :=
  h.keeps (I := SameCores s) (fun _ _ hs ht => hs.trans (tick_sameCores ht)) (.refl s)

/-- The table's part of a CUE_POST (R54). -/
def postTable (q : CuePostReq) (slot : Nat) (s : State) : State :=
  { s with table :=
      { cues := insertCue (postedCue q slot (postBlocks q s)) s.table.cues
        free := s.table.free.drop (blocksFor q.body.declared)
        payload := writePayload (postBlocks q s) 0 q.body.inline s.table.payload } }

/-- The posted cue stands in its lineup and is counted (R12, R48). -/
def postLineup (c : Cue) (s : State) : State := (s.addToLineup c).modCueCount c.aud (· + 1)

theorem doPost_eq (q : CuePostReq) (slot : Nat) (s : State) :
    doPost q slot s =
      let c := postedCue q slot (postBlocks q s)
      (((postLineup c (postTable q slot s)).judgePool (.aud c.aud)).removeRepairsOf c.aud c.track
        c.num, c) := rfl

theorem addToLineup_sameCores (s : State) (c : Cue) : SameCores s (s.addToLineup c) :=
  modTrack_sameCores _ _ _ fun _ => ⟨rfl, rfl⟩

theorem postLineup_sameCores (s : State) (c : Cue) : SameCores s (postLineup c s) :=
  (addToLineup_sameCores s c).trans (modCueCount_sameCores _ _ _)

theorem doPost_sameCores (s : State) (q : CuePostReq) (slot : Nat) :
    SameCores s (doPost q slot s).1 := by
  have hposted := postLineup_sameCores (postTable q slot s) (postedCue q slot (postBlocks q s))
  rw [doPost_eq]
  exact (SameCores.of_directory (s := s) rfl).trans (hposted.trans (.of_directory (by simp)))

/-- The table's part of a CUE_REVISE (R59, R60). -/
def reviseTable (x : CueBody) (c : Cue) (s : State) : State :=
  { s with table := { s.table with
      free := (s.table.free ++ c.blocks).drop (blocksFor x.declared)
      payload := writePayload (reviseBlocks x c s) 0 x.inline s.table.payload } }

/-- The record and its place in the lineup after a CUE_REVISE (R48, R60). -/
def reviseLineup (x : CueBody) (c c' : Cue) (s : State) : State :=
  if c.inP = x.inP then s.putCue c' else ((s.dropFromLineup c).putCue c').addToLineup c'

theorem doRevise_eq (x : CueBody) (c : Cue) (s : State) :
    doRevise x c s =
      let c' := revisedCue x (reviseBlocks x c s) c
      (((reviseLineup x c c' (reviseTable x c s)).judgePool (.aud c.aud)).removeRepairsOf c.aud
        c.track c.num, c') := rfl

theorem reviseLineup_sameCores (x : CueBody) (c c' : Cue) (s : State) :
    SameCores s (reviseLineup x c c' s) := by
  unfold reviseLineup
  split
  · exact .of_directory rfl
  · have hdrop : SameCores s (s.dropFromLineup c) := modTrack_sameCores _ _ _ fun _ => ⟨rfl, rfl⟩
    exact (hdrop.trans (.of_directory rfl)).trans
      (addToLineup_sameCores ((s.dropFromLineup c).putCue c') c')

theorem doRevise_sameCores (s : State) (x : CueBody) (c : Cue) :
    SameCores s (doRevise x c s).1 := by
  rw [doRevise_eq]
  dsimp only
  have hlineup := reviseLineup_sameCores x c (revisedCue x (reviseBlocks x c s) c)
    (reviseTable x c s)
  exact (SameCores.of_directory (s := s) rfl).trans (hlineup.trans (.of_directory (by simp)))

theorem withdrawCue_sameCores (s : State) (c : Cue) : SameCores s (withdrawCue c s) := by
  refine SameCores.trans (SameCores.of_directory ?_) (freeCue_sameCores _ c)
  simp

/-! ### Shows, reports and the roster -/

theorem jumpEffects_sameCores (s : State) (a : Aud) (p : Nat) :
    SameCores s (jumpEffects a p s) := by
  unfold jumpEffects
  dsimp only
  have hforgot : SameCores s (forgetInBuild a ((s.latch .tlJump (.aud a)).countAud a .jumps)) :=
    .of_directory (by simp)
  exact (hforgot.trans (jumpCues_ticks a p _).sameCores).trans (.of_directory (by simp))

theorem reportTaken_sameCores (s : State) (q : ReportReq) : SameCores s (reportTaken q s) := by
  have hacted : SameCores s (reportActed q s) := .of_directory (by simp [reportActed])
  by_cases hjump : (effectOf q s).outcome = .jump
  · rw [reportTaken_of_jump hjump]
    exact (hacted.trans (jumpEffects_sameCores _ q.aud q.pos)).trans (.of_directory (by simp))
  · rw [reportTaken_of_noJump hjump]
    exact hacted.trans (.of_directory (by simp))

theorem emptyShow_sameCores (s : State) (a : Aud) (l : LaneId) :
    SameCores s (emptyShow a l s) := by
  have hfree : ∀ ks u, SameCores u (State.forCues (fun c s => s.freeCue c) ks u) := by
    intro ks
    induction ks with
    | nil => exact fun u => .refl u
    | cons k ks ih =>
      intro u
      refine SameCores.trans ?_ (ih _)
      split
      · exact freeCue_sameCores _ _
      · exact .refl _
  exact (SameCores.of_directory (by simp)).trans (hfree _ (clearTraffic a l s))

theorem countUp_sameOpens (s : State) (a : Aud) (t : Track) : SameOpens s (s.countUp a t) :=
  modTrack_sameOpens _ _ _ _

theorem unCount_sameOpens (s : State) (r : RxRec) : SameOpens s (s.unCount r) := by
  unfold State.unCount
  split
  · exact modTrack_sameOpens _ _ _ _
  · exact .refl s

theorem tellIfRisen_sameCores (s : State) (a : Aud) (t : Track) (before : Nat) :
    SameCores s (s.tellIfRisen a t before) :=
  (tellIfRisen_ticks (jump := false) a t before s).sameCores

theorem doIssue_sameOpens (s : State) (r : RxRec) : SameOpens s (doIssue r s) := by
  unfold doIssue
  dsimp only
  refine SameOpens.trans ?_ (tellIfRisen_sameCores _ _ _ _).opens
  have hcount : SameOpens s
      (State.countUp { s with roster := insertRx r s.roster } r.aud r.track) :=
    SameOpens.trans (SameOpens.of_directory rfl) (countUp_sameOpens _ _ _)
  refine hcount.trans (SameOpens.of_directory ?_)
  split <;> simp

theorem doMove_sameOpens (s : State) (q : RxMoveReq) (r : RxRec) :
    SameOpens s (doMove q r s) := by
  unfold doMove
  dsimp only
  refine SameOpens.trans ?_ (tellIfRisen_sameCores _ _ _ _).opens
  have hput : SameOpens s ((s.unCount r).putRx (movedRec q r s)) :=
    (unCount_sameOpens s r).trans (.of_directory rfl)
  exact (hput.trans (countUp_sameOpens _ q.aud q.track)).trans (.of_directory (by simp))

theorem returnRx_sameOpens (s : State) (r : RxRec) : SameOpens s (returnRx r s) := by
  refine (unCount_sameOpens s r).trans (.of_directory ?_)
  simp [returnRx, leaveRoster]

theorem enterLost_sameOpens (s : State) (r : RxRec) (why : LossReason) :
    SameOpens s (enterLost r why s) :=
  (unCount_sameOpens s r).trans (.of_directory (enterLost_directory s r why))

theorem rejoin_sameOpens (s : State) (l : LaneId) (r : RxRec) : SameOpens s (rejoin l r s) := by
  unfold rejoin
  dsimp only
  split
  · refine SameOpens.trans (SameOpens.trans (SameOpens.of_directory ?_) (countUp_sameOpens _ _ _))
      (tellIfRisen_sameCores _ _ _ _).opens
    simp
  · exact .of_directory (by simp)

theorem takeCheckin_sameOpens (s : State) (l : LaneId) (m : CheckinMsg) :
    SameOpens s (takeCheckin l m s) := by
  unfold takeCheckin
  split
  · split
    · unfold heardCheckin
      dsimp only
      split
      any_goals exact .of_directory rfl
      · exact SameOpens.trans (SameOpens.of_directory rfl) (rejoin_sameOpens (s.putRx _) _ _)
      · split <;> exact .of_directory (by simp)
    · exact .of_directory (by simp)
  · exact .of_directory (by simp)

theorem recountTracks_sameOpens (s : State) (a : Aud) : SameOpens s (recountTracks a s) := by
  have hfold : ∀ (ts : List Track) (u : State) (g : State → Track → TrackRec → TrackRec),
      SameOpens u (ts.foldl (fun v t => v.modTrack a t (g v t)) u) := by
    intro ts
    induction ts with
    | nil => exact fun u _ => .refl u
    | cons t ts ih => exact fun u g => (modTrack_sameOpens _ _ _ _).trans (ih _ g)
  exact hfold _ _ _

/-- Which auditoriums are OPEN, and on which lanes, after each command's change but a SHOW_OPEN's, a
SHOW_CLOSE's and a reset's. -/
theorem acts_sameOpens {c : Instr} {s u : State} (hopen : c ≠ .showOpen) (hclose : c ≠ .showClose)
    (hleave : c ≠ .leaveReset) (hrestart : c ≠ .restart) (h : Acts c s u) : SameOpens s u := by
  cases h with
  | showOpen => exact absurd rfl hopen
  | showClose => exact absurd rfl hclose
  | leaveReset => exact absurd rfl hleave
  | restart => exact absurd rfl hrestart
  | showWindow => exact modTrack_sameOpens _ _ _ _
  | timelineReport => exact (reportTaken_sameCores _ _).opens
  | cuePost => exact (doPost_sameCores _ _ _).opens
  | cueRevise => exact (doRevise_sameCores _ _ _).opens
  | cueWithdraw => exact (withdrawCue_sameCores _ _).opens
  | rxIssue => exact doIssue_sameOpens _ _
  | rxMove => exact doMove_sameOpens _ _ _
  | rxReturn => exact returnRx_sameOpens _ _
  | joinExpires => exact enterLost_sameOpens _ _ _
  | lossExpires => exact enterLost_sameOpens _ _ _
  | checkin => exact takeCheckin_sameOpens _ _ _
  | @runningBoundary l _ =>
    have hstart : SameOpens s (countBoundary l (boundaryTaken l s)) := .of_directory rfl
    rw [runningBoundary_eq]
    split
    · exact hstart.trans (SameOpens.trans (SameOpens.of_directory (by simp))
        (stoppedPass_ticks (jump := false) l _ _).sameCores.opens)
    · exact hstart.trans (.of_directory (by simp))
  | @unservedBoundary l _ =>
    exact (SameOpens.of_directory (by simp)).trans
      (stoppedPass_ticks (jump := false) l _ (boundaryTaken l s)).sameCores.opens
  | @buildComplete l =>
    exact (finishBuild_ticks (jump := false) l s).sameCores.opens.trans (.of_directory (by simp))
  | buildProgress => exact (buildUnit_ticks (jump := false) _ _).sameCores.opens
  | _ => exact .of_directory (by simp)

end Sys2Proof.Machine
end

section
/-! PROOFS. What an open show, a lane in FAULT and a Timeline's epoch keep (R10, R23, R91). -/

namespace Sys2Proof.Machine

/-! ### The lane of an open show (R10) -/

/-- A SHOW_OPEN opens the auditorium on its lane and touches no other. -/
theorem openShow_laneOf? (s : State) (q : ShowOpenReq) (a : Aud) :
    (openShow q s).laneOf? a = if a = q.aud then some q.lane else s.laneOf? a := by
  have hrecount := recountTracks_sameOpens (recountFlags q.aud (beginRun q s)) q.aud
  have hplaced : SameOpens (recountFlags q.aud (beginRun q s)) (openShow q s) :=
    hrecount.trans (.of_directory (by simp [openShow]))
  rw [hplaced a]
  by_cases ha : a = q.aud
  · subst ha
    simp [State.laneOf?, State.theShow?, recountFlags, beginRun, State.withTimeline,
      State.withSync]
  · simp [State.laneOf?, State.theShow?, recountFlags, beginRun, State.withTimeline,
      State.withSync, ha]

/-- A SHOW_CLOSE closes the auditorium and touches no other. -/
theorem closeShow_laneOf? (s : State) (a b : Aud) (l : LaneId) :
    (closeShow a l s).laneOf? b = if b = a then none else s.laneOf? b := by
  have hempty := (emptyShow_sameCores s a l).opens
  have hshut : (closeShow a l s).directory = (shutShow a (emptyShow a l s)).directory := by
    simp [closeShow]
  rw [SameOpens.of_directory hshut b, ← hempty b]
  by_cases hb : b = a
  · subst hb
    simp [State.laneOf?, State.theShow?, shutShow, State.withTimeline, State.withSync]
  · simp [State.laneOf?, State.theShow?, shutShow, State.withTimeline, State.withSync, hb]

theorem acts_laneOf? {c : Instr} {s u : State} (hleave : c ≠ .leaveReset) (hrestart : c ≠ .restart)
    (h : Acts c s u) {a : Aud} {l : LaneId} (hl : s.laneOf? a = some l) :
    u.laneOf? a = some l ∨ (c = .showClose ∧ u.laneOf? a = none) := by
  by_cases hopen : c = .showOpen
  · subst hopen
    left
    cases h with
    | reads => exact hl
    | @showOpen q _ _ _ hclosed =>
      rw [openShow_laneOf?, if_neg, hl]
      rintro rfl
      rw [State.isOpen_eq_laneOf?, hl] at hclosed
      cases hclosed
  by_cases hclose : c = .showClose
  · subst hclose
    cases h with
    | reads => exact .inl hl
    | showClose =>
      rw [closeShow_laneOf?]
      split
      · exact .inr ⟨rfl, rfl⟩
      · exact .inl hl
  · exact .inl ((acts_sameOpens hopen hclose hleave hrestart h a).trans hl)

/-! ### A lane in FAULT (R91) -/

theorem beginBuild_of_notRunning {s : State} {l : LaneId} (h : (s.lane l).state ≠ .running) :
    s.beginBuild l = s := by
  unfold State.beginBuild
  exact if_neg fun hc => h hc.1

/-- The state of a lane is untouched by the beginning of a build. -/
theorem beginBuild_state (s : State) (l k : LaneId) :
    ((s.beginBuild l).lane k).state = (s.lane k).state := by
  unfold State.beginBuild
  dsimp only
  split
  · split
    · next i _ =>
      rw [State.lane_withLane]
      split
      · next hk => subst hk; cases i <;> rfl
      · rfl
    · rfl
  · rfl

theorem faultLane_state (s : State) (l k : LaneId) :
    ((s.faultLane l).lane k).state = if k = l then .fault else (s.lane k).state := by
  have hlanes : (s.faultLane l).lanes
      = (s.withLane l { (s.lane l).abandon with state := .fault }).lanes := by
    simp [State.faultLane]
  rw [State.lane_congr hlanes, State.lane_withLane]
  split <;> rfl

theorem stopLane_state (s : State) (l k : LaneId) :
    ((stopLane l s).lane k).state = if k = l then .stopped else (s.lane k).state := by
  have hlanes : (stopLane l s).lanes = (s.withLane l
      { (s.lane l).abandon with state := .stopped, missed := 0, notices := [], repairs := [] }).lanes := by
    simp [stopLane]
  rw [State.lane_congr hlanes, State.lane_withLane]
  split <;> rfl

theorem startLane_state (s : State) (l k : LaneId) :
    ((startLane l s).lane k).state = if k = l then .running else (s.lane k).state := by
  unfold startLane
  dsimp only
  rw [beginBuild_state, State.lane_congr (clearMarks_lanes _ _), State.lane_withLane]
  split <;> rfl

theorem cutBuild_state (s : State) (l k : LaneId) (i : BufId) :
    ((cutBuild l i s).lane k).state = (s.lane k).state := by
  unfold cutBuild
  dsimp only
  rw [State.lane_congr (State.countLane_lanes _ _ _), State.lane_congr (State.latch_lanes _ _ _),
    State.lane_withLane]
  split
  · next hk =>
    subst hk
    split
    · cases i <;> rfl
    · rfl
  · rfl

theorem airBuffer_state (s : State) (l k : LaneId) (i : BufId) :
    ((airBuffer l i s).lane k).state = (s.lane k).state := by
  unfold airBuffer
  split
  · rw [State.lane_withLane]
    split
    · next hk => subst hk; cases i <;> rfl
    · rfl
  · rfl

theorem airAtBoundary_state (s : State) (l k : LaneId) :
    ((airAtBoundary l s).lane k).state = (s.lane k).state := by
  obtain ⟨i, -, ⟨-, h⟩ | ⟨-, h⟩⟩ | ⟨-, ⟨i, -, -, h⟩ | ⟨-, h⟩⟩ := airAtBoundary_cases l s <;> rw [h]
  · rw [airBuffer_state, cutBuild_state]
  · rw [State.lane_congr (State.countLane_lanes _ _ _), cutBuild_state]
  · rw [airBuffer_state]
  · rw [State.lane_congr (State.countLane_lanes _ _ _)]

theorem runningBoundary_state (s : State) (l k : LaneId) :
    ((runningBoundary l s).lane k).state = .fault ∧ k = l
      ∨ ((runningBoundary l s).lane k).state = (s.lane k).state := by
  have hcount (k : LaneId) : ((countBoundary l s).lane k).state = (s.lane k).state := by
    unfold countBoundary
    rw [State.lane_withLane]
    split
    · next hk => subst hk; rfl
    · rfl
  rw [runningBoundary_eq]
  split
  · rw [((stoppedPass_ticks (jump := false) l _ _).sameShapes k).state, faultLane_state]
    split
    · next hk => exact .inl ⟨rfl, hk⟩
    · exact .inr (hcount k)
  · rw [beginBuild_state, airAtBoundary_state, hcount]
    exact .inr rfl

theorem completeBuild_state (s : State) (l k : LaneId) :
    ((completeBuild l s).lane k).state = (s.lane k).state := by
  unfold completeBuild
  dsimp only
  split
  · next b _ =>
    split
    · rw [State.lane_withLane]
      split
      · next hk => subst hk; cases b.buf <;> rfl
      · rfl
    · rfl
  · rfl

/-- The state of a lane after each command's change: only a start, a stop, a fault and a reset move it. -/
theorem acts_laneState {c : Instr} {s u : State} (hleave : c ≠ .leaveReset)
    (hrestart : c ≠ .restart) (h : Acts c s u) (l : LaneId) :
    (u.lane l).state = (s.lane l).state
      ∨ ((c = .laneBoundary l ∨ c = .rfReadyRelease l) ∧ (u.lane l).state = .fault)
      ∨ (c = .laneStop ∧ (u.lane l).state = .stopped)
      ∨ (c = .laneStart ∧ (s.lane l).state = .stopped ∧ (u.lane l).state = .running) := by
  cases h with
  | leaveReset => exact absurd rfl hleave
  | restart => exact absurd rfl hrestart
  | showOpen => exact .inl (openShow_sameShapes _ _ l).state
  | showClose => exact .inl (closeShow_sameShapes _ _ _ l).state
  | timelineReport => exact .inl (reportTaken_sameShapes _ _ l).state
  | cuePost => exact .inl (doPost_sameShapes _ _ _ l).state
  | cueRevise => exact .inl (doRevise_sameShapes _ _ _ l).state
  | cueWithdraw => exact .inl (withdrawCue_sameShapes _ _ l).state
  | rxIssue => exact .inl (doIssue_sameShapes _ _ l).state
  | rxMove => exact .inl (doMove_sameShapes _ _ _ l).state
  | rxReturn => exact .inl (returnRx_sameShapes _ _ l).state
  | joinExpires => exact .inl (enterLost_sameShapes _ _ _ l).state
  | lossExpires => exact .inl (enterLost_sameShapes _ _ _ l).state
  | checkin => exact .inl (takeCheckin_sameShapes _ _ _ l).state
  | askTaken => exact .inl (takeAsk_sameShapes _ _ _ _ _ _ l).state
  | laneStart hstopped =>
    rw [startLane_state]
    split
    · next hl => subst hl; exact .inr (.inr (.inr ⟨rfl, hstopped, rfl⟩))
    · exact .inl rfl
  | laneStop =>
    rw [stopLane_state]
    split
    · exact .inr (.inr (.inl ⟨rfl, rfl⟩))
    · exact .inl rfl
  | @runningBoundary k _ =>
    obtain ⟨h, rfl⟩ | h := runningBoundary_state (boundaryTaken k s) k l
    · exact .inr (.inl ⟨.inl rfl, h⟩)
    · exact .inl h
  | unservedBoundary =>
    exact .inl ((stoppedPass_ticks (jump := false) _ _ (boundaryTaken _ s)).sameShapes l).state
  | buildComplete =>
    rw [completeBuild_state]
    exact .inl ((finishBuild_ticks (jump := false) _ s).sameShapes l).state
  | @sent k _ i =>
    rw [beginBuild_state, State.lane_congr (State.countLane_lanes _ _ _), State.lane_withLane]
    split
    · next hl => subst hl; cases i <;> exact .inl rfl
    · exact .inl rfl
  | rfReleased =>
    rw [State.lane_withLane]
    split
    · next hl => subst hl; exact .inl rfl
    · exact .inl rfl
  | rfReleasedFault =>
    rw [faultLane_state]
    split
    · next hl => subst hl; exact .inr (.inl ⟨.inr rfl, rfl⟩)
    · next hl => rw [State.lane_withLane_of_ne _ _ hl]; exact .inl rfl
  | rfAsserted =>
    rw [State.lane_withLane]
    split
    · next hl => subst hl; exact .inl rfl
    · exact .inl rfl
  | buildProgress => exact .inl ((buildUnit_ticks (jump := false) _ s).sameShapes l).state
  | _ => exact .inl (congrArg Lane.state (State.lane_congr (by simp) l))

/-- Settles O17. -/
theorem showKeepsItsLaneAndFaultsLast : Obligations.ShowKeepsItsLaneAndFaultsLast := by
  intro c s t h hleave hrestart
  refine ⟨fun a l hl => ?_, fun l hfault => ?_⟩
  · obtain rfl | ⟨u, hu, rfl⟩ | ⟨m, rest, u, res, cl, body, -, -, -, hu, rfl⟩ := exec_outcomes h
    · exact .inl hl
    · exact acts_laneOf? hleave hrestart hu hl
    · obtain ⟨-, -, -, rfl⟩ | ⟨-, -, hu⟩ := hu
      · exact .inl hl
      · exact acts_laneOf? hleave hrestart hu hl
  · have hstate {v u : State} (hv : (v.lane l).state = .fault) (hu : Acts c v u) :
        (u.lane l).state = .fault ∨ (c = .laneStop ∧ (u.lane l).state = .stopped) := by
      obtain h | h | h | h := acts_laneState hleave hrestart hu l
      · exact .inl (h.trans hv)
      · exact .inl h.2
      · exact .inr h
      · rw [hv] at h
        cases h.2.1
    obtain rfl | ⟨u, hu, rfl⟩ | ⟨m, rest, u, res, cl, body, -, -, -, hu, rfl⟩ := exec_outcomes h
    · exact .inl hfault
    · exact hstate (u := u) hfault hu
    · obtain ⟨-, -, -, rfl⟩ | ⟨-, -, hu⟩ := hu
      · exact .inl hfault
      · exact hstate (v := s.withInbox rest) (u := u) hfault hu

/-! ### Epochs (R23) -/

theorem State.timeline_withTimeline (s : State) (a b : Aud) (x : Timeline) :
    (s.withTimeline a x).timeline b = if b = a then x else s.timeline b := vput_get ..

theorem State.timeline_congr {s t : State} (h : t.timelines = s.timelines) (a : Aud) :
    t.timeline a = s.timeline a := by
  rw [State.timeline, h, State.timeline]

theorem gatedTimeline_epoch (t : SiteTime) (x : Timeline) :
    (gatedTimeline t x).epoch = x.epoch := by
  unfold gatedTimeline
  split <;> rfl

theorem releasedTimeline_epoch (t : SiteTime) (x : Timeline) :
    (releasedTimeline t x).epoch = x.epoch := by
  unfold releasedTimeline
  split
  · split <;> rfl
  all_goals rfl

theorem jumpIf_epoch (far : Bool) (x : Timeline) :
    (jumpIf far x).epoch = x.epoch ∨ (jumpIf far x).epoch = x.epoch + 1 := by
  unfold jumpIf
  split
  · exact .inr rfl
  · exact .inl rfl

/-- A report keeps the epoch or begins the next one (R30, R33). -/
theorem reportEffect_epoch (tLock confirm : Nat) (kind : ReportKind) (tRef : SiteTime)
    (pos rate : Nat) (x : Timeline) :
    (reportEffect tLock confirm kind tRef pos rate x).tl.epoch = x.epoch
      ∨ (reportEffect tLock confirm kind tRef pos rate x).tl.epoch = x.epoch + 1 := by
  have hacquire (playing : Bool) : (acquire playing tRef pos rate x).tl.epoch = x.epoch + 1 := by
    unfold acquire
    dsimp only
    split <;> rfl
  have hmotion : (playingInMotion tLock confirm tRef pos rate x).tl.epoch = x.epoch
      ∨ (playingInMotion tLock confirm tRef pos rate x).tl.epoch = x.epoch + 1 := by
    unfold playingInMotion
    dsimp only
    split
    · exact .inl rfl
    generalize (if (x.strikes == 0 || _) = true then 1 else x.strikes + 1) = strikes
    split
    · exact .inr rfl
    · exact .inl rfl
  have hheld : (playingInHeld tLock tRef pos rate x).tl.epoch = x.epoch
      ∨ (playingInHeld tLock tRef pos rate x).tl.epoch = x.epoch + 1 := by
    unfold playingInHeld
    dsimp only
    split <;> exact jumpIf_epoch _ _
  unfold reportEffect
  split
  · exact .inl rfl
  · split
    any_goals exact hmotion
    · exact hheld
    all_goals exact .inr (hacquire true)
  · split
    any_goals exact jumpIf_epoch _ _
    all_goals exact .inr (hacquire false)

theorem acceptReport_epoch (now : SiteTime) (e : ReportEffect) :
    (acceptReport now e).epoch = e.tl.epoch := by
  unfold acceptReport
  split <;> rfl

theorem gateBecomesActive_timeline (s : State) (a b : Aud) :
    (gateBecomesActive a s).timeline b =
      if b = a ∧ s.isOpen a = true then gatedTimeline s.clock.time (s.timeline a)
      else s.timeline b := by
  unfold gateBecomesActive
  by_cases hopen : s.isOpen a = true
  · rw [if_pos hopen]
    have hjudged : ((s.withTimeline a (gatedTimeline s.clock.time (s.timeline a))).judgeTimelines
        a).timelines = (s.withTimeline a (gatedTimeline s.clock.time (s.timeline a))).timelines := by
      simp
    rw [State.timeline_congr hjudged, State.timeline_withTimeline]
    simp [hopen]
  · simp [hopen]

theorem gateIsReleased_timeline (s : State) (a b : Aud) :
    (gateIsReleased a s).timeline b =
      if b = a ∧ s.isOpen a = true then releasedTimeline s.clock.time (s.timeline a)
      else s.timeline b := by
  unfold gateIsReleased
  by_cases hopen : s.isOpen a = true
  · rw [if_pos hopen]
    have hjudged : ((s.withTimeline a (releasedTimeline s.clock.time (s.timeline a))).judgeTimelines
        a).timelines
        = (s.withTimeline a (releasedTimeline s.clock.time (s.timeline a))).timelines := by
      simp
    rw [State.timeline_congr hjudged, State.timeline_withTimeline]
    simp [hopen]
  · simp [hopen]

theorem gateBecomesActive_epoch (s : State) (a b : Aud) :
    ((gateBecomesActive a s).timeline b).epoch = (s.timeline b).epoch := by
  rw [gateBecomesActive_timeline]
  split
  · next h => rw [gatedTimeline_epoch, h.1]
  · rfl

theorem gateIsReleased_epoch (s : State) (a b : Aud) :
    ((gateIsReleased a s).timeline b).epoch = (s.timeline b).epoch := by
  rw [gateIsReleased_timeline]
  split
  · next h => rw [releasedTimeline_epoch, h.1]
  · rfl

theorem syncModeSet_epoch (s : State) (a b : Aud) (m : Sens) :
    ((syncModeSet a m s).timeline b).epoch = (s.timeline b).epoch := by
  have hreleased : ((syncReleased a s).timeline b).epoch = (s.timeline b).epoch := by
    unfold syncReleased
    dsimp only
    split
    · exact gateIsReleased_epoch _ a b
    · rfl
  unfold syncModeSet
  dsimp only
  split
  · exact (gateBecomesActive_epoch _ a b).trans hreleased
  · exact hreleased

theorem openShow_timeline (s : State) (q : ShowOpenReq) (b : Aud) :
    (openShow q s).timeline b =
      if b = q.aud then openedTimeline (s.timeline q.aud) q.rate (s.syncIn q.aud).gate
      else s.timeline b := by
  have htl : (openShow q s).timelines = (beginRun q s).timelines := by
    simp [openShow]
  rw [State.timeline_congr htl]
  exact State.timeline_withTimeline _ _ _ _

theorem closeShow_timeline (s : State) (a b : Aud) (l : LaneId) :
    (closeShow a l s).timeline b =
      if b = a then { Timeline.reset with epoch := (s.timeline a).epoch } else s.timeline b := by
  have htl : (closeShow a l s).timelines = (shutShow a (emptyShow a l s)).timelines := by
    simp [closeShow]
  have hempty (c : Aud) : (emptyShow a l s).timeline c = s.timeline c :=
    State.timeline_congr (by simp) c
  rw [State.timeline_congr htl]
  unfold shutShow
  dsimp only
  rw [State.timeline_congr (State.withSync_timelines _ _ _), State.timeline_withTimeline]
  split
  · exact congrArg (fun x : Timeline => { Timeline.reset with epoch := x.epoch }) (hempty a)
  · exact hempty b

theorem reportTaken_timeline (s : State) (q : ReportReq) (b : Aud) :
    (reportTaken q s).timeline b =
      if b = q.aud then acceptReport s.clock.time (effectOf q s) else s.timeline b := by
  have hacted : (reportActed q s).timeline b =
      if b = q.aud then acceptReport s.clock.time (effectOf q s) else s.timeline b := by
    have htl : (reportActed q s).timelines = (reportWritten q s).timelines := by
      simp [reportActed]
    rw [State.timeline_congr htl]
    unfold reportWritten
    dsimp only
    rw [State.timeline_withTimeline]
    split
    · rfl
    · exact State.timeline_congr (by split <;> simp) b
  rw [← hacted]
  by_cases hjump : (effectOf q s).outcome = .jump
  · rw [reportTaken_of_jump hjump]
    exact State.timeline_congr (by simp) b
  · rw [reportTaken_of_noJump hjump]
    exact State.timeline_congr (by simp) b

/-- The epochs after each command's change (R23). -/
theorem acts_epoch {c : Instr} {s u : State} (h : Acts c s u) (a : Aud) :
    (u.timeline a).epoch = (s.timeline a).epoch
      ∨ ((c = .showOpen ∨ c = .timelineReport)
          ∧ (u.timeline a).epoch = (s.timeline a).epoch + 1)
      ∨ ((c = .leaveReset ∨ c = .restart) ∧ (u.timeline a).epoch = 0) := by
  have hjudged (x : Timeline) (b : Aud) (hx : x.epoch = (s.timeline b).epoch) :
      (((s.withTimeline b x).judgeTimelines b).timeline a).epoch = (s.timeline a).epoch := by
    have htl : ((s.withTimeline b x).judgeTimelines b).timelines
        = (s.withTimeline b x).timelines := by simp
    rw [State.timeline_congr htl, State.timeline_withTimeline]
    split
    · next ha => rw [hx, ha]
    · rfl
  cases h with
  | showOpen =>
    rw [openShow_timeline]
    split
    · next ha => subst ha; exact .inr (.inl ⟨.inl rfl, rfl⟩)
    · exact .inl rfl
  | showClose =>
    rw [closeShow_timeline]
    split
    · next ha => subst ha; exact .inl rfl
    · exact .inl rfl
  | syncMode => exact .inl (syncModeSet_epoch _ _ _ _)
  | timelineReport =>
    rw [reportTaken_timeline]
    split
    · next ha =>
      subst ha
      rw [acceptReport_epoch]
      obtain h | h := reportEffect_epoch _ _ _ _ _ _ _
      · exact .inl h
      · exact .inr (.inl ⟨.inr rfl, h⟩)
    · exact .inl rfl
  | leaveReset => exact .inr (.inr ⟨.inl rfl, congrArg Timeline.epoch (reset_timeline a)⟩)
  | restart => exact .inr (.inr ⟨.inr rfl, congrArg Timeline.epoch (reset_timeline a)⟩)
  | gateActive => exact .inl (gateBecomesActive_epoch _ _ _)
  | gateRelease => exact .inl (gateIsReleased_epoch _ _ _)
  | coasts => exact .inl (hjudged _ _ rfl)
  | runLost => exact .inl (hjudged _ _ rfl)
  | coastLost => exact .inl (hjudged _ _ rfl)
  | _ => exact .inl (congrArg Timeline.epoch (State.timeline_congr (by simp) a))

/-- Settles O15. -/
theorem epochChangesOnlyAtOpensAndReports : Obligations.EpochChangesOnlyAtOpensAndReports := by
  intro c s t a h hne
  obtain rfl | ⟨u, hu, rfl⟩ | ⟨m, rest, u, res, cl, body, -, -, -, hu, rfl⟩ := exec_outcomes h
  · exact absurd rfl hne
  · exact (acts_epoch hu a).resolve_left hne
  · obtain ⟨-, -, -, rfl⟩ | ⟨-, -, hu⟩ := hu
    · exact absurd rfl hne
    · exact (acts_epoch hu a).resolve_left hne

end Sys2Proof.Machine
end


section
/-! PROOFS. Every step keeps every Timeline in the shape of its state (R23, R24, R26, R37). -/

namespace Sys2Proof.Machine

/-! ### The shape of a Timeline, by its state -/

/-- The rate of a Timeline is one it can run at (R26). -/
def rateOk (r : Nat) : Prop := rateMin ≤ r ∧ r ≤ rateMax

theorem rateOk_clampRate (r : Nat) : rateOk (clampRate r) := by
  unfold rateOk clampRate rateMin rateMax
  split
  · omega
  · split <;> omega

theorem saturate_le (x : Int) : saturate x ≤ Config.maxPosition := by
  unfold saturate
  split
  · exact Nat.zero_le _
  · exact Nat.min_le_right _ _

theorem Timeline.ok_moving {x : Timeline} {p : Anchor}
    (hstate : x.state = .running ∨ x.state = .coasting) (hanchor : x.anchor = some p)
    (hpos : p.pos ≤ Config.maxPosition) (hfrozen : x.frozen = none) (hrate : rateOk x.rate)
    (hgated : x.gated = false) : x.ok := by
  refine ⟨by simp [hanchor, hstate], ?_, ?_, by simp [hfrozen], hrate.1, hrate.2, by simp [hgated]⟩
  · obtain h | h := hstate <;> simp [hfrozen, h]
  · intro q hq
    obtain rfl := Option.some.inj (hanchor.symm.trans hq)
    exact hpos

theorem Timeline.ok_held {x : Timeline} {p : Nat} (hstate : x.state = .held)
    (hanchor : x.anchor = none) (hfrozen : x.frozen = some p) (hpos : p ≤ Config.maxPosition)
    (hrate : rateOk x.rate) : x.ok :=
  ⟨by simp [hanchor, hstate], by simp [hfrozen, hstate], by simp [hanchor], by simpa [hfrozen],
    hrate.1, hrate.2, fun _ => .inr (.inl hstate)⟩

theorem Timeline.ok_idle {x : Timeline}
    (hstate : x.state = .acquiring ∨ x.state = .stopped ∨ x.state = .lost)
    (hanchor : x.anchor = none) (hfrozen : x.frozen = none) (hrate : rateOk x.rate) : x.ok := by
  refine ⟨?_, ?_, by simp [hanchor], by simp [hfrozen], hrate.1, hrate.2, ?_⟩
  · obtain h | h | h := hstate <;> simp [hanchor, h]
  · obtain h | h | h := hstate <;> simp [hfrozen, h]
  · obtain h | h | h := hstate <;> simp [h]

theorem Timeline.ok.rateOk {x : Timeline} (h : x.ok) : rateOk x.rate := by
  obtain ⟨-, -, -, -, hmin, hmax, -⟩ := h
  exact ⟨hmin, hmax⟩

theorem Timeline.ok.moving {x : Timeline} (h : x.ok)
    (hstate : x.state = .running ∨ x.state = .coasting) :
    ∃ p, x.anchor = some p ∧ p.pos ≤ Config.maxPosition ∧ x.frozen = none ∧ x.gated = false := by
  obtain ⟨hanchor, hfrozen, hpos, -, -, -, hgated⟩ := h
  obtain ⟨p, hp⟩ := Option.isSome_iff_exists.1 (hanchor.2 hstate)
  refine ⟨p, hp, hpos p hp, ?_, ?_⟩
  · rw [← Option.not_isSome_iff_eq_none, hfrozen]
    obtain h | h := hstate <;> simp [h]
  · rw [← Bool.not_eq_true]
    intro hg
    have := hgated hg
    obtain h | h := hstate <;> simp [h] at this

theorem Timeline.ok.anchor_eq_none {x : Timeline} (h : x.ok)
    (hstate : ¬(x.state = .running ∨ x.state = .coasting)) : x.anchor = none := by
  obtain ⟨hanchor, -⟩ := h
  rwa [← Option.not_isSome_iff_eq_none, hanchor]

theorem Timeline.ok.frozen_eq_none {x : Timeline} (h : x.ok) (hstate : x.state ≠ .held) :
    x.frozen = none := by
  obtain ⟨-, hfrozen, -⟩ := h
  rwa [← Option.not_isSome_iff_eq_none, hfrozen]

theorem Timeline.ok.held {x : Timeline} (h : x.ok) (hstate : x.state = .held) :
    ∃ p, x.frozen = some p ∧ p ≤ Config.maxPosition ∧ x.anchor = none := by
  have hanchor := h.anchor_eq_none (by simp [hstate])
  obtain ⟨-, hfrozen, -, hpos, -⟩ := h
  obtain ⟨p, hp⟩ := Option.isSome_iff_exists.1 (hfrozen.2 hstate)
  exact ⟨p, hp, hpos p hp, hanchor⟩

/-! ### What the events of a Timeline make of its shape -/

theorem gatedTimeline_ok (t : SiteTime) {x : Timeline} (h : x.ok) : (gatedTimeline t x).ok := by
  have hidle (hstate : x.state = .acquiring ∨ x.state = .stopped ∨ x.state = .lost) :
      Timeline.ok { x with lastKind := none, gated := true } :=
    Timeline.ok_idle hstate (h.anchor_eq_none (by obtain h | h | h := hstate <;> simp [h]))
      (h.frozen_eq_none (by obtain h | h | h := hstate <;> simp [h])) h.rateOk
  have hmoving (hstate : x.state = .running ∨ x.state = .coasting) :
      Timeline.ok { x with
        state := .held, frozen := x.project t, anchor := none, strikes := 0, candidate := none,
        lastKind := none, gated := true } := by
    obtain ⟨p, hp, -⟩ := h.moving hstate
    have hpos : x.project t = some (projectFrom p x.rate t) := by
      obtain h | h := hstate <;> simp [Timeline.project, h, hp]
    exact Timeline.ok_held rfl rfl hpos (saturate_le _) h.rateOk
  unfold gatedTimeline
  split
  case h_1 hs => exact hmoving (.inl hs)
  case h_2 hs => exact hmoving (.inr hs)
  case h_3 hs =>
    obtain ⟨p, hp, hpos, hanchor⟩ := h.held hs
    exact Timeline.ok_held hs hanchor hp hpos h.rateOk
  case h_4 hs => exact hidle (.inl hs)
  case h_5 hs => exact hidle (.inr (.inl hs))
  case h_6 hs => exact hidle (.inr (.inr hs))
  case h_7 => exact h

theorem gatedTimeline_inactive (t : SiteTime) (x : Timeline) :
    (gatedTimeline t x).state = .inactive ↔ x.state = .inactive := by
  unfold gatedTimeline
  split <;> simp [*]

theorem releasedTimeline_ok (t : SiteTime) {x : Timeline} (h : x.ok) :
    (releasedTimeline t x).ok := by
  have hidle (hstate : x.state = .acquiring ∨ x.state = .stopped ∨ x.state = .lost) :
      Timeline.ok { x with gated := false } :=
    Timeline.ok_idle hstate (h.anchor_eq_none (by obtain h | h | h := hstate <;> simp [h]))
      (h.frozen_eq_none (by obtain h | h | h := hstate <;> simp [h])) h.rateOk
  unfold releasedTimeline
  split
  case h_1 hs =>
    obtain ⟨p, hp, hpos, hanchor⟩ := h.held hs
    split
    · exact Timeline.ok_held hs hanchor hp hpos h.rateOk
    · exact Timeline.ok_moving (p := ⟨t, p⟩) (.inl rfl) (by simp [hp]) hpos rfl h.rateOk rfl
  case h_2 hs => exact hidle (.inl hs)
  case h_3 hs => exact hidle (.inr (.inl hs))
  case h_4 hs => exact hidle (.inr (.inr hs))
  all_goals exact h

theorem releasedTimeline_inactive (t : SiteTime) (x : Timeline) :
    (releasedTimeline t x).state = .inactive ↔ x.state = .inactive := by
  unfold releasedTimeline
  split
  · split <;> simp [*]
  all_goals simp [*]

/-- A loss clears the anchor of a Timeline that moved (R41). -/
theorem lostTimeline_ok {x : Timeline} (h : x.ok)
    (hstate : x.state = .running ∨ x.state = .coasting) : (lostTimeline x).ok := by
  obtain ⟨-, -, -, hfrozen, -⟩ := h.moving hstate
  exact Timeline.ok_idle (.inr (.inr rfl)) rfl hfrozen h.rateOk

theorem openedTimeline_ok (old : Timeline) (rate : Option Nat) (gate : Bool) :
    (openedTimeline old rate gate).ok := by
  refine Timeline.ok_idle (.inl rfl) rfl rfl ?_
  cases rate with
  | none => exact (show rateOk 65536 from ⟨by decide, by decide⟩)
  | some r => exact rateOk_clampRate r

theorem jumpIf_ok (far : Bool) {x : Timeline} (h : x.ok) : (jumpIf far x).ok := by
  unfold jumpIf
  split <;> exact h

theorem jumpIf_state (far : Bool) (x : Timeline) : (jumpIf far x).state = x.state := by
  unfold jumpIf
  split <;> rfl

section
variable {tLock confirm : Nat} {tRef : SiteTime} {pos rate : Nat} {x : Timeline}

theorem acquire_ok (hpos : pos ≤ Config.maxPosition) (hrate : rateOk rate) (playing : Bool)
    (hanchor : x.anchor = none) (hfrozen : x.frozen = none) :
    (acquire playing tRef pos rate x).tl.ok := by
  unfold acquire
  dsimp only
  split
  · next h => exact Timeline.ok_moving (p := ⟨tRef, pos⟩) (.inl rfl) rfl hpos hfrozen hrate h.2
  · exact Timeline.ok_held rfl hanchor rfl hpos hrate

theorem acquire_active (playing : Bool) : (acquire playing tRef pos rate x).tl.state ≠ .inactive := by
  unfold acquire
  dsimp only
  split <;> simp

theorem playingInMotion_ok (hpos : pos ≤ Config.maxPosition) (hrate : rateOk rate) (hx : x.ok)
    (hstate : x.state = .running ∨ x.state = .coasting) :
    (playingInMotion tLock confirm tRef pos rate x).tl.ok
      ∧ (playingInMotion tLock confirm tRef pos rate x).tl.state ≠ .inactive := by
  obtain ⟨p, hp, hpp, hfrozen, hgated⟩ := hx.moving hstate
  unfold playingInMotion
  dsimp only
  split
  · exact ⟨Timeline.ok_moving (p := ⟨tRef, pos⟩) (.inl rfl) rfl hpos hfrozen hrate hgated, by simp⟩
  generalize (if (x.strikes == 0 || _) = true then 1 else x.strikes + 1) = strikes
  split
  · refine ⟨jumpIf_ok _ ?_, by simp [jumpIf_state]⟩
    exact Timeline.ok_moving (p := ⟨tRef, pos⟩) (.inl rfl) rfl hpos hfrozen hrate hgated
  · refine ⟨Timeline.ok_moving hstate hp hpp hfrozen hx.rateOk hgated, ?_⟩
    obtain h | h := hstate <;> simp [h]

theorem pausedInMotion_ok (hpos : pos ≤ Config.maxPosition) (hrate : rateOk rate) :
    (pausedInMotion tLock tRef pos rate x).tl.ok
      ∧ (pausedInMotion tLock tRef pos rate x).tl.state ≠ .inactive := by
  refine ⟨jumpIf_ok _ ?_, by simp [pausedInMotion, jumpIf_state]⟩
  exact Timeline.ok_held rfl rfl rfl hpos hrate

theorem playingInHeld_ok (hpos : pos ≤ Config.maxPosition) (hrate : rateOk rate) (hx : x.ok)
    (hstate : x.state = .held) :
    (playingInHeld tLock tRef pos rate x).tl.ok
      ∧ (playingInHeld tLock tRef pos rate x).tl.state ≠ .inactive := by
  obtain ⟨-, -, -, hanchor⟩ := hx.held hstate
  unfold playingInHeld
  dsimp only
  split
  · exact ⟨jumpIf_ok _ (Timeline.ok_held hstate hanchor rfl hpos hrate), by simp [jumpIf_state, hstate]⟩
  · next hgated =>
    refine ⟨jumpIf_ok _ ?_, by simp [jumpIf_state]⟩
    exact Timeline.ok_moving (p := ⟨tRef, pos⟩) (.inl rfl) rfl hpos rfl hrate (by simpa using hgated)

theorem pausedInHeld_ok (hpos : pos ≤ Config.maxPosition) (hrate : rateOk rate) (hx : x.ok)
    (hstate : x.state = .held) :
    (pausedInHeld tLock pos rate x).tl.ok ∧ (pausedInHeld tLock pos rate x).tl.state ≠ .inactive := by
  obtain ⟨-, -, -, hanchor⟩ := hx.held hstate
  exact ⟨jumpIf_ok _ (Timeline.ok_held hstate hanchor rfl hpos hrate),
    by simp [pausedInHeld, jumpIf_state, hstate]⟩

/-- A report leaves a Timeline in the shape of its state, and never INACTIVE (R30 to R38). -/
theorem reportEffect_ok (kind : ReportKind) (hpos : pos ≤ Config.maxPosition) (hrate : rateOk rate)
    (hx : x.ok) :
    (reportEffect tLock confirm kind tRef pos rate x).tl.ok
      ∧ (reportEffect tLock confirm kind tRef pos rate x).tl.state ≠ .inactive := by
  have hacquire (playing : Bool)
      (hidle : ¬(x.state = .running ∨ x.state = .coasting) ∧ x.state ≠ .held) :
      (acquire playing tRef pos rate x).tl.ok
        ∧ (acquire playing tRef pos rate x).tl.state ≠ .inactive :=
    ⟨acquire_ok hpos hrate playing (hx.anchor_eq_none hidle.1) (hx.frozen_eq_none hidle.2),
      acquire_active playing⟩
  unfold reportEffect
  split
  · exact ⟨Timeline.ok_idle (.inr (.inl rfl)) rfl rfl hrate, by simp [stopReport]⟩
  · split
    case h_1 hs => exact playingInMotion_ok hpos hrate hx (.inl hs)
    case h_2 hs => exact playingInMotion_ok hpos hrate hx (.inr hs)
    case h_3 hs => exact playingInHeld_ok hpos hrate hx hs
    all_goals next hs => exact hacquire true (by simp [hs])
  · split
    case h_1 | h_2 => exact pausedInMotion_ok hpos hrate
    case h_3 hs => exact pausedInHeld_ok hpos hrate hx hs
    all_goals next hs => exact hacquire false (by simp [hs])

end

theorem acceptReport_ok (now : SiteTime) {e : ReportEffect} (h : e.tl.ok) :
    (acceptReport now e).ok := by
  unfold acceptReport
  split <;> exact h

theorem acceptReport_state (now : SiteTime) (e : ReportEffect) :
    (acceptReport now e).state = e.tl.state := by
  unfold acceptReport
  split <;> rfl

theorem timelineReport?_pos {b : List Byte} {q : ReportReq} (h : timelineReport? b = some q) :
    q.pos ≤ Config.maxPosition := by
  unfold timelineReport? at h
  split at h
  · split at h
    · split at h
      · next hpos =>
        obtain rfl := Option.some.inj h
        exact hpos
      · cases h
    · cases h
  · cases h

/-! ### Every step -/

/-- One auditorium gets another Timeline, in shape and INACTIVE just when it is CLOSED. -/
theorem timelinesOk_put {s t : State} (hs : TimelinesOk s) {a : Aud} {x : Timeline}
    (htl : ∀ b, t.timeline b = if b = a then x else s.timeline b) (hx : x.ok)
    (hopens : ∀ b, b ≠ a → t.isOpen b = s.isOpen b)
    (hstate : x.state = .inactive ↔ t.isOpen a = false) : TimelinesOk t := by
  intro b
  rw [htl b]
  by_cases hb : b = a
  · subst hb
    simpa using ⟨hx, hstate⟩
  · rw [if_neg hb, hopens b hb]
    exact hs b

theorem timelinesOk_gateBecomesActive {s : State} (hs : TimelinesOk s) (a : Aud) :
    TimelinesOk (gateBecomesActive a s) := by
  have hopens : SameOpens s (gateBecomesActive a s) := .of_directory (by simp)
  by_cases hopen : s.isOpen a = true
  · refine timelinesOk_put hs (a := a) (fun b => ?_) (gatedTimeline_ok s.clock.time (hs a).1)
      (fun b _ => hopens.isOpen b) ?_
    · simp [gateBecomesActive_timeline, hopen]
    · rw [gatedTimeline_inactive, hopens.isOpen]
      exact (hs a).2
  · rwa [gateBecomesActive, if_neg hopen]

theorem timelinesOk_gateIsReleased {s : State} (hs : TimelinesOk s) (a : Aud) :
    TimelinesOk (gateIsReleased a s) := by
  have hopens : SameOpens s (gateIsReleased a s) := .of_directory (by simp)
  by_cases hopen : s.isOpen a = true
  · refine timelinesOk_put hs (a := a) (fun b => ?_) (releasedTimeline_ok s.clock.time (hs a).1)
      (fun b _ => hopens.isOpen b) ?_
    · simp [gateIsReleased_timeline, hopen]
    · rw [releasedTimeline_inactive, hopens.isOpen]
      exact (hs a).2
  · rwa [gateIsReleased, if_neg hopen]

theorem timelinesOk_syncModeSet {s : State} (hs : TimelinesOk s) (a : Aud) (m : Sens) :
    TimelinesOk (syncModeSet a m s) := by
  have hreleased : TimelinesOk (syncReleased a s) := by
    unfold syncReleased
    dsimp only
    split
    · exact timelinesOk_gateIsReleased (s := s.withSync a _) hs a
    · exact hs
  unfold syncModeSet
  dsimp only
  split
  · exact timelinesOk_gateBecomesActive (s := (syncReleased a s).withSync a _) hreleased a
  · exact hreleased

theorem timelinesOk_reportTaken {s : State} (hs : TimelinesOk s) {q : ReportReq} {b : List Byte}
    (hform : timelineReport? b = some q) (hopen : s.isOpen q.aud = true) :
    TimelinesOk (reportTaken q s) := by
  have hopens : SameOpens s (reportTaken q s) := (reportTaken_sameCores _ _).opens
  have hrate : rateOk (match q.rate with
      | some r => clampRate r
      | none => (s.timeline q.aud).rate) := by
    split
    · exact rateOk_clampRate _
    · exact (hs q.aud).1.rateOk
  obtain ⟨hok, hactive⟩ : (effectOf q s).tl.ok ∧ (effectOf q s).tl.state ≠ .inactive :=
    reportEffect_ok q.kind (timelineReport?_pos hform) hrate (hs q.aud).1
  refine timelinesOk_put hs (reportTaken_timeline s q) (acceptReport_ok _ hok)
    (fun b _ => hopens.isOpen b) ?_
  rw [acceptReport_state, hopens.isOpen, hopen]
  simpa using hactive

/-- A deadline takes an open auditorium's Timeline to another state that is not INACTIVE. -/
theorem timelinesOk_deadline {s : State} (hs : TimelinesOk s) {a : Aud} {x : Timeline} (hx : x.ok)
    (hwas : (s.timeline a).state ≠ .inactive) (hstate : x.state ≠ .inactive) :
    TimelinesOk ((s.withTimeline a x).judgeTimelines a) := by
  have hopens : SameOpens s ((s.withTimeline a x).judgeTimelines a) := .of_directory (by simp)
  have htl : ((s.withTimeline a x).judgeTimelines a).timelines = (s.withTimeline a x).timelines := by
    simp
  refine timelinesOk_put hs (a := a) (fun b => ?_) hx (fun b _ => hopens.isOpen b) ?_
  · rw [State.timeline_congr htl, State.timeline_withTimeline]
  · rw [hopens.isOpen, ← (hs a).2]
    exact iff_of_false hstate hwas

theorem acts_timelinesOk {c : Instr} {s u : State} (h : Acts c s u) (hs : TimelinesOk s) :
    TimelinesOk u := by
  have hkeep (htl : u.timelines = s.timelines) (hopens : SameOpens s u) : TimelinesOk u := by
    intro a
    rw [State.timeline_congr htl, hopens.isOpen]
    exact hs a
  have hsame := fun h1 h2 h3 h4 => acts_sameOpens (c := c) h1 h2 h3 h4 h
  cases h with
  | reads => exact hs
  | @showOpen q =>
    refine timelinesOk_put hs (openShow_timeline s q) (openedTimeline_ok _ _ _) ?_ ?_
    · intro b hb
      rw [State.isOpen_eq_laneOf?, openShow_laneOf?, if_neg hb, State.isOpen_eq_laneOf?]
    · simp [openedTimeline, State.isOpen_eq_laneOf?, openShow_laneOf?]
  | @showClose a w =>
    refine timelinesOk_put hs (closeShow_timeline s a · w.lane) (Timeline.ok_closed _) ?_ ?_
    · intro b hb
      rw [State.isOpen_eq_laneOf?, closeShow_laneOf?, if_neg hb, State.isOpen_eq_laneOf?]
    · simp [Timeline.reset, State.isOpen_eq_laneOf?, closeShow_laneOf?]
  | syncMode => exact timelinesOk_syncModeSet hs _ _
  | timelineReport hform hopen => exact timelinesOk_reportTaken hs hform hopen
  | leaveReset => exact timelinesOk_reset
  | restart => exact timelinesOk_reset
  | gateActive => exact timelinesOk_gateBecomesActive (s := s.withSync _ _) hs _
  | gateRelease => exact timelinesOk_gateIsReleased (s := s.withSync _ _) hs _
  | @coasts a _ hrun =>
    obtain ⟨p, hp, hpos, hfrozen, hgated⟩ := (hs a).1.moving (.inl hrun)
    exact timelinesOk_deadline hs
      (Timeline.ok_moving (.inr rfl) hp hpos hfrozen (hs a).1.rateOk hgated) (by simp [hrun]) (by simp)
  | @runLost a _ hrun =>
    exact timelinesOk_deadline hs (lostTimeline_ok (hs a).1 (.inl hrun)) (by simp [hrun])
      (by simp [lostTimeline])
  | @coastLost a _ hcoast =>
    exact timelinesOk_deadline hs (lostTimeline_ok (hs a).1 (.inr hcoast)) (by simp [hcoast])
      (by simp [lostTimeline])
  | _ => exact hkeep (by simp) (hsame (by simp) (by simp) (by simp) (by simp))

/-- Settles O9. -/
theorem timelinesKeepTheirShape : Obligations.TimelinesKeepTheirShape := by
  intro s t hs h
  refine step_keeps (I := TimelinesOk) (fun _ _ hs => hs) (fun c s t hs h => ?_) hs h
  exact exec_keeps (I := TimelinesOk) (fun _ _ hs => hs) (fun _ _ _ _ _ hs => hs) (fun _ hs => hs)
    (fun _ _ hs hu => acts_timelinesOk hu hs) hs h

end Sys2Proof.Machine
end


section
/-! PROOFS. Every step keeps each current condition set exactly while its state holds (R42, R51, R91, R174). -/

namespace Sys2Proof.Machine

/-! ### The conditions one by one -/

/-- TL_COAST and TL_LOST follow the Timelines of the open auditoriums (R42). -/
def TimelineConds (s : State) : Prop :=
  ((s.cond .tlCoast).on = true ↔ ∃ a, s.isOpen a = true ∧ (s.timeline a).state = .coasting)
    ∧ ((s.cond .tlLost).on = true ↔ ∃ a, s.isOpen a = true ∧ (s.timeline a).state = .lost)

/-- LANE_FAULT follows the states of the lanes (R91). -/
def LaneCond (s : State) : Prop := (s.cond .laneFault).on = true ↔ ∃ l, (s.lane l).state = .fault

/-- POOL_LOW follows the free-block count (R51). -/
def PoolCond (s : State) : Prop :=
  (s.cond .poolLow).on = true ↔ s.table.free.length < s.setting .poolLowMark

theorem conditionsFollow_iff (s : State) :
    ConditionsFollow s ↔ TimelineConds s ∧ LaneCond s ∧ PoolCond s := by
  simp only [ConditionsFollow, TimelineConds, LaneCond, PoolCond, and_assoc]

theorem State.cond_judge_self (s : State) (c : Cond) (holds : Bool) (who : CondRec) :
    ((s.judge c holds who).cond c).on = holds := by
  unfold State.judge
  split
  · next hholds =>
    split
    · next hon => rw [hon, hholds]
    · rw [State.cond_withCond_self, hholds]
  · next hholds => rw [State.cond_withCond_self, Bool.eq_false_of_not_eq_true hholds]

theorem State.cond_judge_of_ne (s : State) {c d : Cond} (holds : Bool) (who : CondRec)
    (h : d ≠ c) : (s.judge c holds who).cond d = s.cond d := by
  unfold State.judge
  split
  · split
    · rfl
    · exact State.cond_withCond_of_ne _ _ h
  · exact State.cond_withCond_of_ne _ _ h

theorem State.cond_latch_of_ne (s : State) {c d : Cond} (who : CondRec) (h : d ≠ c) :
    (s.latch c who).cond d = s.cond d :=
  State.cond_withCond_of_ne _ _ h

theorem State.cond_congr {s t : State} (h : t.status = s.status) (c : Cond) :
    t.cond c = s.cond c := by
  rw [State.cond, h, State.cond]

theorem mem_allAuds (a : Aud) : a ∈ allAuds := List.mem_finRange a

theorem timelineConds_judgeTimelines (s : State) (a : Aud) : TimelineConds (s.judgeTimelines a) := by
  have hopens : SameOpens s (s.judgeTimelines a) := .of_directory (by simp)
  have htl (b : Aud) : (s.judgeTimelines a).timeline b = s.timeline b :=
    State.timeline_congr (by simp) b
  unfold TimelineConds
  simp only [hopens.isOpen, htl]
  unfold State.judgeTimelines
  dsimp only
  rw [State.cond_judge_of_ne _ _ _ (by decide), State.cond_judge_self, State.cond_judge_self]
  simp [mem_allAuds]

theorem laneCond_judgeLaneFault (s : State) (l : LaneId) : LaneCond (s.judgeLaneFault l) := by
  have hlane (k : LaneId) : (s.judgeLaneFault l).lane k = s.lane k := State.lane_congr (by simp) k
  unfold LaneCond
  simp only [hlane]
  unfold State.judgeLaneFault
  rw [State.cond_judge_self]
  constructor
  · intro h
    obtain h | h : (s.lane .A).state = .fault ∨ (s.lane .B).state = .fault := by simpa using h
    · exact ⟨_, h⟩
    · exact ⟨_, h⟩
  · rintro ⟨k, hk⟩
    cases k <;> simp [hk]

theorem poolCond_judgePool (s : State) (w : CondRec) : PoolCond (s.judgePool w) := by
  unfold PoolCond
  have htable : (s.judgePool w).table = s.table := by simp
  have hsettings : (s.judgePool w).settings = s.settings := by simp
  rw [State.setting_congr hsettings, htable]
  unfold State.judgePool
  rw [State.cond_judge_self]
  exact decide_eq_true_iff

/-! ### Changes that keep the conditions -/

/-- From `s` to `t` the conditions of `cs` stay, and POOL_LOW follows the free-block count if it did (R51). -/
structure CondStep (cs : List Cond) (s t : State) : Prop where
  kept : ∀ c ∈ cs, t.cond c = s.cond c
  pool : PoolCond s → PoolCond t

/-- The current conditions that follow Timelines and lanes. -/
def followers : List Cond := [.tlCoast, .tlLost, .laneFault]

theorem CondStep.refl (cs : List Cond) (s : State) : CondStep cs s s := ⟨fun _ _ => rfl, id⟩

theorem CondStep.trans {cs : List Cond} {s t u : State} (h : CondStep cs s t)
    (h' : CondStep cs t u) : CondStep cs s u :=
  ⟨fun c hc => (h'.kept c hc).trans (h.kept c hc), h'.pool ∘ h.pool⟩

theorem CondStep.mono {cs ds : List Cond} {s t : State} (h : CondStep cs s t) (hsub : ds ⊆ cs) :
    CondStep ds s t :=
  ⟨fun c hc => h.kept c (hsub hc), h.pool⟩

theorem CondStep.of_conds {cs : List Cond} {s t : State} (hkept : ∀ c ∈ cs, t.cond c = s.cond c)
    (hpool : t.cond .poolLow = s.cond .poolLow) (hfree : t.table.free.length = s.table.free.length)
    (hset : t.settings = s.settings) : CondStep cs s t := by
  refine ⟨hkept, fun h => ?_⟩
  rwa [PoolCond, hpool, hfree, State.setting_congr hset, ← PoolCond]

theorem CondStep.of_status {cs : List Cond} {s t : State} (hstatus : t.status = s.status)
    (htable : t.table = s.table) (hset : t.settings = s.settings) : CondStep cs s t :=
  .of_conds (fun c _ => State.cond_congr hstatus c) (State.cond_congr hstatus _) (by rw [htable]) hset

theorem withLane_condStep (cs : List Cond) (s : State) (l : LaneId) (x : Lane) :
    CondStep cs s (s.withLane l x) := .of_status rfl rfl rfl

theorem withSync_condStep (cs : List Cond) (s : State) (a : Aud) (x : SyncInput) :
    CondStep cs s (s.withSync a x) := .of_status rfl rfl rfl

theorem withTimeline_condStep (cs : List Cond) (s : State) (a : Aud) (x : Timeline) :
    CondStep cs s (s.withTimeline a x) := .of_status rfl rfl rfl

/-- A condition that is not a current one is set. -/
theorem latch_condStep (s : State) {c : Cond} (w : CondRec) (hc : c ∉ currentConds) :
    CondStep followers s (s.latch c w) := by
  have hne : ∀ d ∈ currentConds, (s.latch c w).cond d = s.cond d := fun d hd =>
    State.cond_latch_of_ne s w fun h => hc (h ▸ hd)
  exact .of_conds (fun d hd => hne d (by revert hd; revert d; decide)) (hne _ (by decide)) rfl rfl

/-- A condition that is not a current one ceases. -/
theorem clearCond_condStep (s : State) {c : Cond} (hc : c ∉ currentConds) :
    CondStep followers s (s.clearCond c) := by
  have hne : ∀ d ∈ currentConds, (s.clearCond c).cond d = s.cond d := fun d hd =>
    State.cond_withCond_of_ne s _ fun h => hc (h ▸ hd)
  exact .of_conds (fun d hd => hne d (by revert hd; revert d; decide)) (hne _ (by decide)) rfl rfl

theorem judgePool_condStep {s t : State} (h : ∀ c ∈ followers, t.cond c = s.cond c) (w : CondRec) :
    CondStep followers s (t.judgePool w) := by
  refine ⟨fun c hc => ?_, fun _ => poolCond_judgePool t w⟩
  rw [← h c hc]
  exact State.cond_judge_of_ne t _ _ (by rintro rfl; revert hc; decide)

theorem judgeTimelines_condStep (s : State) (a : Aud) :
    CondStep [.laneFault] s (s.judgeTimelines a) := by
  have hne (c : Cond) (hcoast : c ≠ .tlCoast) (hlost : c ≠ .tlLost) :
      (s.judgeTimelines a).cond c = s.cond c := by
    unfold State.judgeTimelines
    dsimp only
    rw [State.cond_judge_of_ne _ _ _ hlost, State.cond_judge_of_ne _ _ _ hcoast]
  refine .of_conds (fun c hc => ?_) (hne _ (by decide) (by decide)) (by simp) (by simp)
  obtain rfl := List.mem_singleton.1 hc
  exact hne _ (by decide) (by decide)

theorem judgeLaneFault_condStep (s : State) (l : LaneId) :
    CondStep [.tlCoast, .tlLost] s (s.judgeLaneFault l) := by
  refine .of_conds (fun c hc => State.cond_judge_of_ne _ _ _ ?_)
    (State.cond_judge_of_ne _ _ _ (by decide)) (by simp) (by simp)
  rintro rfl
  revert hc
  decide

theorem addNotice_condStep (s : State) (l : LaneId) (x : NoticeItem) :
    CondStep followers s (s.addNotice l x).1 := by
  unfold State.addNotice
  dsimp only
  split
  · exact .of_status rfl rfl rfl
  · split
    · exact latch_condStep _ _ (by decide)
    · exact .of_status rfl rfl rfl

/-! ### Cues -/

theorem freeCue_condStep (s : State) (c : Cue) : CondStep followers s (s.freeCue c) := by
  rw [State.freeCue_eq]
  exact judgePool_condStep (fun d _ => State.cond_congr (by simp [outOfTable]) d) _

theorem tick_condStep {jump : Bool} {s t : State} (h : Tick jump s t) : CondStep followers s t := by
  cases h with
  | @retire c _ =>
    exact (freeCue_condStep s c).trans (u := s.retire c) (.of_status (by simp [State.retire])
      (by simp [State.retire]) (by simp [State.retire]))
  | latched hc => exact latch_condStep _ _ hc
  | cue => exact .of_conds (fun _ _ => rfl) rfl rfl rfl
  | @reWait c _ =>
    refine .of_conds (fun _ _ => State.cond_congr (by simp) _) (State.cond_congr (by simp) _) ?_
      (by simp)
    unfold reWaitCue
    split
    · dsimp only
      split <;> rfl
    · rfl
  | _ => exact .of_status (by simp) (by simp) (by simp)

theorem Ticks.condStep {jump : Bool} {s t : State} (h : Ticks jump s t) : CondStep followers s t :=
  h.keeps (I := CondStep followers s) (fun _ _ hs ht => hs.trans (tick_condStep ht)) (.refl _ s)

theorem doPost_condStep (s : State) (q : CuePostReq) (slot : Nat) :
    CondStep followers s (doPost q slot s).1 := by
  rw [doPost_eq]
  dsimp only
  generalize postedCue q slot (postBlocks q s) = c
  have hcond (d : Cond) : (postLineup c (postTable q slot s)).cond d = s.cond d :=
    State.cond_congr (by simp [postLineup, postTable]) d
  exact (judgePool_condStep (fun d _ => hcond d) (.aud c.aud)).trans
    (.of_status (by simp) (by simp) (by simp))

theorem doRevise_condStep (s : State) (x : CueBody) (c : Cue) :
    CondStep followers s (doRevise x c s).1 := by
  rw [doRevise_eq]
  dsimp only
  generalize revisedCue x (reviseBlocks x c s) c = c'
  have hcond (d : Cond) : (reviseLineup x c c' (reviseTable x c s)).cond d = s.cond d := by
    refine State.cond_congr ?_ d
    unfold reviseLineup
    split <;> simp [reviseTable]
  exact (judgePool_condStep (fun d _ => hcond d) (.aud c.aud)).trans
    (.of_status (by simp) (by simp) (by simp))

theorem withdrawCue_condStep (s : State) (c : Cue) : CondStep followers s (withdrawCue c s) := by
  have hnotice : CondStep followers s (withdrawNotice c s).1 := by
    unfold withdrawNotice
    split
    · split
      · exact addNotice_condStep _ _ _
      · exact .refl _ s
    · exact .refl _ s
  exact (hnotice.trans (.of_status (by simp) (by simp) (by simp))).trans (freeCue_condStep _ c)

/-! ### Shows and reports -/

theorem emptyShow_condStep (s : State) (a : Aud) (l : LaneId) :
    CondStep followers s (emptyShow a l s) := by
  have hfree : ∀ ks u, CondStep followers u (State.forCues (fun c s => s.freeCue c) ks u) := by
    intro ks
    induction ks with
    | nil => exact fun u => .refl _ u
    | cons k ks ih =>
      intro u
      refine CondStep.trans ?_ (ih _)
      split
      · exact freeCue_condStep _ _
      · exact .refl _ _
  exact (CondStep.of_status (by simp) (by simp) (by simp)).trans (hfree _ (clearTraffic a l s))

theorem closeShow_condStep (s : State) (a : Aud) (l : LaneId) :
    CondStep [.laneFault] s (closeShow a l s) := by
  refine (((emptyShow_condStep s a l).mono (by decide)).trans ?_).trans
    (judgeTimelines_condStep (shutShow a (emptyShow a l s)) a)
  exact .of_status (by simp) (by simp) (by simp)

theorem reportActed_condStep (s : State) (q : ReportReq) :
    CondStep followers s (reportActed q s) := by
  have hwritten : CondStep followers s (reportWritten q s) :=
    .of_status (by simp) (by simp) (by simp)
  refine hwritten.trans ?_
  unfold reportActed strikeNoted
  dsimp only
  have hstruck : CondStep followers (reportWritten q s) (if (effectOf q s).struck then
      (reportWritten q s).countAud q.aud .strikes else reportWritten q s) := by
    split
    · exact .of_status rfl rfl rfl
    · exact .refl _ _
  split
  · exact hstruck.trans (latch_condStep _ _ (by decide))
  · exact hstruck

theorem jumpEffects_condStep (s : State) (a : Aud) (p : Nat) :
    CondStep followers s (jumpEffects a p s) := by
  have hlatched : CondStep followers s ((s.latch .tlJump (.aud a)).countAud a .jumps) :=
    (latch_condStep s (c := .tlJump) (.aud a) (by decide)).trans (.of_status rfl rfl rfl)
  have hforgot : CondStep followers s
      (forgetInBuild a ((s.latch .tlJump (.aud a)).countAud a .jumps)) :=
    hlatched.trans (.of_status (by simp) (by simp) (by simp))
  unfold jumpEffects
  dsimp only
  exact (hforgot.trans (jumpCues_ticks a p _).condStep).trans
    (.of_status (by simp) (by simp) (by simp))

theorem reportTaken_condStep (s : State) (q : ReportReq) :
    CondStep [.laneFault] s (reportTaken q s) := by
  have hacted := reportActed_condStep s q
  by_cases hjump : (effectOf q s).outcome = .jump
  · rw [reportTaken_of_jump hjump]
    exact ((hacted.trans (jumpEffects_condStep _ q.aud q.pos)).mono (by decide)).trans
      (judgeTimelines_condStep _ q.aud)
  · rw [reportTaken_of_noJump hjump]
    exact (hacted.mono (by decide)).trans (judgeTimelines_condStep _ q.aud)

theorem gateBecomesActive_condStep (s : State) (a : Aud) :
    CondStep [.laneFault] s (gateBecomesActive a s) := by
  unfold gateBecomesActive
  split
  · exact (withTimeline_condStep _ s a _).trans (judgeTimelines_condStep _ a)
  · exact .refl _ s

theorem gateIsReleased_condStep (s : State) (a : Aud) :
    CondStep [.laneFault] s (gateIsReleased a s) := by
  unfold gateIsReleased
  split
  · exact (withTimeline_condStep _ s a _).trans (judgeTimelines_condStep _ a)
  · exact .refl _ s

theorem syncModeSet_condStep (s : State) (a : Aud) (m : Sens) :
    CondStep [.laneFault] s (syncModeSet a m s) := by
  have hsync (u : State) (x : SyncInput) : CondStep [.laneFault] u (u.withSync a x) :=
    .of_status rfl rfl rfl
  have hreleased : CondStep [.laneFault] s (syncReleased a s) := by
    unfold syncReleased
    dsimp only
    split
    · exact (hsync _ _).trans (gateIsReleased_condStep _ a)
    · exact hsync _ _
  unfold syncModeSet
  dsimp only
  split
  · exact (hreleased.trans (hsync _ _)).trans (gateBecomesActive_condStep _ a)
  · exact hreleased.trans (hsync _ _)

/-! ### Records, asks, lanes, settings -/

theorem tellIfRisen_condStep (s : State) (a : Aud) (t : Track) (n : Nat) :
    CondStep followers s (s.tellIfRisen a t n) :=
  (tellIfRisen_ticks (jump := false) a t n s).condStep

theorem doIssue_condStep (s : State) (r : RxRec) : CondStep followers s (doIssue r s) := by
  unfold doIssue
  dsimp only
  refine CondStep.trans (.of_status ?_ ?_ ?_) (tellIfRisen_condStep _ _ _ _)
  all_goals split <;> simp

theorem doMove_condStep (s : State) (q : RxMoveReq) (r : RxRec) :
    CondStep followers s (doMove q r s) := by
  unfold doMove
  dsimp only
  exact CondStep.trans (.of_status (by simp) (by simp) (by simp)) (tellIfRisen_condStep _ _ _ _)

theorem releaseNotice_condStep (s : State) (wanted : Bool) (r : RxRec) (l : LaneId) :
    CondStep followers s (releaseNotice wanted r l s).1 := by
  unfold releaseNotice
  split
  · exact addNotice_condStep _ _ _
  · exact .refl _ s

theorem returnRx_condStep (s : State) (r : RxRec) : CondStep followers s (returnRx r s) := by
  have hleft : CondStep followers s (leaveRoster r s) := .of_status (by simp) (by simp) (by simp)
  have hreleased := (hleft.trans (releaseNotice_condStep _ (releaseOn s r .A) r .A)).trans
    (releaseNotice_condStep _ (releaseOn s r .B) r .B)
  exact hreleased.trans (.of_status rfl rfl rfl)

theorem enterLost_condStep (s : State) (r : RxRec) (why : LossReason) :
    CondStep followers s (enterLost r why s) := by
  refine CondStep.trans (.of_status ?_ ?_ ?_) (latch_condStep _ _ (by decide)) <;> simp

theorem rejoin_condStep (s : State) (l : LaneId) (r : RxRec) : CondStep followers s (rejoin l r s) := by
  unfold rejoin
  dsimp only
  split
  · exact CondStep.trans (.of_status (by simp) (by simp) (by simp)) (tellIfRisen_condStep _ _ _ _)
  · exact .of_status (by simp) (by simp) (by simp)

theorem strayCheckin_condStep (s : State) (l : LaneId) (m : CheckinMsg) :
    CondStep followers s (strayCheckin l m s) :=
  ((addNotice_condStep s l _).trans (latch_condStep _ _ (by decide))).trans
    (.of_status rfl rfl rfl)

theorem takeCheckin_condStep (s : State) (l : LaneId) (m : CheckinMsg) :
    CondStep followers s (takeCheckin l m s) := by
  unfold takeCheckin
  split
  · split
    · unfold heardCheckin
      dsimp only
      split
      any_goals exact .of_status rfl rfl rfl
      · exact CondStep.trans (t := s.putRx _) (.of_status rfl rfl rfl) (rejoin_condStep _ _ _)
      · split <;> exact .of_status (by simp) (by simp) (by simp)
    · exact strayCheckin_condStep _ _ _
  · exact strayCheckin_condStep _ _ _

theorem takeAsk_condStep (s : State) (l : LaneId) (a : Aud) (t : Track) (n : Nat) (f : FrameNo) :
    CondStep followers s (takeAsk l a t n f s) := by
  have hdropped : CondStep followers s ((s.latch .repairDropped (.lane l)).countLane l .asksDropped) :=
    (latch_condStep s (c := .repairDropped) _ (by decide)).trans (.of_status rfl rfl rfl)
  unfold takeAsk
  dsimp only
  split
  · split <;> exact .of_status rfl rfl rfl
  · split
    · split
      · split
        · exact hdropped
        · exact .of_status (by simp) (by simp) (by simp)
      · exact .of_status rfl rfl rfl
    · split
      · exact hdropped
      · exact .of_status (by simp) (by simp) (by simp)

theorem cutBuild_condStep (s : State) (l : LaneId) (i : BufId) :
    CondStep followers s (cutBuild l i s) := by
  unfold cutBuild
  dsimp only
  exact ((withLane_condStep _ s l _).trans
    (latch_condStep _ _ (by decide))).trans (.of_status rfl rfl rfl)

theorem airAtBoundary_condStep (s : State) (l : LaneId) :
    CondStep followers s (airAtBoundary l s) := by
  obtain ⟨i, -, ⟨-, h⟩ | ⟨-, h⟩⟩ | ⟨-, ⟨i, -, -, h⟩ | ⟨-, h⟩⟩ := airAtBoundary_cases l s <;> rw [h]
  · exact (cutBuild_condStep s l i).trans (.of_status (by simp) (by simp) (by simp))
  · exact (cutBuild_condStep s l i).trans (.of_status rfl rfl rfl)
  · exact .of_status (by simp) (by simp) (by simp)
  · exact .of_status rfl rfl rfl

theorem faultLane_condStep (s : State) (l : LaneId) :
    CondStep [.tlCoast, .tlLost] s (s.faultLane l) :=
  (withLane_condStep _ s l _).trans (judgeLaneFault_condStep _ l)

theorem laneCond_faultLane (s : State) (l : LaneId) : LaneCond (s.faultLane l) :=
  laneCond_judgeLaneFault _ l

theorem stopLane_condStep (s : State) (l : LaneId) :
    CondStep [.tlCoast, .tlLost] s (stopLane l s) :=
  (withLane_condStep _ s l _).trans (judgeLaneFault_condStep _ l)

theorem setTo_condStep (s : State) (k : Setting) (v : Nat) : CondStep followers s (setTo k v s) := by
  have hstatus : (raisePartner k (effective s k v) (s.withSetting k (effective s k v))).status
      = s.status := by simp
  unfold setTo
  dsimp only
  split
  · exact judgePool_condStep (fun d _ => State.cond_congr hstatus d) _
  · next hk =>
    refine ⟨fun d _ => State.cond_congr hstatus d, fun h => ?_⟩
    have htable : (raisePartner k (effective s k v) (s.withSetting k (effective s k v))).table
        = s.table := by simp
    have hmark : (raisePartner k (effective s k v) (s.withSetting k (effective s k v))).setting
        .poolLowMark = s.setting .poolLowMark := by
      unfold raisePartner
      split
      any_goals split
      all_goals simp [State.setting_withSetting, Ne.symm hk]
    rwa [PoolCond, State.cond_congr hstatus, htable, hmark, ← PoolCond]

theorem statusCleared_condStep (s : State) (n : Nat) (z : Bool) :
    CondStep followers s (statusCleared n z s) := by
  have hclear : ∀ cs : List Cond, (∀ c ∈ cs, c ∉ currentConds) → ∀ u : State,
      (∀ d ∈ currentConds, (cs.foldl (fun s c => if inMask n c then s.clearCond c else s) u).cond d
        = u.cond d) := by
    intro cs
    induction cs with
    | nil => exact fun _ _ _ _ => rfl
    | cons c cs ih =>
      intro hcs u d hd
      rw [List.foldl_cons, ih (fun c hc => hcs c (List.mem_cons_of_mem _ hc)) _ d hd]
      split
      · refine State.cond_withCond_of_ne _ _ ?_
        rintro rfl
        exact hcs d List.mem_cons_self hd
      · rfl
  have hconds : ∀ d ∈ currentConds, (statusCleared n z s).cond d = s.cond d := fun d hd => by
    have hlatched : (clearLatched n s).cond d = s.cond d := hclear latchedConds (by decide) s d hd
    rw [← hlatched]
    unfold statusCleared
    split <;> rfl
  exact .of_conds (fun d hd => hconds d (by revert hd; revert d; decide)) (hconds _ (by decide))
    (by simp) (by simp)

/-! ### Every step -/

theorem timelineConds_of_kept {s u : State} (hs : TimelineConds s)
    (hcoast : u.cond .tlCoast = s.cond .tlCoast) (hlost : u.cond .tlLost = s.cond .tlLost)
    (hstate : ∀ st, st ≠ .acquiring → ∀ a, (u.isOpen a = true ∧ (u.timeline a).state = st)
      ↔ (s.isOpen a = true ∧ (s.timeline a).state = st)) : TimelineConds u := by
  unfold TimelineConds
  simp only [hcoast, hlost, hstate .coasting (by decide), hstate .lost (by decide)]
  exact hs

theorem timelineConds_of_same {s u : State} (hs : TimelineConds s)
    (hkept : ∀ c ∈ [Cond.tlCoast, .tlLost], u.cond c = s.cond c) (htl : u.timelines = s.timelines)
    (hopens : SameOpens s u) : TimelineConds u := by
  unfold TimelineConds
  simp only [hkept .tlCoast (by decide), hkept .tlLost (by decide), hopens.isOpen,
    State.timeline_congr htl]
  exact hs

theorem laneCond_of_same {s u : State} (hs : LaneCond s)
    (hkept : u.cond .laneFault = s.cond .laneFault)
    (hlanes : ∀ l, (u.lane l).state = .fault ↔ (s.lane l).state = .fault) : LaneCond u := by
  unfold LaneCond
  simp only [hkept, hlanes]
  exact hs

/-- An auditorium that opens was CLOSED and is ACQUIRING, and so changes no condition (R5). -/
theorem timelineConds_openShow {s : State} (hs : TimelineConds s) {q : ShowOpenReq}
    (hclosed : s.isOpen q.aud = false) : TimelineConds (openShow q s) := by
  have hcond (c : Cond) : (openShow q s).cond c = s.cond c := State.cond_congr (by simp) c
  refine timelineConds_of_kept hs (hcond _) (hcond _) fun st hst a => ?_
  rw [State.isOpen_eq_laneOf?, openShow_laneOf?, openShow_timeline]
  by_cases ha : a = q.aud
  · subst ha
    simp only [if_true, hclosed]
    simp [openedTimeline, Ne.symm hst]
  · simp only [if_neg ha, ← State.isOpen_eq_laneOf?]

theorem runningBoundary_conditionsFollow {s : State} (hs : ConditionsFollow s) (l : LaneId) :
    ConditionsFollow (runningBoundary l s) := by
  rw [conditionsFollow_iff] at hs ⊢
  obtain ⟨htl, hlane, hpool⟩ := hs
  have hcount : CondStep followers s (countBoundary l s) := .of_status rfl rfl rfl
  have hopens : SameOpens s (runningBoundary l s) := by
    rw [runningBoundary_eq]
    split
    · exact (SameOpens.of_directory (by simp [countBoundary])).trans
        (stoppedPass_ticks (jump := false) l _ ((countBoundary l s).faultLane l)).sameCores.opens
    · exact .of_directory (by simp [countBoundary])
  have htimes : (runningBoundary l s).timelines = s.timelines := by simp
  have hstates := runningBoundary_state s l
  rw [runningBoundary_eq] at *
  split
  · next hmiss =>
    rw [if_pos hmiss] at hopens htimes
    have hpass := stoppedPass_ticks (jump := false) l s.clock.time ((countBoundary l s).faultLane l)
    have hstep := ((hcount.mono (by decide)).trans (faultLane_condStep _ l)).trans
      (hpass.condStep.mono (by decide))
    refine ⟨timelineConds_of_same htl hstep.kept htimes hopens, ?_, hstep.pool hpool⟩
    exact laneCond_of_same (laneCond_faultLane _ l) (hpass.condStep.kept _ (by decide))
      fun k => by rw [(hpass.sameShapes k).state]
  · next hmiss =>
    rw [if_neg hmiss] at hopens htimes
    have hstep := (hcount.trans (airAtBoundary_condStep _ l)).trans
      (u := (airAtBoundary l (countBoundary l s)).beginBuild l)
      (.of_status (by simp) (by simp) (by simp))
    refine ⟨timelineConds_of_same htl (hstep.mono (by decide)).kept htimes hopens, ?_,
      hstep.pool hpool⟩
    refine laneCond_of_same hlane (hstep.kept _ (by decide)) fun k => ?_
    rw [beginBuild_state, airAtBoundary_state, countBoundary, State.lane_withLane]
    split
    · next hk => subst hk; rfl
    · rfl

theorem timelineConds_withSync {s : State} (hs : TimelineConds s) (a : Aud) (x : SyncInput) :
    TimelineConds (s.withSync a x) := hs

theorem timelineConds_gateBecomesActive {s : State} (hs : TimelineConds s) (a : Aud) :
    TimelineConds (gateBecomesActive a s) := by
  unfold gateBecomesActive
  split
  · exact timelineConds_judgeTimelines _ _
  · exact hs

theorem timelineConds_gateIsReleased {s : State} (hs : TimelineConds s) (a : Aud) :
    TimelineConds (gateIsReleased a s) := by
  unfold gateIsReleased
  split
  · exact timelineConds_judgeTimelines _ _
  · exact hs

theorem timelineConds_syncModeSet {s : State} (hs : TimelineConds s) (a : Aud) (m : Sens) :
    TimelineConds (syncModeSet a m s) := by
  have hreleased : TimelineConds (syncReleased a s) := by
    unfold syncReleased
    dsimp only
    split
    · exact timelineConds_gateIsReleased (timelineConds_withSync hs _ _) a
    · exact timelineConds_withSync hs _ _
  unfold syncModeSet
  dsimp only
  split
  · exact timelineConds_gateBecomesActive (timelineConds_withSync hreleased _ _) a
  · exact timelineConds_withSync hreleased _ _

/-- After a reset no condition is set, and no state that one follows holds. -/
theorem conditionsFollow_afterReset (s : State) (values : Vector Nat 25)
    (hmark : values.get (settingIdx .poolLowMark) ≤ 1024) :
    ConditionsFollow { afterReset s with settings := values } := by
  have hopens : SameOpens State.reset { afterReset s with settings := values } := .of_directory rfl
  have hcond (c : Cond) : ({ afterReset s with settings := values } : State).cond c
      = State.reset.cond c := rfl
  have hlane (l : LaneId) : (({ afterReset s with settings := values } : State).lane l).state
      = .stopped := by
    cases l <;> rfl
  unfold ConditionsFollow
  simp only [hopens.isOpen, hcond, hlane, reset_cond, reset_isOpen]
  simpa [afterReset, State.reset, State.setting] using hmark

/-- The commands that neither open nor close a show nor move the state of a lane. -/
def leavesStates : Instr → Bool
  | .showOpen | .showClose | .leaveReset | .restart | .laneStart | .laneStop | .laneBoundary _
  | .rfReadyRelease _ => false
  | _ => true

theorem acts_leavesStates {c : Instr} {s u : State} (hc : leavesStates c = true) (h : Acts c s u) :
    SameOpens s u ∧ ∀ l, (u.lane l).state = (s.lane l).state := by
  have hne : ∀ d, leavesStates d = false → c ≠ d := by
    rintro d hd rfl
    rw [hc] at hd
    cases hd
  refine ⟨acts_sameOpens (hne _ rfl) (hne _ rfl) (hne _ rfl) (hne _ rfl) h, fun l => ?_⟩
  obtain h | ⟨h | h, -⟩ | ⟨h, -⟩ | ⟨h, -⟩ := acts_laneState (hne _ rfl) (hne _ rfl) h l
  · exact h
  all_goals exact absurd h (hne _ rfl)

theorem acts_conditionsFollow {c : Instr} {s u : State} (h : Acts c s u)
    (hset : SettingsOk s) (hs : ConditionsFollow s) : ConditionsFollow u := by
  have hkept := fun hc : leavesStates c = true => acts_leavesStates hc h
  have hkeep := (conditionsFollow_iff s).1 hs
  obtain ⟨htl, hlane, hpool⟩ := hkeep
  have hsame (hstep : CondStep followers s u) (htimes : u.timelines = s.timelines)
      (hopens : SameOpens s u) (hlanes : ∀ l, (u.lane l).state = (s.lane l).state) :
      ConditionsFollow u :=
    (conditionsFollow_iff u).2 ⟨timelineConds_of_same htl (hstep.mono (by decide)).kept htimes hopens,
      laneCond_of_same hlane (hstep.kept _ (by decide)) fun l => by rw [hlanes l], hstep.pool hpool⟩
  have hjudged (hstep : CondStep [.laneFault] s u) (htimes : TimelineConds u)
      (hlanes : ∀ l, (u.lane l).state = (s.lane l).state) : ConditionsFollow u :=
    (conditionsFollow_iff u).2 ⟨htimes,
      laneCond_of_same hlane (hstep.kept _ (by decide)) fun l => by rw [hlanes l], hstep.pool hpool⟩
  have hquiet (hc : leavesStates c = true) (hstep : CondStep followers s u)
      (htimes : u.timelines = s.timelines) : ConditionsFollow u :=
    hsame hstep htimes (hkept hc).1 (hkept hc).2
  cases h with
  | reads => exact hs
  | leaveReset => exact conditionsFollow_afterReset s defaultSettings (by decide)
  | restart =>
    obtain ⟨hrange, -, -⟩ := hset
    exact conditionsFollow_afterReset s s.settings (hrange .poolLowMark).2
  | @showOpen q _ _ _ hclosed =>
    have hstep : CondStep followers s (openShow q s) := .of_status (by simp) (by simp) (by simp)
    exact hjudged (hstep.mono (by decide)) (timelineConds_openShow htl hclosed)
      fun l => (openShow_sameShapes _ _ l).state
  | showClose =>
    exact hjudged (closeShow_condStep _ _ _) (timelineConds_judgeTimelines _ _)
      fun l => (closeShow_sameShapes _ _ _ l).state
  | syncMode =>
    exact hjudged (syncModeSet_condStep _ _ _) (timelineConds_syncModeSet htl _ _)
      fun l => congrArg Lane.state (State.lane_congr (by simp) l)
  | timelineReport =>
    exact hjudged (reportTaken_condStep _ _) (timelineConds_judgeTimelines _ _)
      fun l => (reportTaken_sameShapes _ _ l).state
  | gateActive =>
    exact hjudged ((withSync_condStep _ _ _ _).trans (gateBecomesActive_condStep _ _))
      (timelineConds_gateBecomesActive (timelineConds_withSync htl _ _) _)
      fun l => congrArg Lane.state (State.lane_congr (by simp) l)
  | gateRelease =>
    exact hjudged ((withSync_condStep _ _ _ _).trans (gateIsReleased_condStep _ _))
      (timelineConds_gateIsReleased (timelineConds_withSync htl _ _) _)
      fun l => congrArg Lane.state (State.lane_congr (by simp) l)
  | coasts | runLost | coastLost =>
    exact hjudged ((withTimeline_condStep _ _ _ _).trans (judgeTimelines_condStep _ _))
      (timelineConds_judgeTimelines _ _)
      fun l => congrArg Lane.state (State.lane_congr (by simp) l)
  | @laneStart k _ hstopped _ =>
    have hstep : CondStep followers s (startLane k s) := .of_status (by simp) (by simp) (by simp)
    refine (conditionsFollow_iff _).2 ⟨timelineConds_of_same htl (hstep.mono (by decide)).kept
      (by simp) (.of_directory (by simp)), ?_, hstep.pool hpool⟩
    refine laneCond_of_same hlane (hstep.kept _ (by decide)) fun l => ?_
    rw [startLane_state]
    split
    · next hl => rw [hl, hstopped]; decide
    · exact Iff.rfl
  | @laneStop k =>
    have hstep := stopLane_condStep s k
    exact (conditionsFollow_iff _).2 ⟨timelineConds_of_same htl hstep.kept (by simp)
      (.of_directory (by simp)), laneCond_judgeLaneFault _ _, hstep.pool hpool⟩
  | @rfReleasedFault k _ =>
    have hstep := (withLane_condStep _ s k { s.lane k with rfReady := false }).trans
      (faultLane_condStep _ k)
    exact (conditionsFollow_iff _).2 ⟨timelineConds_of_same htl hstep.kept (by simp)
      (.of_directory (by simp)), laneCond_faultLane _ _, hstep.pool hpool⟩
  | runningBoundary => exact runningBoundary_conditionsFollow (s := boundaryTaken _ s) hs _
  | rfReleased =>
    refine hsame (withLane_condStep _ _ _ _) rfl (.of_directory rfl) fun l => ?_
    rw [State.lane_withLane]
    split
    · next hl => subst hl; rfl
    · rfl
  | @unservedBoundary l _ =>
    have hpass := stoppedPass_ticks (jump := false) l s.clock.time (boundaryTaken l s)
    exact hsame (CondStep.trans (t := boundaryTaken l s) (.of_status rfl rfl rfl) hpass.condStep)
      (by simp) (SameOpens.trans (t := boundaryTaken l s) (.of_directory rfl) hpass.sameCores.opens)
      fun k => (hpass.sameShapes k).state
  | setSetting => exact hquiet rfl (setTo_condStep _ _ _) (by simp)
  | cuePost => exact hquiet rfl (doPost_condStep _ _ _) (by simp)
  | cueRevise => exact hquiet rfl (doRevise_condStep _ _ _) (by simp)
  | cueWithdraw => exact hquiet rfl (withdrawCue_condStep _ _) (by simp)
  | cueData => exact hquiet rfl (.of_conds (fun _ _ => rfl) rfl rfl rfl) rfl
  | rxIssue => exact hquiet rfl (doIssue_condStep _ _) (by simp)
  | rxMove => exact hquiet rfl (doMove_condStep _ _ _) (by simp)
  | rxReturn => exact hquiet rfl (returnRx_condStep _ _) (by simp)
  | status => exact hquiet rfl (clearCond_condStep _ (by decide)) rfl
  | statusClear => exact hquiet rfl (statusCleared_condStep _ _ _) (by simp)
  | writeOverflows =>
    exact hquiet rfl (CondStep.trans (t := beginTxn (.write false) [] s) (.of_status rfl rfl rfl)
      (latch_condStep _ _ (by decide))) rfl
  | edgeOverrun =>
    exact hquiet rfl ((withSync_condStep _ _ _ _).trans (latch_condStep _ _ (by decide))) rfl
  | joinExpires => exact hquiet rfl (enterLost_condStep _ _ _) (by simp)
  | lossExpires => exact hquiet rfl (enterLost_condStep _ _ _) (by simp)
  | @buildComplete k =>
    exact hquiet rfl ((finishBuild_ticks (jump := false) k s).condStep.trans
      (.of_status (by simp) (by simp) (by simp))) (by simp)
  | buildProgress => exact hquiet rfl (buildUnit_ticks (jump := false) _ s).condStep (by simp)
  | @uplinkPurge k =>
    exact hquiet rfl (CondStep.trans (t := s.countLane k .uplinkBad) (.of_status rfl rfl rfl)
      (latch_condStep _ _ (by decide))) rfl
  | checkin => exact hquiet rfl (takeCheckin_condStep _ _ _) (by simp)
  | askTaken => exact hquiet rfl (takeAsk_condStep _ _ _ _ _ _) (by simp)
  | statusForce => exact hquiet rfl (.of_conds (fun _ _ => rfl) rfl rfl rfl) rfl
  | _ => exact hquiet rfl (.of_status (by simp) (by simp) (by simp)) (by simp)

/-- Settles O13. -/
theorem currentConditionsFollowTheState : Obligations.CurrentConditionsFollowTheState := by
  intro s t hset hs h
  have hI := step_keeps (I := fun s => SettingsOk s ∧ ConditionsFollow s) (fun _ _ hs => hs)
    (fun c s t hs h => exec_keeps (I := fun s => SettingsOk s ∧ ConditionsFollow s)
      (fun _ _ hs => hs) (fun _ _ _ _ _ hs => hs) (fun _ hs => hs)
      (fun _ _ hs hu => ⟨acts_settingsOk hs.1 hu, acts_conditionsFollow hu hs.1 hs.2⟩) hs h)
    ⟨hset, hs⟩ h
  exact hI.2

end Sys2Proof.Machine
end


section
/-! SUPPORT. The lineups and cue counts of the shows, and the changes that leave them (R12, R48). -/

namespace Sys2Proof.Machine

/-- What an open show holds of the Cue Table: its cue count and its lineups (R12, R48). -/
def Show.stock (w : Show) : Nat × List (List Nat) := (w.cueCount, w.tracks.map TrackRec.lineup)

/-- The lineups and cue counts of all the shows stay. -/
def SameStocks (s t : State) : Prop :=
  ∀ a, (t.theShow? a).map Show.stock = (s.theShow? a).map Show.stock

theorem SameStocks.refl (s : State) : SameStocks s s := fun _ => rfl

theorem SameStocks.trans {s t u : State} (h : SameStocks s t) (h' : SameStocks t u) :
    SameStocks s u := fun a => (h' a).trans (h a)

theorem SameStocks.of_directory {s t : State} (h : t.directory = s.directory) : SameStocks s t :=
  fun a => by rw [State.theShow?_congr h]

theorem State.lineup_eq_stock (s : State) (a : Aud) (u : Track) :
    s.lineup a u = (((s.theShow? a).map Show.stock).bind fun k => k.2[u.val]?).getD [] := by
  unfold State.lineup State.track?
  cases s.theShow? a with
  | none => rfl
  | some w =>
    simp only [Option.bind_some, Option.map_some, Show.stock, List.getElem?_map]
    cases w.tracks[u.val]? <;> rfl

theorem SameStocks.lineup {s t : State} (h : SameStocks s t) (a : Aud) (u : Track) :
    t.lineup a u = s.lineup a u := by
  rw [State.lineup_eq_stock, h a, ← State.lineup_eq_stock]

theorem State.track?_isSome_eq_stock (s : State) (a : Aud) (u : Track) :
    (s.track? a u).isSome
      = (((s.theShow? a).map Show.stock).bind fun k => k.2[u.val]?).isSome := by
  unfold State.track?
  cases s.theShow? a with
  | none => rfl
  | some w => simp [Show.stock]

theorem SameStocks.track?_isSome {s t : State} (h : SameStocks s t) (a : Aud) (u : Track) :
    (t.track? a u).isSome = (s.track? a u).isSome := by
  rw [State.track?_isSome_eq_stock, h a, ← State.track?_isSome_eq_stock]

theorem State.lineup_congr {s t : State} (h : t.directory = s.directory) (a : Aud) (u : Track) :
    t.lineup a u = s.lineup a u :=
  (SameStocks.of_directory h).lineup a u

/-- A change of one track record, as a change of its lineup, is a change of one lineup of the list. -/
theorem stock_modify (w : Show) (i : Nat) {f : TrackRec → TrackRec} {g : List Nat → List Nat}
    (hf : ∀ r, (f r).lineup = g r.lineup) :
    Show.stock { w with tracks := w.tracks.modify i f }
      = (w.cueCount, (w.tracks.map TrackRec.lineup).modify i g) := by
  refine Prod.ext rfl (List.ext_getElem? fun k => ?_)
  simp only [Show.stock, List.getElem?_map, List.getElem?_modify]
  cases w.tracks[k]? with
  | none => simp
  | some r => by_cases hk : i = k <;> simp [hk, hf r]

theorem modTrack_sameStocks (s : State) (a : Aud) (t : Track) {f : TrackRec → TrackRec}
    (hf : ∀ r, (f r).lineup = r.lineup) : SameStocks s (s.modTrack a t f) := by
  intro b
  rw [State.theShow?_modTrack]
  split
  · next hb =>
    subst hb
    cases s.theShow? b with
    | none => rfl
    | some w =>
      simp only [Option.map_some, stock_modify w t.val (g := id) hf, List.modify_id]
      rfl
  · rfl

theorem foldl_modTrack_sameStocks {g : State → Track → TrackRec → TrackRec}
    (hg : ∀ u t r, (g u t r).lineup = r.lineup) (a : Aud) (ts : List Track) (u : State) :
    SameStocks u (ts.foldl (fun v t => v.modTrack a t (g v t)) u) := by
  induction ts generalizing u with
  | nil => exact .refl u
  | cons t ts ih => exact (modTrack_sameStocks _ _ _ (hg u t)).trans (ih _)

theorem countUp_sameStocks (s : State) (a : Aud) (t : Track) : SameStocks s (s.countUp a t) :=
  modTrack_sameStocks _ _ _ fun _ => rfl

theorem unCount_sameStocks (s : State) (r : RxRec) : SameStocks s (s.unCount r) := by
  unfold State.unCount
  split
  · exact modTrack_sameStocks _ _ _ fun _ => rfl
  · exact .refl s

/-! ### One lineup changed -/

theorem State.lineup_modTrack (s : State) (a b : Aud) (t u : Track) {f : TrackRec → TrackRec}
    {g : List Nat → List Nat} (hf : ∀ r, (f r).lineup = g r.lineup) :
    (s.modTrack a t f).lineup b u =
      if b = a ∧ u = t then (s.track? a t).elim [] fun r => g r.lineup else s.lineup b u := by
  unfold State.lineup
  rw [State.track?_modTrack]
  by_cases h : b = a ∧ u = t
  · rw [if_pos h, if_pos h]
    cases s.track? a t <;> simp [hf]
  · rw [if_neg h, if_neg h]

theorem State.lineup_modCueCount (s : State) (a b : Aud) (u : Track) (f : Nat → Nat) :
    (s.modCueCount a f).lineup b u = s.lineup b u := by
  simp only [State.lineup, State.track?, State.theShow?_modCueCount]
  by_cases hb : b = a
  · subst hb
    cases s.theShow? b <;> simp
  · simp [hb]

theorem State.track?_isSome_of_mem_lineup {s : State} {a : Aud} {t : Track} {k : Nat}
    (h : k ∈ s.lineup a t) : (s.track? a t).isSome = true := by
  unfold State.lineup at h
  split at h
  · next hr => simp [hr]
  · cases h

theorem State.lineup_of_track? {s : State} {a : Aud} {t : Track} {r : TrackRec}
    (h : s.track? a t = some r) : s.lineup a t = r.lineup := by
  simp [State.lineup, h]

/-- The cue count of a show and the sum of its lineups' lengths. -/
def State.tally (s : State) (a : Aud) : Option (Nat × Nat) :=
  (s.theShow? a).map fun w => (w.cueCount, (w.tracks.map fun r => r.lineup.length).sum)

theorem State.tally_eq_stock (s : State) (a : Aud) :
    s.tally a = ((s.theShow? a).map Show.stock).map fun k => (k.1, (k.2.map List.length).sum) := by
  unfold State.tally
  cases s.theShow? a <;> simp [Show.stock, Function.comp_def]

theorem SameStocks.tally {s t : State} (h : SameStocks s t) (a : Aud) : t.tally a = s.tally a := by
  rw [State.tally_eq_stock, h a, ← State.tally_eq_stock]

theorem sum_length_modify {ls : List (List Nat)} {i : Nat} {xs : List Nat} (h : ls[i]? = some xs)
    (g : List Nat → List Nat) :
    ((ls.modify i g).map List.length).sum + xs.length
      = (ls.map List.length).sum + (g xs).length := by
  induction ls generalizing i with
  | nil => cases h
  | cons y ys ih =>
    cases i with
    | zero =>
      obtain rfl := Option.some.inj h
      simp [List.modify_zero_cons]
      omega
    | succ n =>
      have := ih h
      simp only [List.modify_succ_cons, List.map_cons, List.sum_cons]
      omega

/-- What a changed lineup makes of its show's sum. -/
theorem State.tally_modTrack {s : State} {a : Aud} {t : Track} {r : TrackRec}
    (hr : s.track? a t = some r) {f : TrackRec → TrackRec} {g : List Nat → List Nat}
    (hf : ∀ r, (f r).lineup = g r.lineup) {n m : Nat} (hn : s.tally a = some (n, m)) :
    ∃ m', (s.modTrack a t f).tally a = some (n, m')
      ∧ m' + r.lineup.length = m + (g r.lineup).length := by
  rw [State.tally_eq_stock] at hn ⊢
  rw [State.theShow?_modTrack, if_pos rfl]
  unfold State.track? at hr
  cases hw : s.theShow? a with
  | none => rw [hw] at hr; cases hr
  | some w =>
    rw [hw] at hn hr
    obtain ⟨rfl, rfl⟩ := Prod.mk.inj (Option.some.inj hn)
    have hget : w.tracks[t.val]? = some r := hr
    refine ⟨(((w.tracks.map TrackRec.lineup).modify t.val g).map List.length).sum, ?_,
      sum_length_modify (by simp [hget]) g⟩
    rw [Option.map_some, Option.map_some, Option.map_some, stock_modify w t.val hf]
    rfl

theorem State.tally_modTrack_of_ne (s : State) {a b : Aud} (h : b ≠ a) (t : Track)
    (f : TrackRec → TrackRec) : (s.modTrack a t f).tally b = s.tally b := by
  rw [State.tally, State.theShow?_modTrack_of_ne s t f h, ← State.tally]

theorem State.tally_modCueCount (s : State) (a b : Aud) (f : Nat → Nat) :
    (s.modCueCount a f).tally b =
      if b = a then (s.tally a).map fun k => (f k.1, k.2) else s.tally b := by
  unfold State.tally
  rw [State.theShow?_modCueCount]
  split
  · next hb => subst hb; cases s.theShow? b <;> rfl
  · rfl

end Sys2Proof.Machine
end


section
/-! SUPPORT. What becomes of the Notice Lists, the Repair Queues and the rotations: they stay bounded and without
repeats, and every repair entry comes from one that stood there (R108, R120, R151). Only an ASK makes one. -/

namespace Sys2Proof.Machine

/-- The cue an entry names (R120). -/
def Repair.key (e : Repair) : Aud × Track × Nat := (e.aud, e.track, e.num)

/-- `e'` is what `e` has become: the entry itself, served, or turned GONE (R121, R132). -/
structure Descends (e e' : Repair) : Prop where
  aud : e'.aud = e.aud
  track : e'.track = e.track
  num : e'.num = e.num
  content : e'.kind = .content → e.kind = .content ∧ e'.rev = e.rev

theorem Descends.refl (e : Repair) : Descends e e := ⟨rfl, rfl, rfl, fun h => ⟨h, rfl⟩⟩

theorem Descends.trans {e f g : Repair} (h : Descends e f) (h' : Descends f g) : Descends e g :=
  ⟨h'.aud.trans h.aud, h'.track.trans h.track, h'.num.trans h.num, fun hk => by
    obtain ⟨hf, hrev⟩ := h'.content hk
    obtain ⟨he, hrev'⟩ := h.content hf
    exact ⟨he, hrev.trans hrev'⟩⟩

theorem Descends.key {e f : Repair} (h : Descends e f) : f.key = e.key := by
  simp only [Repair.key, h.aud, h.track, h.num]

/-- What a lane's lists become when no entry is made: in bounds and without repeats as before, each repair entry
from one of before. -/
structure LaneFollows (x y : Lane) : Prop where
  ok : x.listsOk → y.listsOk
  repairs : ∀ e' ∈ y.repairs, ∃ e ∈ x.repairs, Descends e e'

theorem LaneFollows.refl (x : Lane) : LaneFollows x x := ⟨id, fun e he => ⟨e, he, .refl e⟩⟩

theorem LaneFollows.trans {x y z : Lane} (h : LaneFollows x y) (h' : LaneFollows y z) :
    LaneFollows x z :=
  ⟨h'.ok ∘ h.ok, fun g hg => by
    obtain ⟨f, hf, hfg⟩ := h'.repairs g hg
    obtain ⟨e, he, hef⟩ := h.repairs f hf
    exact ⟨e, he, hef.trans hfg⟩⟩

/-- The lists lose members at most. -/
theorem LaneFollows.of_sublists {x y : Lane}
    (hnotices : (y.notices.map Notice.item).Sublist (x.notices.map Notice.item))
    (hrepairs : y.repairs.Sublist x.repairs) (hrotation : y.rotation.Sublist x.rotation) :
    LaneFollows x y := by
  refine ⟨fun ⟨hn, hni, hr, hrk, hrot⟩ => ⟨?_, hni.sublist hnotices,
    hrepairs.length_le.trans hr, hrk.sublist (hrepairs.map _), hrot.sublist hrotation⟩,
    fun e he => ⟨e, hrepairs.subset he, .refl e⟩⟩
  have := hnotices.length_le
  simp only [List.length_map] at this
  omega

/-- The lists are untouched. -/
theorem LaneFollows.of_eq {x y : Lane} (hnotices : y.notices = x.notices)
    (hrepairs : y.repairs = x.repairs) (hrotation : y.rotation = x.rotation) : LaneFollows x y :=
  .of_sublists (hnotices ▸ .refl _) (hrepairs ▸ .refl _) (hrotation ▸ .refl _)

/-- Each entry is replaced by one it has become. -/
theorem LaneFollows.of_map {x y : Lane} (f : Repair → Repair) (hf : ∀ e, Descends e (f e))
    (hnotices : y.notices = x.notices) (hrepairs : y.repairs = x.repairs.map f)
    (hrotation : y.rotation = x.rotation) : LaneFollows x y := by
  refine ⟨fun ⟨hn, hni, hr, hrk, hrot⟩ => ⟨hnotices ▸ hn, hnotices ▸ hni, ?_, ?_, hrotation ▸ hrot⟩,
    fun e' he' => ?_⟩
  · rwa [hrepairs, List.length_map]
  · have hkeys : y.repairs.map Repair.key = x.repairs.map Repair.key := by
      rw [hrepairs, List.map_map]
      exact List.map_congr_left fun e _ => (hf e).key
    exact (show (y.repairs.map Repair.key).Nodup from hkeys ▸ hrk)
  · rw [hrepairs] at he'
    obtain ⟨e, he, rfl⟩ := List.mem_map.1 he'
    exact ⟨e, he, hf e⟩

theorem laneFollows_removeRepairs (x : Lane) (p : Repair → Bool) :
    LaneFollows x (x.removeRepairs p) :=
  .of_sublists (.refl _) List.filter_sublist (.refl _)

theorem laneFollows_modBuild (x : Lane) (f : Build → Build) : LaneFollows x (x.modBuild f) :=
  .of_eq rfl rfl rfl

theorem laneFollows_removeNotices (x : Lane) (p : Notice → Bool) :
    LaneFollows x (x.removeNotices p) :=
  .of_sublists (List.filter_sublist.map _) (.refl _) (.refl _)

/-! ### Both lanes -/

/-- Both lanes' lists, where no repair entry is made. -/
def ListsFollow (s t : State) : Prop := ∀ l, LaneFollows (s.lane l) (t.lane l)

theorem ListsFollow.refl (s : State) : ListsFollow s s := fun _ => .refl _

theorem ListsFollow.trans {s t u : State} (h : ListsFollow s t) (h' : ListsFollow t u) :
    ListsFollow s u := fun l => (h l).trans (h' l)

theorem ListsFollow.of_lanes {s t : State} (h : t.lanes = s.lanes) : ListsFollow s t :=
  fun l => State.lane_congr h l ▸ .refl _

theorem ListsFollow.listsOk {s t : State} (h : ListsFollow s t) (hs : ListsOk s) : ListsOk t :=
  fun l => (h l).ok (hs l)

theorem listsFollow_withLane {s : State} {l : LaneId} {x : Lane} (h : LaneFollows (s.lane l) x) :
    ListsFollow s (s.withLane l x) := by
  intro k
  rw [State.lane_withLane]
  split
  · next hk => rwa [hk]
  · exact .refl _

theorem foldl_listsFollow {β : Type} {f : State → β → State} (hf : ∀ s b, ListsFollow s (f s b))
    (xs : List β) (s : State) : ListsFollow s (xs.foldl f s) := by
  induction xs generalizing s with
  | nil => exact .refl _
  | cons x xs ih => exact (hf s x).trans (ih _)

theorem forCues_listsFollow {f : Cue → State → State} (hf : ∀ c s, ListsFollow s (f c s))
    (ks : List Nat) (s : State) : ListsFollow s (State.forCues f ks s) := by
  induction ks generalizing s with
  | nil => exact .refl _
  | cons k ks ih =>
    refine ListsFollow.trans ?_ (ih _)
    split
    · exact hf _ s
    · exact .refl s

/-! ### The operations on lists -/

/-- An added notice renews an equal one, is dropped, or joins a list with room (R108). -/
theorem addNotice_listsFollow (s : State) (l : LaneId) (i : NoticeItem) :
    ListsFollow s (s.addNotice l i).1 := by
  unfold State.addNotice
  dsimp only
  split
  · refine listsFollow_withLane (.of_sublists ?_ (.refl _) (.refl _))
    have hitems : ((s.lane l).notices.map fun n =>
        if n.item == i then { n with left := s.setting .noticeRepeat } else n).map Notice.item
        = (s.lane l).notices.map Notice.item := by
      rw [List.map_map]
      refine List.map_congr_left fun n _ => ?_
      simp only [Function.comp_apply]
      split <;> rfl
    exact hitems ▸ .refl _
  · next hnew =>
    split
    · exact .of_lanes rfl
    · next hroom =>
      refine listsFollow_withLane ⟨fun ⟨hn, hni, hr, hrk, hrot⟩ => ⟨?_, ?_, hr, hrk, hrot⟩,
        fun e he => ⟨e, he, .refl e⟩⟩
      · simp only [List.length_append, List.length_singleton]
        omega
      · rw [List.map_append, List.map_singleton]
        refine hni.append (List.nodup_singleton _) ?_
        rw [List.disjoint_singleton]
        intro hmem
        obtain ⟨n, hn, rfl⟩ := List.mem_map.1 hmem
        exact hnew (List.any_eq_true.2 ⟨n, hn, by simp⟩)

theorem removeRepairsOf_listsFollow (s : State) (a : Aud) (t : Track) (n : Nat) :
    ListsFollow s (s.removeRepairsOf a t n) := by
  unfold State.removeRepairsOf
  split
  · exact listsFollow_withLane (laneFollows_removeRepairs _ _)
  · exact .refl s

theorem descends_turnGone (e : Repair) : Descends e e.turnGone := ⟨rfl, rfl, rfl, nofun⟩

theorem turnRepairsGone_listsFollow (s : State) (a : Aud) (t : Track) (n : Nat) :
    ListsFollow s (s.turnRepairsGone a t n) := by
  unfold State.turnRepairsGone
  split
  · refine listsFollow_withLane
      (.of_map (fun e => if e.names a t n then e.turnGone else e) (fun e => ?_) rfl rfl rfl)
    split
    · exact descends_turnGone e
    · exact .refl e
  · exact .refl s

theorem forgetInLane_listsFollow (s : State) (c : Cue) : ListsFollow s (forgetInLane c s) := by
  unfold forgetInLane
  split
  · exact listsFollow_withLane (.of_eq rfl rfl rfl)
  · exact .refl s

theorem freeCue_listsFollow (s : State) (c : Cue) : ListsFollow s (s.freeCue c) := by
  rw [State.freeCue_eq]
  exact ((ListsFollow.of_lanes (outOfTable_lanes s c)).trans
    (forgetInLane_listsFollow (outOfTable c s) c)).trans (.of_lanes (by simp))

theorem retire_listsFollow (s : State) (c : Cue) : ListsFollow s (s.retire c) :=
  (freeCue_listsFollow s c).trans (turnRepairsGone_listsFollow _ _ _ _)

theorem reWaitCue_listsFollow (s : State) (c : Cue) : ListsFollow s (reWaitCue c s) := by
  unfold reWaitCue
  dsimp only
  split
  · split
    · exact ListsFollow.trans (t := s.putCue _) (ListsFollow.of_lanes rfl)
        (listsFollow_withLane (laneFollows_removeRepairs _ _))
    · exact .of_lanes rfl
  · exact .refl s

theorem addSection_listsFollow (s : State) (l : LaneId) (i : BufId) (x : Section) :
    ListsFollow s (s.addSection l i x) := by
  unfold State.addSection
  dsimp only
  split
  · exact listsFollow_withLane (by cases i <;> exact .of_eq rfl rfl rfl)
  · exact .refl s

theorem SameRepair.descends {e e' : Repair} (h : SameRepair e e') : Descends e e' :=
  ⟨h.aud, h.track, h.num, fun hk => ⟨h.kind ▸ hk, h.rev⟩⟩

/-- An entry further on in its service stands in its place (R120). -/
theorem putRepair_listsFollow (s : State) {l : LaneId} {k : Nat} {e e' : Repair}
    (he : (s.lane l).repairs[k]? = some e) (h : SameRepair e e') :
    ListsFollow s (s.putRepair l k (some e')) := by
  have hkeys : ((s.lane l).repairs.set k e').map Repair.key = (s.lane l).repairs.map Repair.key := by
    rw [List.map_set, h.descends.key]
    refine List.ext_getElem? fun j => ?_
    rw [List.getElem?_set]
    split
    · next hj =>
      subst hj
      have hlt := (List.getElem?_eq_some_iff.1 he).1
      rw [if_pos (by simpa using hlt), List.getElem?_map, he]
      rfl
    · rfl
  refine listsFollow_withLane ⟨fun ⟨hn, hni, hr, hrk, hrot⟩ => ⟨hn, hni, ?_, ?_, hrot⟩,
    fun f hf => ?_⟩
  · simpa using hr
  · exact (show (((s.lane l).repairs.set k e').map Repair.key).Nodup from hkeys ▸ hrk)
  · obtain hf | rfl := List.mem_or_eq_of_mem_set hf
    · exact ⟨f, hf, .refl f⟩
    · exact ⟨e, List.mem_of_getElem? he, h.descends⟩

theorem dropRepair_listsFollow (s : State) (l : LaneId) (k : Nat) :
    ListsFollow s (s.putRepair l k none) :=
  listsFollow_withLane (.of_sublists (.refl _) (List.eraseIdx_sublist _ _) (.refl _))

/-- A record joins a rotation's tail, and stands there once (R151). -/
theorem rotAppend_listsFollow (s : State) (l : LaneId) (i : RxIdx) :
    ListsFollow s (s.rotAppend l i) := by
  refine listsFollow_withLane ⟨fun ⟨hn, hni, hr, hrk, hrot⟩ => ⟨hn, hni, hr, hrk, ?_⟩,
    fun e he => ⟨e, he, .refl e⟩⟩
  refine (hrot.filter _).append (List.nodup_singleton _) ?_
  rw [List.disjoint_singleton]
  simp

theorem rotRemove_listsFollow (s : State) (l : LaneId) (i : RxIdx) :
    ListsFollow s (s.rotRemove l i) :=
  listsFollow_withLane (.of_sublists (.refl _) (.refl _) List.filter_sublist)

theorem announcePlaced_listsFollow (s : State) (l : LaneId) (f : FrameNo) (i : RxIdx) :
    ListsFollow s (announcePlaced l f i s) := by
  unfold announcePlaced
  dsimp only
  split
  · split
    · exact (rotAppend_listsFollow s l i).trans (.of_lanes rfl)
    · exact rotAppend_listsFollow s l i
  · exact .refl s

theorem tick_listsFollow {jump : Bool} {s t : State} (h : Tick jump s t) : ListsFollow s t := by
  cases h with
  | retire => exact retire_listsFollow _ _
  | reWait => exact reWaitCue_listsFollow _ _
  | placed => exact addSection_listsFollow _ _ _ _
  | build => exact listsFollow_withLane (.of_eq rfl rfl rfl)
  | notices hsub => exact listsFollow_withLane (.of_sublists hsub (.refl _) (.refl _))
  | unrepair => exact dropRepair_listsFollow _ _ _
  | repair he hsame => exact putRepair_listsFollow _ he hsame
  | announced => exact announcePlaced_listsFollow _ _ _ _
  | _ => exact .of_lanes (by simp)

theorem Ticks.listsFollow {jump : Bool} {s t : State} (h : Ticks jump s t) : ListsFollow s t :=
  h.keeps (I := ListsFollow s) (fun _ _ hs ht => hs.trans (tick_listsFollow ht)) (.refl s)

/-! ### The requests and the uplink -/

theorem placeAtOpen_listsFollow (s : State) (l : LaneId) (r : RxRec) :
    ListsFollow s (placeAtOpen l r s) := by
  unfold placeAtOpen
  split
  · exact .refl s
  · exact rotAppend_listsFollow _ _ _

theorem rePlace_listsFollow (s : State) (a : Aud) (l : LaneId) :
    ListsFollow s (rePlace a l s) := by
  refine foldl_listsFollow (fun s r => ?_) _ s
  rw [rePlaceOne_eq]
  dsimp only
  have hput : ListsFollow s (s.putRx (reJoined a l s r)) := .of_lanes rfl
  split
  · exact hput
  · have hplaced := hput.trans (placeAtOpen_listsFollow _ l (reJoined a l s r))
    split
    · exact hplaced
    · exact hplaced.trans (rotRemove_listsFollow _ _ _)

theorem openShow_listsFollow (s : State) (q : ShowOpenReq) : ListsFollow s (openShow q s) :=
  (ListsFollow.of_lanes (by simp)).trans
    (rePlace_listsFollow (recountTracks q.aud (recountFlags q.aud (beginRun q s))) _ _)

theorem clearTraffic_listsFollow (s : State) (a : Aud) (l : LaneId) :
    ListsFollow s (clearTraffic a l s) :=
  listsFollow_withLane (((laneFollows_modBuild _ _).trans (laneFollows_removeRepairs _ _)).trans
    (laneFollows_removeNotices _ _))

theorem emptyShow_listsFollow (s : State) (a : Aud) (l : LaneId) :
    ListsFollow s (emptyShow a l s) :=
  (clearTraffic_listsFollow s a l).trans
    (forCues_listsFollow (fun c s => freeCue_listsFollow s c) _ _)

theorem closeShow_listsFollow (s : State) (a : Aud) (l : LaneId) :
    ListsFollow s (closeShow a l s) :=
  (emptyShow_listsFollow s a l).trans (.of_lanes (by simp [closeShow]))

theorem forgetInBuild_listsFollow (s : State) (a : Aud) : ListsFollow s (forgetInBuild a s) := by
  unfold forgetInBuild
  split
  · exact listsFollow_withLane (.of_eq rfl rfl rfl)
  · exact .refl s

theorem purgeRepairs_listsFollow (s : State) (a : Aud) : ListsFollow s (purgeRepairs a s) := by
  unfold purgeRepairs
  split
  · exact listsFollow_withLane (laneFollows_removeRepairs _ _)
  · exact .refl s

theorem jumpEffects_listsFollow (s : State) (a : Aud) (p : Nat) :
    ListsFollow s (jumpEffects a p s) := by
  unfold jumpEffects
  dsimp only
  exact ((ListsFollow.of_lanes (by simp)).trans (forgetInBuild_listsFollow _ a)).trans
    ((jumpCues_ticks a p _).listsFollow.trans (purgeRepairs_listsFollow _ a))

theorem reportTaken_listsFollow (s : State) (q : ReportReq) : ListsFollow s (reportTaken q s) := by
  have hacted : ListsFollow s (reportActed q s) := .of_lanes (by simp [reportActed])
  by_cases hjump : (effectOf q s).outcome = .jump
  · rw [reportTaken_of_jump hjump]
    exact (hacted.trans (jumpEffects_listsFollow _ q.aud q.pos)).trans (.of_lanes (by simp))
  · rw [reportTaken_of_noJump hjump]
    exact hacted.trans (.of_lanes (by simp))

theorem doPost_listsFollow (s : State) (q : CuePostReq) (slot : Nat) :
    ListsFollow s (doPost q slot s).1 := by
  unfold doPost
  dsimp only
  exact ListsFollow.trans (ListsFollow.of_lanes (by simp)) (removeRepairsOf_listsFollow _ _ _ _)

theorem doRevise_listsFollow (s : State) (x : CueBody) (c : Cue) :
    ListsFollow s (doRevise x c s).1 := by
  unfold doRevise
  dsimp only
  refine ListsFollow.trans (ListsFollow.of_lanes ?_) (removeRepairsOf_listsFollow _ _ _ _)
  split <;> simp

theorem withdrawNotice_listsFollow (s : State) (c : Cue) :
    ListsFollow s (withdrawNotice c s).1 := by
  unfold withdrawNotice
  split
  · split
    · exact addNotice_listsFollow _ _ _
    · exact .refl s
  · exact .refl s

theorem withdrawCue_listsFollow (s : State) (c : Cue) : ListsFollow s (withdrawCue c s) :=
  ((withdrawNotice_listsFollow s c).trans (turnRepairsGone_listsFollow _ _ _ _)).trans
    (freeCue_listsFollow _ c)

theorem doIssue_listsFollow (s : State) (r : RxRec) : ListsFollow s (doIssue r s) := by
  unfold doIssue
  dsimp only
  refine ListsFollow.trans ?_ (tellIfRisen_ticks (jump := false) _ _ _ _).listsFollow
  split
  · exact ListsFollow.trans (ListsFollow.of_lanes (by simp)) (rotAppend_listsFollow _ _ _)
  · exact .of_lanes (by simp)

theorem placeInRotation_listsFollow (s : State) (l : LaneId) (i : RxIdx) :
    ListsFollow s (placeInRotation l i s) := by
  unfold placeInRotation
  dsimp only
  split
  · exact (rotAppend_listsFollow s l i).trans (.of_lanes rfl)
  · exact rotAppend_listsFollow s l i

theorem moveRotations_listsFollow (s : State) (q : RxMoveReq) (i : RxIdx) (a : Aud) :
    ListsFollow s (moveRotations q i a s) := by
  unfold moveRotations
  dsimp only
  have hremoved := (rotRemove_listsFollow s .A i).trans (rotRemove_listsFollow _ .B i)
  split
  · split
    · exact (hremoved.trans (placeInRotation_listsFollow _ _ _)).trans
        (placeInRotation_listsFollow _ _ _)
    · exact hremoved.trans (placeInRotation_listsFollow _ _ _)
  · exact hremoved

theorem doMove_listsFollow (s : State) (q : RxMoveReq) (r : RxRec) :
    ListsFollow s (doMove q r s) := by
  unfold doMove
  dsimp only
  exact ((ListsFollow.of_lanes (by simp)).trans (moveRotations_listsFollow _ _ _ _)).trans
    (tellIfRisen_ticks (jump := false) _ _ _ _).listsFollow

theorem releaseNotice_listsFollow (s : State) (w : Bool) (r : RxRec) (l : LaneId) :
    ListsFollow s (releaseNotice w r l s).1 := by
  unfold releaseNotice
  split
  · exact addNotice_listsFollow _ _ _
  · exact .refl s

theorem returnRx_listsFollow (s : State) (r : RxRec) : ListsFollow s (returnRx r s) := by
  have hleft : ListsFollow s (leaveRoster r s) :=
    (ListsFollow.of_lanes (by simp)).trans
      ((rotRemove_listsFollow (s.unCount r) .A r.index).trans (rotRemove_listsFollow _ .B r.index))
  exact (hleft.trans (releaseNotice_listsFollow _ _ r .A)).trans
    ((releaseNotice_listsFollow _ _ r .B).trans (.of_lanes rfl))

theorem enterLost_listsFollow (s : State) (r : RxRec) (why : LossReason) :
    ListsFollow s (enterLost r why s) := by
  intro l
  rw [lane_enterLost]
  exact .of_sublists (.refl _) (.refl _) List.filter_sublist

theorem rejoin_listsFollow (s : State) (l : LaneId) (r : RxRec) : ListsFollow s (rejoin l r s) := by
  have hplaced := rotAppend_listsFollow s (laneOrArrival s r l) r.index
  unfold rejoin
  dsimp only
  split
  · exact (hplaced.trans (.of_lanes (by simp))).trans
      (tellIfRisen_ticks (jump := false) _ _ _ _).listsFollow
  · exact hplaced

theorem takeCheckin_listsFollow (s : State) (l : LaneId) (m : CheckinMsg) :
    ListsFollow s (takeCheckin l m s) := by
  have hstray : ListsFollow s (strayCheckin l m s) := by
    unfold strayCheckin
    exact (addNotice_listsFollow s l _).trans (.of_lanes rfl)
  unfold takeCheckin
  split
  · split
    · unfold heardCheckin
      dsimp only
      split
      any_goals exact .of_lanes rfl
      · exact (ListsFollow.of_lanes rfl).trans (rejoin_listsFollow (s.putRx _) _ _)
      · split
        · exact (ListsFollow.of_lanes rfl).trans (rotRemove_listsFollow (s.putRx _) _ _)
        · exact .of_lanes rfl
    · exact hstray
  · exact hstray

/-! ### The lanes -/

theorem beginBuild_listsFollow (s : State) (l : LaneId) : ListsFollow s (s.beginBuild l) := by
  unfold State.beginBuild
  dsimp only
  split
  · split
    · next i _ => exact listsFollow_withLane (by cases i <;> exact .of_eq rfl rfl rfl)
    · exact .refl s
  · exact .refl s

theorem faultLane_listsFollow (s : State) (l : LaneId) : ListsFollow s (s.faultLane l) :=
  (listsFollow_withLane (l := l) (x := { (s.lane l).abandon with state := .fault })
    (.of_eq rfl rfl rfl)).trans (.of_lanes (by simp [State.faultLane]))

theorem stopLane_listsFollow (s : State) (l : LaneId) : ListsFollow s (stopLane l s) :=
  (listsFollow_withLane (l := l)
    (x := { (s.lane l).abandon with state := .stopped, missed := 0, notices := [], repairs := [] })
    (.of_sublists (List.nil_sublist _) (List.nil_sublist _) (.refl _))).trans
    (.of_lanes (by simp [stopLane]))

theorem startLane_listsFollow (s : State) (l : LaneId) : ListsFollow s (startLane l s) := by
  unfold startLane
  dsimp only
  refine ListsFollow.trans ?_ (beginBuild_listsFollow _ l)
  refine ListsFollow.trans ?_ (.of_lanes (clearMarks_lanes _ _))
  exact listsFollow_withLane (.of_eq rfl rfl rfl)

theorem cutBuild_listsFollow (s : State) (l : LaneId) (i : BufId) :
    ListsFollow s (cutBuild l i s) := by
  unfold cutBuild
  dsimp only
  refine ListsFollow.trans (listsFollow_withLane (s := s) (l := l) ?_) (.of_lanes (by simp; rfl))
  split
  · cases i <;> exact .of_eq rfl rfl rfl
  · exact .of_eq rfl rfl rfl

theorem airBuffer_listsFollow (s : State) (l : LaneId) (i : BufId) :
    ListsFollow s (airBuffer l i s) := by
  unfold airBuffer
  split
  · exact listsFollow_withLane (by cases i <;> exact .of_eq rfl rfl rfl)
  · exact .refl s

theorem airAtBoundary_listsFollow (s : State) (l : LaneId) :
    ListsFollow s (airAtBoundary l s) := by
  obtain ⟨i, -, ⟨-, h⟩ | ⟨-, h⟩⟩ | ⟨-, ⟨i, -, -, h⟩ | ⟨-, h⟩⟩ := airAtBoundary_cases l s <;> rw [h]
  · exact (cutBuild_listsFollow s l i).trans (airBuffer_listsFollow _ l i)
  · exact (cutBuild_listsFollow s l i).trans (.of_lanes rfl)
  · exact airBuffer_listsFollow s l i
  · exact .of_lanes rfl

theorem runningBoundary_listsFollow (s : State) (l : LaneId) :
    ListsFollow s (runningBoundary l s) := by
  have hcount : ListsFollow s (countBoundary l s) := listsFollow_withLane (.of_eq rfl rfl rfl)
  rw [runningBoundary_eq]
  split
  · exact (hcount.trans (faultLane_listsFollow _ l)).trans
      (stoppedPass_ticks (jump := false) l _ _).listsFollow
  · exact (hcount.trans (airAtBoundary_listsFollow _ l)).trans (beginBuild_listsFollow _ l)

theorem completeBuild_listsFollow (s : State) (l : LaneId) :
    ListsFollow s (completeBuild l s) := by
  unfold completeBuild
  dsimp only
  split
  · next b _ =>
    split
    · exact listsFollow_withLane (by cases b.buf <;> exact .of_eq rfl rfl rfl)
    · exact .refl s
  · exact .refl s

/-- Every command but an ASK and a reset keeps the lists, and makes no repair entry. -/
theorem acts_listsFollow {c : Instr} {s u : State} (hask : ∀ l msg, c ≠ .ask l msg)
    (hleave : c ≠ .leaveReset) (hrestart : c ≠ .restart) (h : Acts c s u) : ListsFollow s u := by
  cases h with
  | leaveReset => exact absurd rfl hleave
  | restart => exact absurd rfl hrestart
  | askTaken => exact absurd rfl (hask _ _)
  | showOpen => exact openShow_listsFollow _ _
  | showClose => exact closeShow_listsFollow _ _ _
  | timelineReport => exact reportTaken_listsFollow _ _
  | cuePost => exact doPost_listsFollow _ _ _
  | cueRevise => exact doRevise_listsFollow _ _ _
  | cueWithdraw => exact withdrawCue_listsFollow _ _
  | rxIssue => exact doIssue_listsFollow _ _
  | rxMove => exact doMove_listsFollow _ _ _
  | rxReturn => exact returnRx_listsFollow _ _
  | joinExpires => exact enterLost_listsFollow _ _ _
  | lossExpires => exact enterLost_listsFollow _ _ _
  | checkin => exact takeCheckin_listsFollow _ _ _
  | laneStart => exact startLane_listsFollow _ _
  | laneStop => exact stopLane_listsFollow _ _
  | runningBoundary => exact runningBoundary_listsFollow (boundaryTaken _ s) _
  | unservedBoundary =>
    exact (stoppedPass_ticks (jump := false) _ _ (boundaryTaken _ s)).listsFollow
  | @buildComplete l =>
    exact (finishBuild_ticks (jump := false) l s).listsFollow.trans (completeBuild_listsFollow _ l)
  | @sent l _ i =>
    refine ListsFollow.trans ?_ (beginBuild_listsFollow _ l)
    refine ListsFollow.trans ?_ (.of_lanes (State.countLane_lanes _ _ _))
    exact listsFollow_withLane (by cases i <;> exact .of_eq rfl rfl rfl)
  | rfReleased => exact listsFollow_withLane (.of_eq rfl rfl rfl)
  | rfReleasedFault =>
    refine ListsFollow.trans ?_ (faultLane_listsFollow _ _)
    exact listsFollow_withLane (.of_eq rfl rfl rfl)
  | rfAsserted => exact listsFollow_withLane (.of_eq rfl rfl rfl)
  | buildProgress => exact (buildUnit_ticks (jump := false) _ s).listsFollow
  | _ => exact .of_lanes (by simp)

end Sys2Proof.Machine
end


section
/-! SUPPORT. What becomes of the Cue Table, the shows and the lists by most commands: the elementary changes of a
build, a pass or a jump, and changes that leave the table alone. -/

namespace Sys2Proof.Machine

/-- A change that leaves the Cue Table, the lineups and cue counts and which auditoriums are OPEN, and makes no
repair entry. -/
structure Aside (s t : State) : Prop where
  stocks : SameStocks s t
  table : t.table = s.table
  opens : SameOpens s t
  lists : ListsFollow s t

theorem Aside.of_same {s t : State} (hdir : t.directory = s.directory) (htable : t.table = s.table)
    (hlists : ListsFollow s t) : Aside s t :=
  ⟨.of_directory hdir, htable, .of_directory hdir, hlists⟩

theorem Aside.of_lanes {s t : State} (hdir : t.directory = s.directory) (htable : t.table = s.table)
    (hlanes : t.lanes = s.lanes) : Aside s t :=
  .of_same hdir htable (.of_lanes hlanes)

theorem Aside.trans {s t u : State} (h : Aside s t) (h' : Aside t u) : Aside s u :=
  ⟨h.stocks.trans h'.stocks, h'.table.trans h.table, h.opens.trans h'.opens, h.lists.trans h'.lists⟩

/-- From `s` to `t` the Cue Table changes only as builds, passes and, where `jump` says so, jumps change it. -/
inductive Drifts (jump : Bool) : State → State → Prop
  | refl {s : State} : Drifts jump s s
  | aside {s t u : State} (h : Drifts jump s t) (h' : Aside t u) : Drifts jump s u
  | tick {s t u : State} (h : Drifts jump s t) (ht : Tick jump t u) : Drifts jump s u

section
variable {jump : Bool}

theorem Drifts.keeps {I : State → Prop} (haside : ∀ s t, I s → Aside s t → I t)
    (htick : ∀ s t, I s → Tick jump s t → I t) {s t : State} (h : Drifts jump s t) (hs : I s) :
    I t := by
  induction h with
  | refl => exact hs
  | aside _ h' ih => exact haside _ _ ih h'
  | tick _ ht ih => exact htick _ _ ih ht

theorem Drifts.trans {s t u : State} (h : Drifts jump s t) (h' : Drifts jump t u) :
    Drifts jump s u :=
  h'.keeps (I := Drifts jump s) (fun _ _ hs h' => hs.aside h') (fun _ _ hs ht => hs.tick ht) h

theorem Aside.drifts {s t : State} (h : Aside s t) : Drifts jump s t := .aside .refl h

theorem Ticks.drifts {s t : State} (h : Ticks jump s t) : Drifts jump s t :=
  h.keeps (I := Drifts jump s) (fun _ _ hs ht => hs.tick ht) .refl

theorem tellIfRisen_drifts (s : State) (a : Aud) (t : Track) (n : Nat) :
    Drifts jump s (s.tellIfRisen a t n) :=
  (tellIfRisen_ticks a t n s).drifts

theorem countUp_aside (s : State) (a : Aud) (t : Track) : Aside s (s.countUp a t) :=
  ⟨countUp_sameStocks s a t, by simp, countUp_sameOpens s a t, .of_lanes (by simp)⟩

theorem unCount_aside (s : State) (r : RxRec) : Aside s (s.unCount r) :=
  ⟨unCount_sameStocks s r, by simp, unCount_sameOpens s r, .of_lanes (by simp)⟩

theorem doIssue_drifts (s : State) (r : RxRec) : Drifts jump s (doIssue r s) := by
  unfold doIssue
  dsimp only
  refine Drifts.trans (Aside.drifts ?_) (tellIfRisen_drifts _ _ _ _)
  have hjoined : Aside s { s with roster := insertRx r s.roster } := .of_lanes rfl rfl rfl
  have hcount := hjoined.trans (countUp_aside _ r.aud r.track)
  split
  · exact hcount.trans (.of_same rfl rfl (rotAppend_listsFollow _ _ _))
  · exact hcount

theorem doMove_drifts (s : State) (q : RxMoveReq) (r : RxRec) : Drifts jump s (doMove q r s) := by
  unfold doMove
  dsimp only
  refine Drifts.trans (Aside.drifts ?_) (tellIfRisen_drifts _ _ _ _)
  have hput : Aside s ((s.unCount r).putRx (movedRec q r s)) :=
    (unCount_aside s r).trans (.of_lanes rfl rfl rfl)
  exact (hput.trans (countUp_aside _ q.aud q.track)).trans
    (.of_same (by simp) (by simp) (moveRotations_listsFollow _ _ _ _))

theorem returnRx_aside (s : State) (r : RxRec) : Aside s (returnRx r s) := by
  refine ⟨(unCount_sameStocks s r).trans (.of_directory ?_), by simp, returnRx_sameOpens s r,
    returnRx_listsFollow s r⟩
  simp [returnRx, leaveRoster]

theorem enterLost_aside (s : State) (r : RxRec) (why : LossReason) : Aside s (enterLost r why s) :=
  ⟨(unCount_sameStocks s r).trans (.of_directory (enterLost_directory s r why)), by simp,
    enterLost_sameOpens s r why, enterLost_listsFollow s r why⟩

theorem rejoin_drifts (s : State) (l : LaneId) (r : RxRec) : Drifts jump s (rejoin l r s) := by
  have hplaced : Aside s (s.rotAppend (laneOrArrival s r l) r.index) :=
    .of_same rfl rfl (rotAppend_listsFollow _ _ _)
  unfold rejoin
  dsimp only
  split
  · exact (hplaced.trans (countUp_aside _ _ _)).drifts.trans (tellIfRisen_drifts _ _ _ _)
  · exact hplaced.drifts

theorem takeCheckin_drifts (s : State) (l : LaneId) (m : CheckinMsg) :
    Drifts jump s (takeCheckin l m s) := by
  have hstray : Aside s (strayCheckin l m s) := by
    unfold strayCheckin
    exact Aside.trans (Aside.of_same (by simp) (by simp) (addNotice_listsFollow s l _))
      (.of_lanes rfl rfl rfl)
  unfold takeCheckin
  split
  · split
    · unfold heardCheckin
      dsimp only
      split
      any_goals exact Aside.drifts (.of_lanes rfl rfl rfl)
      · exact Drifts.trans (t := s.putRx _) (Aside.drifts (.of_lanes rfl rfl rfl)) (rejoin_drifts _ _ _)
      · split
        · refine Aside.drifts (.of_same (by simp) (by simp) ?_)
          exact ListsFollow.trans (.of_lanes rfl) (rotRemove_listsFollow (s.putRx _) _ _)
        · exact Aside.drifts (.of_lanes rfl rfl rfl)
    · exact hstray.drifts
  · exact hstray.drifts

theorem runningBoundary_drifts (s : State) (l : LaneId) :
    Drifts jump s (runningBoundary l s) := by
  have hcount : Aside s (countBoundary l s) :=
    .of_same rfl rfl (listsFollow_withLane (.of_eq rfl rfl rfl))
  rw [runningBoundary_eq]
  split
  · exact (hcount.trans (.of_same (by simp) (by simp) (faultLane_listsFollow _ l))).drifts.trans
      (stoppedPass_ticks l s.clock.time ((countBoundary l s).faultLane l)).drifts
  · exact ((hcount.trans (.of_same (by simp) (by simp) (airAtBoundary_listsFollow _ l))).trans
      (.of_same (by simp) (by simp) (beginBuild_listsFollow _ l))).drifts

end

theorem recountTracks_sameStocks (s : State) (a : Aud) : SameStocks s (recountTracks a s) :=
  foldl_modTrack_sameStocks (g := fun s t w => { w with listeners := recountOf s a t })
    (fun _ _ _ => rfl) a allTracks s

theorem reportActed_aside (s : State) (q : ReportReq) : Aside s (reportActed q s) :=
  .of_lanes (by simp [reportActed]) (by simp [reportActed]) (by simp [reportActed])

theorem reportTaken_drifts (s : State) (q : ReportReq) : Drifts true s (reportTaken q s) := by
  have hacted : Drifts true s (reportActed q s) := (reportActed_aside s q).drifts
  by_cases hjump : (effectOf q s).outcome = .jump
  · rw [reportTaken_of_jump hjump]
    unfold jumpEffects
    dsimp only
    have hlatched : Aside (reportActed q s)
        (((reportActed q s).latch .tlJump (.aud q.aud)).countAud q.aud .jumps) := .of_lanes rfl rfl rfl
    have hforgot := hlatched.trans
      (.of_same (by simp) (by simp) (forgetInBuild_listsFollow _ q.aud))
    have hjumped := (hacted.aside hforgot).trans (jumpCues_ticks q.aud q.pos _).drifts
    have hpurged := hjumped.aside
      (.of_same (by simp) (by simp) (purgeRepairs_listsFollow _ q.aud))
    exact hpurged.aside (.of_lanes (by simp) (by simp) (by simp))
  · rw [reportTaken_of_noJump hjump]
    exact hacted.aside (.of_lanes (by simp) (by simp) (by simp))

/-- The commands that change the Cue Table no otherwise than a build or a jump does, and make no repair entry. -/
def driftsOnly : Instr → Bool
  | .showOpen | .showClose | .cuePost | .cueData | .cueRevise | .cueWithdraw | .leaveReset
  | .restart | .ask _ _ => false
  | _ => true

theorem driftsOnly_lists {c : Instr} {s u : State} (hc : driftsOnly c = true) (h : Acts c s u) :
    ListsFollow s u := by
  have hne : ∀ d, driftsOnly d = false → c ≠ d := by
    rintro d hd rfl
    rw [hc] at hd
    cases hd
  exact acts_listsFollow (fun _ _ => hne _ rfl) (hne _ rfl) (hne _ rfl) h

theorem acts_drifts {jump : Bool} {c : Instr} {s u : State} (hc : driftsOnly c = true)
    (hj : jump = true ∨ c ≠ .timelineReport) (h : Acts c s u) : Drifts jump s u := by
  have hlists := driftsOnly_lists hc h
  cases h with
  | showOpen | showClose | cuePost | cueData | cueRevise | cueWithdraw | leaveReset | restart
  | askTaken | askIgnored => cases hc
  | showWindow =>
    refine Aside.drifts ⟨?_, by simp, modTrack_sameOpens _ _ _ _, hlists⟩
    exact modTrack_sameStocks _ _ _ fun _ => rfl
  | timelineReport =>
    obtain rfl := hj.resolve_right (by simp)
    exact reportTaken_drifts _ _
  | rxIssue => exact doIssue_drifts _ _
  | rxMove => exact doMove_drifts _ _ _
  | rxReturn => exact (returnRx_aside _ _).drifts
  | joinExpires => exact (enterLost_aside _ _ _).drifts
  | lossExpires => exact (enterLost_aside _ _ _).drifts
  | @runningBoundary l _ =>
    exact Drifts.trans (t := boundaryTaken l s) (Aside.drifts (.of_lanes rfl rfl rfl))
      (runningBoundary_drifts _ l)
  | @unservedBoundary l _ =>
    exact Drifts.trans (t := boundaryTaken l s) (Aside.drifts (.of_lanes rfl rfl rfl))
      (stoppedPass_ticks l s.clock.time (boundaryTaken l s)).drifts
  | @buildComplete l =>
    exact (finishBuild_ticks l s).drifts.aside
      (.of_same (by simp) (by simp) (completeBuild_listsFollow _ l))
  | checkin => exact takeCheckin_drifts _ _ _
  | buildProgress => exact (buildUnit_ticks _ s).drifts
  | _ => exact (Aside.of_same (by simp) (by simp) hlists).drifts

end Sys2Proof.Machine
end


section
/-! PROOFS. Every step keeps the cue records, the lineups, the cue counts and the payload blocks in accord (R12,
R45, R46, R48, R50). -/

namespace Sys2Proof.Machine

/-! ### The accord, taken apart -/

theorem counts_iff (s : State) :
    (∀ a w, s.theShow? a = some w → w.cueCount = (w.tracks.map fun r => r.lineup.length).sum)
      ↔ ∀ a n m, s.tally a = some (n, m) → n = m := by
  constructor
  · intro h a n m hn
    obtain ⟨w, hw, hpair⟩ := Option.map_eq_some_iff.1 hn
    obtain ⟨rfl, rfl⟩ := Prod.mk.inj hpair
    exact h a w hw
  · intro h a w hw
    exact h a _ _ (by rw [State.tally, hw]; rfl)

/-- The accord speaks of the cues, the free blocks, the lineups and the cue counts alone. -/
theorem cueTableOk_of_stocks {s t : State} (h : CueTableOk s) (hstocks : SameStocks s t)
    (hcues : t.table.cues = s.table.cues) (hfree : t.table.free = s.table.free) : CueTableOk t := by
  obtain ⟨hslots, hshape, hnodup, hmem, hcount, hperm⟩ := h
  refine ⟨by rwa [hcues], by rwa [hcues], fun a u => ?_, fun a u k => ?_, ?_, by rwa [hcues, hfree]⟩
  · rw [hstocks.lineup]
    exact hnodup a u
  · rw [hstocks.lineup, hcues]
    exact hmem a u k
  · rw [counts_iff] at hcount ⊢
    intro a n m hn
    exact hcount a n m (hstocks.tally a ▸ hn)

theorem CueTableOk.mem_lineup_iff {s : State} (h : CueTableOk s) {a : Aud} {u : Track} {k : Nat} :
    k ∈ s.lineup a u ↔ ∃ c ∈ s.table.cues, c.slot = k ∧ c.aud = a ∧ c.track = u := by
  obtain ⟨-, -, -, hmem, -⟩ := h
  exact hmem a u k

theorem CueTableOk.counts {s : State} (h : CueTableOk s) :
    ∀ a n m, s.tally a = some (n, m) → n = m := by
  obtain ⟨-, -, -, -, hcount, -⟩ := h
  exact (counts_iff s).1 hcount

theorem CueTableOk.shape {s : State} (h : CueTableOk s) {c : Cue} (hc : c ∈ s.table.cues) :
    c.slot < Config.cueSlots ∧ c.blocks.length = blocksFor c.declared ∧ c.fill ≤ c.declared := by
  obtain ⟨-, hshapes, -⟩ := h
  exact hshapes c hc

theorem mem_of_cueAt {s : State} {k : Nat} {c : Cue} (h : s.cueAt k = some c) :
    c ∈ s.table.cues := List.mem_of_find?_eq_some h

theorem CueTableOk.cueAt_of_mem {s : State} (h : CueTableOk s) {c : Cue} (hc : c ∈ s.table.cues) :
    s.cueAt c.slot = some c := by
  cases hfind : s.cueAt c.slot with
  | none =>
    have := List.find?_eq_none.1 hfind c hc
    simp at this
  | some d => rw [h.eq_of_slot_eq hc (mem_of_cueAt hfind) (slot_of_cueAt hfind)]

/-- The table around one of its cues. -/
theorem CueTableOk.split {s : State} (h : CueTableOk s) {c : Cue} (hc : c ∈ s.table.cues) :
    ∃ pre post, s.table.cues = pre ++ c :: post ∧ ∀ x ∈ pre ++ post, x.slot ≠ c.slot := by
  obtain ⟨pre, post, hsplit⟩ := List.append_of_mem hc
  obtain ⟨hslots, -⟩ := h
  refine ⟨pre, post, hsplit, fun x hx heq => ?_⟩
  have hnodup : ((pre ++ c :: post).map Cue.slot).Nodup := hsplit ▸ hslots.imp Nat.ne_of_lt
  rw [List.map_append, List.map_cons, List.nodup_middle, List.nodup_cons] at hnodup
  rw [← List.map_append, ← heq] at hnodup
  exact hnodup.1 (List.mem_map_of_mem hx)

/-- A record written back replaces the one in its slot. -/
theorem putCue_split {s : State} {c c' : Cue} {pre post : List Cue} (hslot : c'.slot = c.slot)
    (hsplit : s.table.cues = pre ++ c :: post) (hne : ∀ x ∈ pre ++ post, x.slot ≠ c.slot) :
    (s.putCue c').table.cues = pre ++ c' :: post := by
  have hkeep (xs : List Cue) (hxs : ∀ x ∈ xs, x.slot ≠ c.slot) :
      xs.map (fun x => if x.slot == c'.slot then c' else x) = xs := by
    conv_rhs => rw [← List.map_id xs]
    exact List.map_congr_left fun x hx => if_neg (by simpa [hslot] using hxs x hx)
  have hpre := hkeep pre fun x hx => hne x (List.mem_append_left _ hx)
  have hpost := hkeep post fun x hx => hne x (List.mem_append_right _ hx)
  show s.table.cues.map _ = _
  rw [hsplit, List.map_append, List.map_cons, hpre, hpost]
  simp [hslot]

/-- A freed record leaves the rest. -/
theorem filter_split {cues pre post : List Cue} {c : Cue} (hsplit : cues = pre ++ c :: post)
    (hne : ∀ x ∈ pre ++ post, x.slot ≠ c.slot) :
    cues.filter (fun x => x.slot != c.slot) = pre ++ post := by
  have hkeep (xs : List Cue) (hxs : ∀ x ∈ xs, x.slot ≠ c.slot) :
      xs.filter (fun x => x.slot != c.slot) = xs :=
    List.filter_eq_self.2 fun x hx => by simpa using hxs x hx
  rw [hsplit, List.filter_append, List.filter_cons_of_neg (by simp),
    hkeep pre fun x hx => hne x (List.mem_append_left _ hx),
    hkeep post fun x hx => hne x (List.mem_append_right _ hx)]

/-! ### A record rewritten -/

/-- A cue's record is rewritten in its slot, with blocks of its own or freed ones, and its place in its
lineup (R46, R48, R59). -/
theorem cueTableOk_rewrite {s t : State} (h : CueTableOk s) {c c' : Cue} (hc : c ∈ s.table.cues)
    (hcues : t.table.cues = (s.putCue c').table.cues) (hslot : c'.slot = c.slot)
    (haud : c'.aud = c.aud) (htrack : c'.track = c.track)
    (hshape : c'.blocks.length = blocksFor c'.declared ∧ c'.fill ≤ c'.declared)
    (hlineup : ∀ a u, (t.lineup a u).Perm (s.lineup a u)) (htally : ∀ a, t.tally a = s.tally a)
    (hblocks : (t.table.free ++ c'.blocks).Perm (s.table.free ++ c.blocks)) : CueTableOk t := by
  obtain ⟨pre, post, hsplit, hne⟩ := h.split hc
  have hnew := hcues.trans (putCue_split hslot hsplit hne)
  obtain ⟨hslots, hshapes, hnodup, hmem, hcount, hperm⟩ := h
  rw [hsplit] at hslots hshapes hmem hperm
  refine ⟨?_, ?_, fun a u => (hlineup a u).nodup_iff.2 (hnodup a u), fun a u k => ?_, ?_, ?_⟩
  · rw [hnew]
    simpa [hslot] using hslots
  · rw [hnew]
    intro d hd
    rw [List.mem_append, List.mem_cons] at hd
    obtain hd | rfl | hd := hd
    · exact hshapes d (by simp [hd])
    · obtain ⟨hlt, -⟩ := hshapes c (by simp)
      exact ⟨hslot ▸ hlt, hshape⟩
    · exact hshapes d (by simp [hd])
  · rw [(hlineup a u).mem_iff, hmem a u k, hnew]
    simp only [List.mem_append, List.mem_cons, or_and_right, exists_or, exists_eq_left, hslot, haud,
      htrack]
  · rw [counts_iff] at hcount ⊢
    intro a n m hn
    exact hcount a n m (htally a ▸ hn)
  · rw [hnew]
    refine List.Perm.trans ?_ hperm
    have hmove (f b : List Nat) : (f ++ (pre.flatMap Cue.blocks ++ (b ++ post.flatMap Cue.blocks))).Perm
        ((f ++ b) ++ (pre.flatMap Cue.blocks ++ post.flatMap Cue.blocks)) := by
      rw [List.append_assoc]
      exact (List.perm_append_comm_assoc _ _ _).append_left f
    simp only [List.flatMap_append, List.flatMap_cons]
    exact (hmove _ _).trans ((hblocks.append_right _).trans (hmove _ _).symm)

/-- An elementary change of a cue keeps its record in accord. -/
theorem cueTableOk_putCue {s : State} (h : CueTableOk s) {c c' : Cue}
    (hc : s.cueAt c.slot = some c) (hsame : SameCue c c') : CueTableOk (s.putCue c') := by
  have hmem := mem_of_cueAt hc
  obtain ⟨-, hlen, hfill⟩ := h.shape hmem
  refine cueTableOk_rewrite h hmem rfl hsame.slot hsame.aud hsame.track ?_
    (fun _ _ => .refl _) (fun _ => rfl) (by rw [hsame.blocks]; exact .refl _)
  rw [hsame.blocks, hsame.declared, hsame.fill]
  exact ⟨hlen, hfill⟩

/-! ### A cue freed -/

section
variable {s : State} {c : Cue}

/-- A cue in the table stands in its track's lineup. -/
theorem CueTableOk.mem_lineup (h : CueTableOk s) (hc : c ∈ s.table.cues) :
    c.slot ∈ s.lineup c.aud c.track := by
  exact h.mem_lineup_iff.2 ⟨c, hc, rfl, rfl, rfl⟩

/-- A cue stands in no other track's lineup. -/
theorem CueTableOk.place_of_mem_lineup (h : CueTableOk s) (hc : c ∈ s.table.cues) {a : Aud}
    {u : Track} (hslot : c.slot ∈ s.lineup a u) : a = c.aud ∧ u = c.track := by
  obtain ⟨d, hd, hds, rfl, rfl⟩ := h.mem_lineup_iff.1 hslot
  rw [h.eq_of_slot_eq hc hd hds]
  exact ⟨rfl, rfl⟩

theorem CueTableOk.track_of_cue (h : CueTableOk s) (hc : c ∈ s.table.cues) :
    ∃ r, s.track? c.aud c.track = some r :=
  Option.isSome_iff_exists.1 (State.track?_isSome_of_mem_lineup (h.mem_lineup hc))

/-- The freed cue's slot leaves the lineups. -/
theorem CueTableOk.lineup_dropFromLineup (h : CueTableOk s) (hc : c ∈ s.table.cues) (a : Aud)
    (u : Track) :
    (s.dropFromLineup c).lineup a u = (s.lineup a u).filter fun x => x != c.slot := by
  unfold State.dropFromLineup
  rw [State.lineup_modTrack s c.aud a c.track u (g := fun xs => xs.filter fun x => x != c.slot)
    fun _ => rfl]
  split
  · next hplace =>
    obtain ⟨rfl, rfl⟩ := hplace
    obtain ⟨r, hr⟩ := h.track_of_cue hc
    rw [hr, State.lineup_of_track? hr]
    rfl
  · next hplace =>
    refine (List.filter_eq_self.2 fun x hx => ?_).symm
    rw [bne_iff_ne]
    rintro rfl
    exact hplace (h.place_of_mem_lineup hc hx)

/-- The slot leaves its lineup just once. -/
theorem CueTableOk.perm_drop (h : CueTableOk s) (hc : c ∈ s.table.cues) :
    (c.slot :: (s.lineup c.aud c.track).filter fun x => x != c.slot).Perm
      (s.lineup c.aud c.track) := by
  obtain ⟨-, -, hnodup, -⟩ := id h
  have herase : ((s.lineup c.aud c.track).filter fun x => x != c.slot)
      = (s.lineup c.aud c.track).erase c.slot := ((hnodup _ _).erase_eq_filter c.slot).symm
  rw [herase]
  exact (List.perm_cons_erase (h.mem_lineup hc)).symm

theorem CueTableOk.tally_of_cue (h : CueTableOk s) (hc : c ∈ s.table.cues) :
    ∃ n, s.tally c.aud = some (n, n) := by
  obtain ⟨r, hr⟩ := h.track_of_cue hc
  obtain ⟨w, hw, -⟩ := Option.bind_eq_some_iff.1 hr
  have htally : s.tally c.aud = some (w.cueCount, (w.tracks.map fun r => r.lineup.length).sum) := by
    rw [State.tally, hw]
    rfl
  exact ⟨w.cueCount, by rw [htally, h.counts _ _ _ htally]⟩

theorem CueTableOk.tally_dropFromLineup (h : CueTableOk s) (hc : c ∈ s.table.cues) {n m : Nat}
    (hn : s.tally c.aud = some (n, m)) :
    ∃ m', (s.dropFromLineup c).tally c.aud = some (n, m') ∧ m' + 1 = m := by
  obtain ⟨r, hr⟩ := h.track_of_cue hc
  obtain ⟨m', hm', hsum⟩ := State.tally_modTrack hr
    (f := fun r => { r with lineup := r.lineup.filter fun x => x != c.slot })
    (g := fun xs => xs.filter fun x => x != c.slot) (fun _ => rfl) hn
  refine ⟨m', hm', ?_⟩
  have hlen := (h.perm_drop hc).length_eq
  rw [State.lineup_of_track? hr, List.length_cons] at hlen
  omega

theorem State.freeCue_lineup (s : State) (c : Cue) (a : Aud) (u : Track) :
    (s.freeCue c).lineup a u = (s.dropFromLineup c).lineup a u := by
  rw [State.lineup_congr (State.freeCue_directory s c)]
  unfold outOfTable
  rw [State.lineup_modCueCount]
  rfl

theorem State.freeCue_tally (s : State) (c : Cue) (a : Aud) :
    (s.freeCue c).tally a =
      if a = c.aud then ((s.dropFromLineup c).tally c.aud).map fun k => (k.1 - 1, k.2)
      else s.tally a := by
  have hdir : SameStocks (outOfTable c s) (s.freeCue c) :=
    .of_directory (State.freeCue_directory s c)
  rw [hdir.tally]
  unfold outOfTable
  rw [State.tally_modCueCount]
  split
  · rfl
  · next ha => exact State.tally_modTrack_of_ne s ha _ _

theorem cueTableOk_freeCue (h : CueTableOk s) (hc : c ∈ s.table.cues) :
    CueTableOk (s.freeCue c) := by
  obtain ⟨pre, post, hsplit, hne⟩ := h.split hc
  have hlineup (a : Aud) (u : Track) :
      (s.freeCue c).lineup a u = (s.lineup a u).filter fun x => x != c.slot :=
    (State.freeCue_lineup s c a u).trans (h.lineup_dropFromLineup hc a u)
  have htable := State.freeCue_table s c
  have hcues : (s.freeCue c).table.cues = pre ++ post := by
    rw [htable]
    exact filter_split hsplit hne
  have hfree : (s.freeCue c).table.free = s.table.free ++ c.blocks := by rw [htable]
  obtain ⟨n, hn⟩ := h.tally_of_cue hc
  obtain ⟨m', hm', hsum⟩ := h.tally_dropFromLineup hc hn
  obtain ⟨hslots, hshapes, hnodup, hmem, hcount, hperm⟩ := h
  rw [hsplit] at hslots hshapes hmem hperm
  have hsub : (pre ++ post).Sublist (pre ++ c :: post) :=
    (List.sublist_cons_self c post).append_left pre
  refine ⟨?_, ?_, fun a u => ?_, fun a u k => ?_, ?_, ?_⟩
  · rw [hcues]
    exact hslots.sublist (hsub.map _)
  · rw [hcues]
    exact fun d hd => hshapes d (hsub.subset hd)
  · rw [hlineup]
    exact (hnodup a u).filter _
  · rw [hlineup, List.mem_filter, hmem, hcues]
    constructor
    · rintro ⟨⟨d, hd, rfl, hplace⟩, hk⟩
      rw [List.mem_append, List.mem_cons] at hd
      obtain hd | rfl | hd := hd
      · exact ⟨d, List.mem_append_left _ hd, rfl, hplace⟩
      · simp at hk
      · exact ⟨d, List.mem_append_right _ hd, rfl, hplace⟩
    · rintro ⟨d, hd, rfl, hplace⟩
      exact ⟨⟨d, hsub.subset hd, rfl, hplace⟩, by simpa using hne d hd⟩
  · rw [counts_iff] at hcount ⊢
    intro a i j hi
    rw [State.freeCue_tally] at hi
    split at hi
    · rw [hm'] at hi
      obtain ⟨rfl, rfl⟩ := Prod.mk.inj (Option.some.inj hi)
      omega
    · exact hcount a i j hi
  · rw [hcues, hfree]
    refine List.Perm.trans ?_ hperm
    simp only [List.flatMap_append, List.flatMap_cons, List.append_assoc]
    exact (List.perm_append_comm_assoc _ _ _).append_left _

end

/-! ### Builds and passes -/

theorem cueTableOk_reWaitCue {s : State} (h : CueTableOk s) {c : Cue}
    (hc : s.cueAt c.slot = some c) : CueTableOk (reWaitCue c s) := by
  unfold reWaitCue
  split
  · have hput : CueTableOk (s.putCue { c with delivery := .waiting, off := 0 }) :=
      cueTableOk_putCue h hc ⟨rfl, rfl, rfl, rfl, rfl, rfl, rfl, rfl, rfl, fun _ => Nat.zero_le _⟩
    dsimp only
    split
    · exact cueTableOk_of_stocks hput (.of_directory rfl) rfl rfl
    · exact hput
  · exact h

theorem tick_cueTableOk {jump : Bool} {s t : State} (h : CueTableOk s) (ht : Tick jump s t) :
    CueTableOk t := by
  cases ht with
  | cue hc hsame => exact cueTableOk_putCue h hc hsame
  | @retire c hc =>
    refine cueTableOk_of_stocks (cueTableOk_freeCue h (mem_of_cueAt hc)) (t := s.retire c)
      (.of_directory ?_) ?_ ?_ <;> simp [State.retire]
  | reWait hc => exact cueTableOk_reWaitCue h hc
  | lastDone =>
    exact cueTableOk_of_stocks h (modTrack_sameStocks _ _ _ fun _ => rfl) (by simp) (by simp)
  | _ => exact cueTableOk_of_stocks h (.of_directory (by simp)) (by simp) (by simp)

theorem Ticks.cueTableOk {jump : Bool} {s t : State} (ht : Ticks jump s t) (h : CueTableOk s) :
    CueTableOk t :=
  ht.keeps (fun _ _ => tick_cueTableOk) h

/-! ### CUE_POST, CUE_DATA and CUE_REVISE -/

theorem insertLineup_perm (keyOf : Nat → Nat × Nat) (k : Nat × Nat) (slot : Nat) (xs : List Nat) :
    (insertLineup keyOf k slot xs).Perm (slot :: xs) := by
  induction xs with
  | nil => exact .refl _
  | cons x xs ih =>
    unfold insertLineup
    split
    · exact .refl _
    · exact (ih.cons x).trans (.swap _ _ _)

/-- A record joins the table before those of higher slots. -/
theorem insertCue_split (c : Cue) (xs : List Cue) (hsorted : (xs.map Cue.slot).Pairwise (· < ·))
    (hnew : ∀ x ∈ xs, x.slot ≠ c.slot) :
    (insertCue c xs).Perm (c :: xs) ∧ ((insertCue c xs).map Cue.slot).Pairwise (· < ·) := by
  induction xs with
  | nil => simp [insertCue]
  | cons x xs ih =>
    rw [List.map_cons, List.pairwise_cons] at hsorted
    obtain ⟨hx, hxs⟩ := hsorted
    unfold insertCue
    split
    · next hlt =>
      refine ⟨.refl _, ?_⟩
      simp only [List.map_cons, List.pairwise_cons, List.mem_cons]
      refine ⟨?_, hx, hxs⟩
      rintro k (rfl | hk)
      · exact hlt
      · exact hlt.trans (hx k hk)
    · next hlt =>
      obtain ⟨hperm, hpair⟩ := ih hxs fun y hy => hnew y (List.mem_cons_of_mem _ hy)
      refine ⟨(hperm.cons x).trans (.swap _ _ _), ?_⟩
      rw [List.map_cons, List.pairwise_cons]
      refine ⟨fun k hk => ?_, hpair⟩
      rw [(hperm.map _).mem_iff, List.map_cons, List.mem_cons] at hk
      obtain rfl | hk := hk
      · have := hnew x List.mem_cons_self
        omega
      · exact hx k hk

theorem addToLineup_lineup (s : State) (c : Cue) (a : Aud) (u : Track) :
    (s.addToLineup c).lineup a u =
      if a = c.aud ∧ u = c.track then (s.track? c.aud c.track).elim [] fun r =>
        insertLineup s.lineupKey (c.inP, c.num) c.slot r.lineup
      else s.lineup a u :=
  State.lineup_modTrack s c.aud a c.track u (g := insertLineup s.lineupKey (c.inP, c.num) c.slot)
    fun _ => rfl

theorem addToLineup_lineup_of_track {s : State} {c : Cue}
    (h : (s.track? c.aud c.track).isSome = true) (a : Aud) (u : Track) :
    (s.addToLineup c).lineup a u =
      if a = c.aud ∧ u = c.track then insertLineup s.lineupKey (c.inP, c.num) c.slot (s.lineup a u)
      else s.lineup a u := by
  obtain ⟨r, hr⟩ := Option.isSome_iff_exists.1 h
  rw [addToLineup_lineup]
  split
  · next hplace =>
    rw [hr, hplace.1, hplace.2, State.lineup_of_track? hr]
    rfl
  · rfl

theorem lowestFreeSlot_new {s : State} {k : Nat} (h : s.lowestFreeSlot = some k) :
    k < Config.cueSlots ∧ ∀ x ∈ s.table.cues, x.slot ≠ k := by
  unfold State.lowestFreeSlot at h
  have hmem := List.mem_of_find?_eq_some h
  refine ⟨List.mem_range.1 hmem, fun x hx hslot => ?_⟩
  have := List.find?_some h
  simp only [Bool.not_eq_true', List.any_eq_false] at this
  exact this x hx (by simpa using hslot)

theorem bodyOk_inline {k : CueKind} {x : CueBody} (h : bodyOk k x = true) :
    x.inline.length ≤ x.declared := by
  unfold bodyOk at h
  simp only [Bool.and_eq_true, decide_eq_true_eq] at h
  exact h.1.2

/-- A new record joins the table, its lineup and its cue count, with blocks that were free (R54). -/
theorem cueTableOk_join {s t : State} (h : CueTableOk s) {c : Cue} (hlt : c.slot < Config.cueSlots)
    (hnew : ∀ x ∈ s.table.cues, x.slot ≠ c.slot)
    (hshape : c.blocks.length = blocksFor c.declared ∧ c.fill ≤ c.declared)
    (hcues : t.table.cues = insertCue c s.table.cues)
    (hlineup : ∀ a u, (t.lineup a u).Perm
      (if a = c.aud ∧ u = c.track then c.slot :: s.lineup a u else s.lineup a u))
    (htally : ∀ a n m, t.tally a = some (n, m) → ∃ i j, s.tally a = some (i, j) ∧ (i = j → n = m))
    (hblocks : (t.table.free ++ c.blocks).Perm s.table.free) : CueTableOk t := by
  obtain ⟨hslots, hshapes, hnodup, hmem, hcount, hperm⟩ := h
  obtain ⟨hinserted, hsorted⟩ := insertCue_split c s.table.cues hslots hnew
  have hfresh (a : Aud) (u : Track) : c.slot ∉ s.lineup a u := fun hin => by
    obtain ⟨d, hd, hds, -⟩ := (hmem a u c.slot).1 hin
    exact hnew d hd hds
  refine ⟨hcues ▸ hsorted, fun d hd => ?_, fun a u => ?_, fun a u k => ?_, ?_, ?_⟩
  · rw [hcues, hinserted.mem_iff, List.mem_cons] at hd
    obtain rfl | hd := hd
    · exact ⟨hlt, hshape⟩
    · exact hshapes d hd
  · rw [(hlineup a u).nodup_iff]
    split
    · exact List.nodup_cons.2 ⟨hfresh a u, hnodup a u⟩
    · exact hnodup a u
  · rw [(hlineup a u).mem_iff, hcues]
    simp only [hinserted.mem_iff, List.mem_cons, or_and_right, exists_or, exists_eq_left]
    split
    · next hplace =>
      rw [List.mem_cons, hmem]
      simp [hplace.1, hplace.2, eq_comm]
    · next hplace =>
      rw [hmem, or_iff_right]
      rintro ⟨-, rfl, rfl⟩
      exact hplace ⟨rfl, rfl⟩
  · rw [counts_iff] at hcount ⊢
    intro a n m hn
    obtain ⟨i, j, hij, himp⟩ := htally a n m hn
    exact himp (hcount a i j hij)
  · rw [hcues]
    refine List.Perm.trans ((hinserted.flatMap_right Cue.blocks).append_left _) (.trans ?_ hperm)
    rw [List.flatMap_cons, ← List.append_assoc]
    exact hblocks.append_right _

theorem cueTableOk_postLineup {s u : State} (h : CueTableOk s) {c : Cue} {r : TrackRec}
    (hdir : u.directory = s.directory) (hr : s.track? c.aud c.track = some r)
    (hlt : c.slot < Config.cueSlots) (hnew : ∀ x ∈ s.table.cues, x.slot ≠ c.slot)
    (hshape : c.blocks.length = blocksFor c.declared ∧ c.fill ≤ c.declared)
    (hcues : u.table.cues = insertCue c s.table.cues)
    (hblocks : (u.table.free ++ c.blocks).Perm s.table.free) : CueTableOk (postLineup c u) := by
  have hru : u.track? c.aud c.track = some r := by
    rw [State.track?, State.theShow?_congr hdir]
    exact hr
  have hsame : SameStocks s u := .of_directory hdir
  have htable : (postLineup c u).table = u.table := by simp [postLineup]
  refine cueTableOk_join h hlt hnew hshape (by rw [htable, hcues]) (fun a v => ?_)
    (fun a n m hn => ?_) (by rw [htable]; exact hblocks)
  · rw [postLineup, State.lineup_modCueCount, addToLineup_lineup_of_track (by simp [hru]),
      hsame.lineup]
    split
    · exact insertLineup_perm _ _ _ _
    · exact .refl _
  · rw [postLineup, State.tally_modCueCount] at hn
    split at hn
    · next ha =>
      subst ha
      cases hs : u.tally c.aud with
      | none =>
        obtain ⟨w, hw, -⟩ := Option.bind_eq_some_iff.1 hru
        rw [State.tally, hw] at hs
        cases hs
      | some k =>
        obtain ⟨m', hm', hsum⟩ := State.tally_modTrack hru
          (f := fun r => { r with lineup := insertLineup u.lineupKey (c.inP, c.num) c.slot r.lineup })
          (g := insertLineup u.lineupKey (c.inP, c.num) c.slot) (fun _ => rfl) hs
        rw [(insertLineup_perm _ _ _ _).length_eq, List.length_cons] at hsum
        have hadd : (u.addToLineup c).tally c.aud = some (k.1, m') := hm'
        rw [hadd] at hn
        obtain ⟨rfl, rfl⟩ := Prod.mk.inj (Option.some.inj hn)
        exact ⟨k.1, k.2, by rw [← hsame.tally, hs], fun hk => by omega⟩
    · next ha =>
      rw [State.addToLineup, State.tally_modTrack_of_ne u ha, hsame.tally] at hn
      exact ⟨n, m, hn, id⟩

theorem cueTableOk_doPost {s : State} (h : CueTableOk s) {q : CuePostReq} {slot : Nat}
    (htrack : (s.track? q.aud q.track).isSome = true) (hbody : bodyOk q.kind q.body = true)
    (hroom : blocksFor q.body.declared ≤ s.table.free.length)
    (hslot : s.lowestFreeSlot = some slot) : CueTableOk (doPost q slot s).1 := by
  obtain ⟨hlt, hnew⟩ := lowestFreeSlot_new hslot
  obtain ⟨r, hr⟩ := Option.isSome_iff_exists.1 htrack
  have hlen : (postBlocks q s).length = blocksFor q.body.declared := List.length_take_of_le hroom
  have hposted : CueTableOk (postLineup (postedCue q slot (postBlocks q s)) (postTable q slot s)) :=
    cueTableOk_postLineup h rfl hr hlt hnew ⟨hlen, bodyOk_inline hbody⟩ rfl
      (List.perm_append_comm.trans (.of_eq (List.take_append_drop _ _)))
  rw [doPost_eq]
  exact cueTableOk_of_stocks hposted (.of_directory (by simp)) (by simp) (by simp)

theorem cueTableOk_storeData {s : State} (h : CueTableOk s) {c : Cue} {data : List Byte}
    (hc : c ∈ s.table.cues) (hlen : c.fill + data.length ≤ c.declared) :
    CueTableOk (storeData c data s) := by
  obtain ⟨-, hblocks, -⟩ := h.shape hc
  exact cueTableOk_rewrite h hc (c' := { c with fill := c.fill + data.length }) rfl rfl rfl rfl
    ⟨hblocks, hlen⟩ (fun _ _ => .refl _) (fun _ => rfl) (.refl _)

theorem State.track?_congr {s t : State} (h : t.directory = s.directory) (a : Aud) (u : Track) :
    t.track? a u = s.track? a u := by
  rw [State.track?, State.theShow?_congr h, State.track?]

theorem dropFromLineup_stocks {s u : State} (h : u.directory = s.directory) (c : Cue) :
    SameStocks (s.dropFromLineup c) (u.dropFromLineup c) := fun a => by
  unfold State.dropFromLineup
  rw [State.theShow?_modTrack, State.theShow?_modTrack, State.theShow?_congr h,
    State.theShow?_congr h]

theorem dropFromLineup_track?_isSome (s : State) (c : Cue) (a : Aud) (u : Track) :
    ((s.dropFromLineup c).track? a u).isSome = (s.track? a u).isSome := by
  unfold State.dropFromLineup
  rw [State.track?_modTrack]
  split
  · next h => rw [h.1, h.2, Option.isSome_map]
  · rfl

theorem CueTableOk.dropped_track {s : State} (h : CueTableOk s) {c : Cue} (hc : c ∈ s.table.cues)
    {v : State} (hv : SameStocks (s.dropFromLineup c) v) :
    (v.track? c.aud c.track).isSome = true := by
  obtain ⟨r, hr⟩ := h.track_of_cue hc
  rw [hv.track?_isSome, dropFromLineup_track?_isSome, hr]
  rfl

/-- The lineups after a cue has been taken out of its own and put back into it. -/
theorem CueTableOk.reAdded_lineup {s : State} (h : CueTableOk s) {c c' : Cue}
    (hc : c ∈ s.table.cues) (haud : c'.aud = c.aud) (htrack : c'.track = c.track) {v : State}
    (hv : SameStocks (s.dropFromLineup c) v) (a : Aud) (t : Track) :
    (v.addToLineup c').lineup a t =
      if a = c.aud ∧ t = c.track then
        insertLineup v.lineupKey (c'.inP, c'.num) c'.slot
          ((s.lineup a t).filter fun x => x != c.slot)
      else (s.lineup a t).filter fun x => x != c.slot := by
  rw [addToLineup_lineup_of_track (by rw [haud, htrack]; exact h.dropped_track hc hv), haud, htrack,
    hv.lineup, h.lineup_dropFromLineup hc]

/-- A cue taken out of its lineup and put back into it keeps its slot there, and its place in the count
(R48, R60). -/
theorem reAdded_stocks {s : State} (h : CueTableOk s) {c c' : Cue} (hc : c ∈ s.table.cues)
    (hslot : c'.slot = c.slot) (haud : c'.aud = c.aud) (htrack : c'.track = c.track)
    {v : State} (hv : SameStocks (s.dropFromLineup c) v) :
    (∀ a t, ((v.addToLineup c').lineup a t).Perm (s.lineup a t))
      ∧ ∀ a, (v.addToLineup c').tally a = s.tally a := by
  obtain ⟨r', hr'⟩ := Option.isSome_iff_exists.1 (h.dropped_track hc hv)
  constructor
  · intro a t
    rw [h.reAdded_lineup hc haud htrack hv, hslot]
    split
    · next hplace =>
      obtain ⟨rfl, rfl⟩ := hplace
      exact (insertLineup_perm _ _ _ _).trans (h.perm_drop hc)
    · next hplace =>
      refine .of_eq (List.filter_eq_self.2 fun x hx => ?_)
      rw [bne_iff_ne]
      rintro rfl
      exact hplace (h.place_of_mem_lineup hc hx)
  · intro a
    by_cases ha : a = c.aud
    · subst ha
      obtain ⟨n, hn⟩ := h.tally_of_cue hc
      obtain ⟨m', hm', hsum⟩ := h.tally_dropFromLineup hc hn
      rw [← hv.tally] at hm'
      obtain ⟨k, hk, hadded⟩ := State.tally_modTrack hr'
        (f := fun r => { r with
          lineup := insertLineup v.lineupKey (c'.inP, c'.num) c'.slot r.lineup })
        (g := insertLineup v.lineupKey (c'.inP, c'.num) c'.slot) (fun _ => rfl) hm'
      rw [(insertLineup_perm _ _ _ _).length_eq, List.length_cons] at hadded
      rw [State.addToLineup, haud, htrack, hk, hn]
      congr 2
      omega
    · rw [State.addToLineup, haud, State.tally_modTrack_of_ne v ha, hv.tally,
        State.dropFromLineup, State.tally_modTrack_of_ne s ha]

theorem reviseLineup_stocks {s : State} (h : CueTableOk s) {c c' : Cue} (hc : c ∈ s.table.cues)
    (hslot : c'.slot = c.slot) (haud : c'.aud = c.aud) (htrack : c'.track = c.track) (x : CueBody)
    {u : State} (hdir : u.directory = s.directory) :
    (∀ a v, ((reviseLineup x c c' u).lineup a v).Perm (s.lineup a v))
      ∧ ∀ a, (reviseLineup x c c' u).tally a = s.tally a := by
  unfold reviseLineup
  split
  · have hsame : SameStocks s (u.putCue c') := .of_directory hdir
    exact ⟨fun a v => .of_eq (hsame.lineup a v), fun a => hsame.tally a⟩
  · exact reAdded_stocks h hc hslot haud htrack
      ((dropFromLineup_stocks hdir c).trans (.of_directory rfl))

theorem reviseLineup_table (x : CueBody) (c c' : Cue) (u : State) :
    (reviseLineup x c c' u).table = (u.putCue c').table := by
  have hdrop : (u.dropFromLineup c).table = u.table := by simp
  unfold reviseLineup
  split
  · rfl
  · have hadded : (((u.dropFromLineup c).putCue c').addToLineup c').table
        = ((u.dropFromLineup c).putCue c').table := by simp
    rw [hadded]
    simp only [State.putCue, hdrop]

theorem cueTableOk_doRevise {s : State} (h : CueTableOk s) {c : Cue} {x : CueBody}
    (hc : c ∈ s.table.cues) (hbody : bodyOk c.kind x = true)
    (hroom : blocksFor x.declared ≤ s.table.free.length + c.blocks.length) :
    CueTableOk (doRevise x c s).1 := by
  have hlen : (reviseBlocks x c s).length = blocksFor x.declared :=
    List.length_take_of_le (by rwa [List.length_append])
  have hstocks := reviseLineup_stocks (c' := revisedCue x (reviseBlocks x c s) c) h hc rfl rfl rfl x
    (u := reviseTable x c s) rfl
  have htable := reviseLineup_table x c (revisedCue x (reviseBlocks x c s) c) (reviseTable x c s)
  have hrevised : CueTableOk
      (reviseLineup x c (revisedCue x (reviseBlocks x c s) c) (reviseTable x c s)) := by
    refine cueTableOk_rewrite (c' := revisedCue x (reviseBlocks x c s) c) h hc (by rw [htable]; rfl)
      rfl rfl rfl ⟨hlen, bodyOk_inline hbody⟩ hstocks.1 hstocks.2 ?_
    rw [htable]
    exact List.perm_append_comm.trans (.of_eq (List.take_append_drop _ _))
  rw [doRevise_eq]
  exact cueTableOk_of_stocks hrevised (.of_directory (by simp)) (by simp) (by simp)

/-! ### SHOW_OPEN and SHOW_CLOSE -/

theorem tracksFrom?_lineup {b : List Byte} {k n : Nat} {ts : List TrackRec}
    (h : tracksFrom? b k n = some ts) : ∀ r ∈ ts, r.lineup = [] := by
  induction n generalizing k ts with
  | zero =>
    obtain rfl := Option.some.inj h
    exact fun _ hr => absurd hr List.not_mem_nil
  | succ n ih =>
    unfold tracksFrom? at h
    split at h
    · next r rs hr hrs =>
      obtain rfl := Option.some.inj h
      intro x hx
      obtain rfl | hx := List.mem_cons.1 hx
      · unfold trackAt? at hr
        dsimp only at hr
        split at hr
        · split at hr
          · obtain rfl := Option.some.inj hr
            rfl
          · cases hr
        · cases hr
      · exact ih hrs x hx
    · cases h

theorem showOpen?_lineup {b : List Byte} {q : ShowOpenReq} (h : showOpen? b = some q) :
    ∀ r ∈ q.tracks, r.lineup = [] := by
  unfold showOpen? at h
  dsimp only at h
  split at h
  · split at h
    · next hts =>
      obtain rfl := Option.some.inj h
      exact tracksFrom?_lineup hts
    · cases h
  · cases h

theorem openShow_stock (s : State) (q : ShowOpenReq) (a : Aud) :
    ((openShow q s).theShow? a).map Show.stock =
      if a = q.aud then some (0, q.tracks.map TrackRec.lineup)
      else (s.theShow? a).map Show.stock := by
  have hrecount := recountTracks_sameStocks (recountFlags q.aud (beginRun q s)) q.aud
  have hplaced : SameStocks (recountFlags q.aud (beginRun q s)) (openShow q s) :=
    hrecount.trans (.of_directory (by simp [openShow]))
  rw [hplaced a]
  by_cases ha : a = q.aud
  · subst ha
    simp [State.theShow?, recountFlags, beginRun, State.withTimeline, State.withSync, Show.stock]
  · simp [State.theShow?, recountFlags, beginRun, State.withTimeline, State.withSync, ha]

theorem openShow_lineup {s : State} {b : List Byte} {q : ShowOpenReq}
    (hform : showOpen? b = some q) (hclosed : s.isOpen q.aud = false) (a : Aud) (u : Track) :
    (openShow q s).lineup a u = s.lineup a u := by
  have hnone : s.theShow? q.aud = none := by simpa [State.isOpen] using hclosed
  rw [State.lineup_eq_stock, openShow_stock, State.lineup_eq_stock s]
  split
  · next ha =>
    rw [ha, hnone]
    simp only [Option.bind_some, List.getElem?_map, Option.map_none, Option.bind_none]
    cases hr : q.tracks[u.val]? with
    | none => rfl
    | some r => simp [showOpen?_lineup hform r (List.mem_of_getElem? hr)]
  · rfl

theorem cueTableOk_openShow {s : State} (h : CueTableOk s) {b : List Byte} {q : ShowOpenReq}
    (hform : showOpen? b = some q) (hclosed : s.isOpen q.aud = false) :
    CueTableOk (openShow q s) := by
  obtain ⟨hslots, hshapes, hnodup, hmem, hcount, hperm⟩ := h
  have htable : (openShow q s).table = s.table := by simp
  have hlineup := openShow_lineup hform hclosed
  refine ⟨by rwa [htable], by rwa [htable], fun a u => by rw [hlineup]; exact hnodup a u,
    fun a u k => by rw [hlineup, htable]; exact hmem a u k, ?_, by rwa [htable]⟩
  rw [counts_iff] at hcount ⊢
  intro a n m hn
  rw [State.tally_eq_stock, openShow_stock] at hn
  split at hn
  · obtain ⟨rfl, rfl⟩ := Prod.mk.inj (Option.some.inj hn)
    refine (List.sum_eq_zero fun k hk => ?_).symm
    simp only [List.mem_map] at hk
    obtain ⟨xs, ⟨r, hr, rfl⟩, rfl⟩ := hk
    rw [showOpen?_lineup hform r hr, List.length_nil]
  · rw [← State.tally_eq_stock] at hn
    exact hcount a n m hn

/-- Freeing the cues of the listed slots leaves the others. -/
theorem freeAll_cueTableOk (ks : List Nat) {s : State} (h : CueTableOk s) :
    CueTableOk (State.forCues (fun c s => s.freeCue c) ks s)
      ∧ (State.forCues (fun c s => s.freeCue c) ks s).table.cues
        = s.table.cues.filter fun x => !ks.contains x.slot := by
  induction ks generalizing s with
  | nil => exact ⟨h, by simp [State.forCues]⟩
  | cons k ks ih =>
    unfold State.forCues
    split
    · next c hc =>
      obtain ⟨hok, hcues⟩ := ih (cueTableOk_freeCue h (mem_of_cueAt hc))
      refine ⟨hok, hcues.trans ?_⟩
      rw [State.freeCue_table, List.filter_filter, slot_of_cueAt hc]
      refine List.filter_congr fun x _ => ?_
      by_cases hx : x.slot = k <;> simp [hx]
    · next hc =>
      obtain ⟨hok, hcues⟩ := ih h
      refine ⟨hok, hcues.trans (List.filter_congr fun x hx => ?_)⟩
      have hne : x.slot ≠ k := fun hk => by
        have := List.find?_eq_none.1 hc x hx
        simp [hk] at this
      simp [hne]

theorem mem_allTracks (t : Track) : t ∈ allTracks := List.mem_finRange t

/-- Every cue of an auditorium stands in one of its lineups. -/
theorem CueTableOk.mem_slotsOf {s : State} (h : CueTableOk s) {c : Cue} (hc : c ∈ s.table.cues) :
    c.slot ∈ s.slotsOf c.aud :=
  List.mem_flatMap.2 ⟨c.track, mem_allTracks _, h.mem_lineup hc⟩

theorem emptyShow_cueTableOk {s : State} (h : CueTableOk s) (a : Aud) (l : LaneId) :
    CueTableOk (emptyShow a l s) ∧ ∀ c ∈ (emptyShow a l s).table.cues, c.aud ≠ a := by
  have hclear : CueTableOk (clearTraffic a l s) :=
    cueTableOk_of_stocks h (.of_directory rfl) rfl rfl
  obtain ⟨hok, hcues⟩ := freeAll_cueTableOk (s.slotsOf a) hclear
  refine ⟨hok, fun c hc ha => ?_⟩
  unfold emptyShow at hc
  rw [hcues, List.mem_filter] at hc
  subst ha
  have := h.mem_slotsOf hc.1
  simp [this] at hc

theorem closeShow_theShow? (s : State) (a b : Aud) (l : LaneId) :
    (closeShow a l s).theShow? b = if b = a then none else (emptyShow a l s).theShow? b := by
  have hshut : (closeShow a l s).directory = (shutShow a (emptyShow a l s)).directory := by
    simp [closeShow]
  rw [State.theShow?_congr hshut]
  by_cases hb : b = a <;> simp [State.theShow?, shutShow, State.withTimeline, State.withSync, hb]

theorem closeShow_lineup (s : State) (a b : Aud) (l : LaneId) (u : Track) :
    (closeShow a l s).lineup b u = if b = a then [] else (emptyShow a l s).lineup b u := by
  simp only [State.lineup_eq_stock, closeShow_theShow?]
  split <;> rfl

theorem cueTableOk_closeShow {s : State} (h : CueTableOk s) (a : Aud) (l : LaneId) :
    CueTableOk (closeShow a l s) := by
  obtain ⟨⟨hslots, hshapes, hnodup, hmem, hcount, hperm⟩, hgone⟩ := emptyShow_cueTableOk h a l
  have htable : (closeShow a l s).table = (emptyShow a l s).table := by simp [closeShow]
  have hlineup := fun b u => closeShow_lineup s a b l u
  refine ⟨by rwa [htable], by rwa [htable], fun b u => ?_, fun b u k => ?_, fun b w hw => ?_,
    by rwa [htable]⟩
  · rw [hlineup]
    split
    · exact List.nodup_nil
    · exact hnodup b u
  · rw [hlineup, htable]
    split
    · next hb =>
      refine iff_of_false List.not_mem_nil ?_
      rintro ⟨c, hc, -, rfl, -⟩
      exact hgone c hc hb
    · exact hmem b u k
  · rw [closeShow_theShow?] at hw
    split at hw
    · cases hw
    · exact hcount b w hw

/-! ### Every step -/

theorem withdrawCue_cueTableOk {s : State} (h : CueTableOk s) {c : Cue} (hc : c ∈ s.table.cues) :
    CueTableOk (withdrawCue c s) := by
  have hbefore : CueTableOk ((withdrawNotice c s).1.turnRepairsGone c.aud c.track c.num) :=
    cueTableOk_of_stocks h (.of_directory (by simp)) (by simp) (by simp)
  exact cueTableOk_freeCue hbefore (by simpa using hc)

theorem Drifts.cueTableOk {jump : Bool} {s t : State} (ht : Drifts jump s t) (h : CueTableOk s) :
    CueTableOk t :=
  ht.keeps (fun _ _ h ha => cueTableOk_of_stocks h ha.stocks (by rw [ha.table]) (by rw [ha.table]))
    (fun _ _ h ht => tick_cueTableOk h ht) h

theorem acts_cueTableOk {c : Instr} {s u : State} (hs : CueTableOk s) (h : Acts c s u) :
    CueTableOk u := by
  by_cases hc : driftsOnly c = true
  · exact (acts_drifts hc (.inl rfl) h).cueTableOk hs
  cases h with
  | reads => exact hs
  | showOpen hform hclosed => exact cueTableOk_openShow hs hform hclosed
  | showClose => exact cueTableOk_closeShow hs _ _
  | cuePost htrack _ hbody hroom hslot => exact cueTableOk_doPost hs htrack hbody hroom hslot
  | cueData hcue hlen => exact cueTableOk_storeData hs (mem_of_findCue hcue) hlen
  | cueRevise hcue hbody hroom => exact cueTableOk_doRevise hs (mem_of_findCue hcue) hbody hroom
  | cueWithdraw hcue => exact withdrawCue_cueTableOk hs (mem_of_findCue hcue)
  | leaveReset => exact cueTableOk_of_stocks cueTableOk_reset (.of_directory rfl) rfl rfl
  | restart => exact cueTableOk_of_stocks cueTableOk_reset (.of_directory rfl) rfl rfl
  | askTaken | askIgnored =>
    exact cueTableOk_of_stocks hs (.of_directory (by simp)) (by simp) (by simp)
  | _ => exact absurd rfl hc

end Sys2Proof.Machine
end


section
/-! PROOFS. Every step keeps each cue number once in its track, the lineups in order and the send offsets within
the fill marks (R46, R48). -/

namespace Sys2Proof.Machine

/-! ### The order of the lineups -/

theorem keyLt_trans {i j k : Nat × Nat} (h : keyLt i j = true) (h' : keyLt j k = true) :
    keyLt i k = true := by
  unfold keyLt at *
  rw [decide_eq_true_eq] at *
  omega

theorem keyLt_of_not {i k : Nat × Nat} (h : ¬ keyLt k i = true) (hne : i ≠ k) :
    keyLt i k = true := by
  unfold keyLt at *
  rw [decide_eq_true_eq] at *
  have : ¬(i.1 = k.1 ∧ i.2 = k.2) := fun h => hne (Prod.ext h.1 h.2)
  omega

/-- Slots in rising order of their keys (R48). -/
def InOrder (keyOf : Nat → Nat × Nat) (xs : List Nat) : Prop :=
  xs.Pairwise fun x y => keyLt (keyOf x) (keyOf y) = true

theorem InOrder.congr {f g : Nat → Nat × Nat} {xs : List Nat} (h : InOrder f xs)
    (hfg : ∀ x ∈ xs, g x = f x) : InOrder g xs := by
  refine List.Pairwise.imp_of_mem (fun {x y} hx hy hlt => ?_) h
  rwa [hfg x hx, hfg y hy]

/-- An insertion keeps the order (R48). -/
theorem InOrder.insertLineup {keyOf : Nat → Nat × Nat} {slot : Nat} {xs : List Nat}
    (h : InOrder keyOf xs) (hne : ∀ x ∈ xs, keyOf x ≠ keyOf slot) :
    InOrder keyOf (insertLineup keyOf (keyOf slot) slot xs) := by
  induction xs with
  | nil => exact List.pairwise_singleton _ _
  | cons x xs ih =>
    unfold InOrder at h
    rw [List.pairwise_cons] at h
    obtain ⟨hx, hxs⟩ := h
    unfold Machine.insertLineup
    split
    · next hlt =>
      refine List.pairwise_cons.2 ⟨fun y hy => ?_, List.pairwise_cons.2 ⟨hx, hxs⟩⟩
      obtain rfl | hy := List.mem_cons.1 hy
      · exact hlt
      · exact keyLt_trans hlt (hx y hy)
    · next hlt =>
      refine List.pairwise_cons.2
        ⟨fun y hy => ?_, ih hxs fun y hy => hne y (List.mem_cons_of_mem _ hy)⟩
      rw [(insertLineup_perm _ _ _ _).mem_iff] at hy
      obtain rfl | hy := List.mem_cons.1 hy
      · exact keyLt_of_not hlt (hne x List.mem_cons_self)
      · exact hx y hy

theorem State.lineupKey_congr {s t : State} (h : t.table = s.table) : t.lineupKey = s.lineupKey := by
  funext k
  simp only [State.lineupKey, cueAt_congr h]

theorem CueTableOk.lineupKey_of_mem {s : State} (h : CueTableOk s) {c : Cue}
    (hc : c ∈ s.table.cues) : s.lineupKey c.slot = (c.inP, c.num) := by
  simp [State.lineupKey, h.cueAt_of_mem hc]

/-! ### Cues that keep their places -/

/-- `c'` stands where `c` stood, with a send offset within its fill mark if it was so. -/
structure SamePlace (c c' : Cue) : Prop where
  slot : c'.slot = c.slot
  aud : c'.aud = c.aud
  track : c'.track = c.track
  num : c'.num = c.num
  inP : c'.inP = c.inP
  off : c.off ≤ c.fill → c'.off ≤ c'.fill

theorem SamePlace.refl (c : Cue) : SamePlace c c := ⟨rfl, rfl, rfl, rfl, rfl, id⟩

theorem SameCue.samePlace {c c' : Cue} (h : SameCue c c') : SamePlace c c' :=
  ⟨h.slot, h.aud, h.track, h.num, h.inP, fun hoff => h.fill ▸ h.off hoff⟩

/-- The key of a slot whose cue keeps its place. -/
theorem lineupKey_of_samePlace {s t : State} (hs : CueTableOk s) (ht : CueTableOk t) {c c' : Cue}
    (hc : c ∈ s.table.cues) (hc' : c' ∈ t.table.cues) (h : SamePlace c c') :
    t.lineupKey c'.slot = s.lineupKey c'.slot := by
  rw [ht.lineupKey_of_mem hc', h.slot, hs.lineupKey_of_mem hc, h.inP, h.num]

theorem LineupsOk.eq_of_place {s : State} (h : LineupsOk s) {c d : Cue} (hc : c ∈ s.table.cues)
    (hd : d ∈ s.table.cues) (heq : (c.aud, c.track, c.num) = (d.aud, d.track, d.num)) : c = d :=
  List.inj_on_of_nodup_map h.1 hc hd heq

theorem CueTableOk.nodup_cues {s : State} (h : CueTableOk s) : s.table.cues.Nodup := by
  obtain ⟨hslots, -⟩ := h
  exact List.Nodup.of_map Cue.slot (hslots.imp Nat.ne_of_lt)

/-- Cues that keep their places, and lineups that lose some slots at most, stay in order. -/
theorem lineupsOk_of_samePlaces {s t : State} (hs : CueTableOk s) (ht : CueTableOk t)
    (h : LineupsOk s) (hcues : ∀ c' ∈ t.table.cues, ∃ c ∈ s.table.cues, SamePlace c c')
    (hlineup : ∀ a u, (t.lineup a u).Sublist (s.lineup a u)) : LineupsOk t := by
  refine ⟨List.Nodup.map_on (fun c' hc' d' hd' heq => ?_) ht.nodup_cues, fun a u => ?_,
    fun c' hc' => ?_⟩
  · obtain ⟨c, hc, hcc⟩ := hcues c' hc'
    obtain ⟨d, hd, hdd⟩ := hcues d' hd'
    rw [hcc.aud, hcc.track, hcc.num, hdd.aud, hdd.track, hdd.num] at heq
    obtain rfl := h.eq_of_place hc hd heq
    exact ht.eq_of_slot_eq hd' hc' (hcc.slot.trans hdd.slot.symm)
  · have horder : InOrder s.lineupKey (t.lineup a u) := (h.2.1 a u).sublist (hlineup a u)
    refine horder.congr fun k hk => ?_
    obtain ⟨c', hc', rfl, -⟩ := ht.mem_lineup_iff.1 hk
    obtain ⟨c, hc, hcc⟩ := hcues c' hc'
    exact lineupKey_of_samePlace hs ht hc hc' hcc
  · obtain ⟨c, hc, hcc⟩ := hcues c' hc'
    exact hcc.off (h.2.2 c hc)

/-- A cue added to its lineup stands there in order, the other cues keeping their places (R48). -/
theorem lineupsOk_add {s t : State} (hs : CueTableOk s) (ht : CueTableOk t) (h : LineupsOk s)
    {c : Cue} (hc : c ∈ t.table.cues) (hoff : c.off ≤ c.fill)
    (hcues : ∀ d' ∈ t.table.cues, d'.slot ≠ c.slot → ∃ d ∈ s.table.cues, SamePlace d d'
      ∧ (d.aud, d.track, d.num) ≠ (c.aud, c.track, c.num))
    (hlineup : ∀ a u, ∃ xs, xs.Sublist (s.lineup a u) ∧ c.slot ∉ xs
      ∧ t.lineup a u = if a = c.aud ∧ u = c.track then
          insertLineup t.lineupKey (c.inP, c.num) c.slot xs else xs) : LineupsOk t := by
  have hother {d' : Cue} (hd' : d' ∈ t.table.cues) (hne : d' ≠ c) : d'.slot ≠ c.slot :=
    fun hslot => hne (ht.eq_of_slot_eq hc hd' hslot)
  refine ⟨List.Nodup.map_on (fun d' hd' e' he' heq => ?_) ht.nodup_cues, fun a u => ?_,
    fun d' hd' => ?_⟩
  · by_cases hdc : d' = c
    · by_cases hec : e' = c
      · rw [hdc, hec]
      · obtain ⟨e, -, hee, hne⟩ := hcues e' he' (hother he' hec)
        rw [hdc, hee.aud, hee.track, hee.num] at heq
        exact absurd heq.symm hne
    · obtain ⟨d, hd, hdd, hnd⟩ := hcues d' hd' (hother hd' hdc)
      rw [hdd.aud, hdd.track, hdd.num] at heq
      by_cases hec : e' = c
      · rw [hec] at heq
        exact absurd heq hnd
      · obtain ⟨e, he, hee, -⟩ := hcues e' he' (hother he' hec)
        rw [hee.aud, hee.track, hee.num] at heq
        obtain rfl := h.eq_of_place hd he heq
        exact ht.eq_of_slot_eq he' hd' (hdd.slot.trans hee.slot.symm)
  · obtain ⟨xs, hsub, hfresh, hxs⟩ := hlineup a u
    have hin {k : Nat} (hk : k ∈ xs) : k ∈ t.lineup a u := by
      rw [hxs]
      split
      · exact (insertLineup_perm _ _ _ _).mem_iff.2 (List.mem_cons_of_mem _ hk)
      · exact hk
    have hcue {k : Nat} (hk : k ∈ xs) : ∃ d' ∈ t.table.cues, d'.slot = k ∧ d'.aud = a
        ∧ d'.track = u ∧ d'.slot ≠ c.slot := by
      obtain ⟨d', hd', rfl, ha, hu⟩ := ht.mem_lineup_iff.1 (hin hk)
      exact ⟨d', hd', rfl, ha, hu, fun heq => hfresh (heq ▸ hk)⟩
    have horder : InOrder t.lineupKey xs := by
      refine InOrder.congr ((h.2.1 a u).sublist hsub) fun k hk => ?_
      obtain ⟨d', hd', rfl, -, -, hne⟩ := hcue hk
      obtain ⟨d, hd, hdd, -⟩ := hcues d' hd' hne
      exact lineupKey_of_samePlace hs ht hd hd' hdd
    rw [hxs]
    split
    · next hplace =>
      rw [← ht.lineupKey_of_mem hc]
      refine horder.insertLineup fun k hk heq => ?_
      obtain ⟨d', hd', rfl, ha, hu, hne⟩ := hcue hk
      obtain ⟨d, -, hdd, hnum⟩ := hcues d' hd' hne
      rw [ht.lineupKey_of_mem hd', ht.lineupKey_of_mem hc] at heq
      apply hnum
      rw [← hdd.aud, ← hdd.track, ← hdd.num, ha, hu, hplace.1, hplace.2, (Prod.mk.inj heq).2]
    · exact horder
  · by_cases hdc : d' = c
    · rw [hdc]
      exact hoff
    · obtain ⟨d, hd, hdd, -⟩ := hcues d' hd' (hother hd' hdc)
      exact hdd.off (h.2.2 d hd)

/-! ### The changes of the table -/

/-- A record written back in its place leaves every other. -/
theorem samePlaces_putCue {s : State} (hs : CueTableOk s) {c c' : Cue} (hc : c ∈ s.table.cues)
    (hsame : SamePlace c c') : ∀ d' ∈ (s.putCue c').table.cues, ∃ d ∈ s.table.cues, SamePlace d d' := by
  intro d' hd'
  obtain ⟨d, hd, rfl⟩ := List.mem_map.1 hd'
  by_cases hslot : d.slot = c'.slot
  · rw [hs.eq_of_slot_eq hc hd (hslot.trans hsame.slot)]
    exact ⟨c, hc, by rw [if_pos (by simp [hsame.slot])]; exact hsame⟩
  · exact ⟨d, hd, by rw [if_neg (by simpa using hslot)]; exact .refl d⟩

theorem lineupsOk_of_stocks {s t : State} (hs : CueTableOk s) (h : LineupsOk s)
    (hstocks : SameStocks s t) (htable : t.table = s.table) : LineupsOk t :=
  lineupsOk_of_samePlaces hs
    (cueTableOk_of_stocks hs hstocks (by rw [htable]) (by rw [htable])) h
    (fun c hc => ⟨c, htable ▸ hc, .refl c⟩) fun a u => by rw [hstocks.lineup]

theorem lineupsOk_freeCue {s : State} (hs : CueTableOk s) (h : LineupsOk s) {c : Cue}
    (hc : c ∈ s.table.cues) : LineupsOk (s.freeCue c) := by
  refine lineupsOk_of_samePlaces hs (cueTableOk_freeCue hs hc) h (fun d hd => ?_) fun a u => ?_
  · rw [State.freeCue_table] at hd
    exact ⟨d, (List.mem_filter.1 hd).1, .refl d⟩
  · rw [State.freeCue_lineup, hs.lineup_dropFromLineup hc]
    exact List.filter_sublist

theorem lineupsOk_putCue {s : State} (hs : CueTableOk s) (h : LineupsOk s) {c c' : Cue}
    (hc : s.cueAt c.slot = some c) (hsame : SameCue c c') : LineupsOk (s.putCue c') :=
  lineupsOk_of_samePlaces hs (cueTableOk_putCue hs hc hsame) h
    (samePlaces_putCue hs (mem_of_cueAt hc) hsame.samePlace) fun _ _ => .refl _

/-- The Cue Table is in accord and its lineups are in order. -/
def TableOk (s : State) : Prop := CueTableOk s ∧ LineupsOk s

theorem tableOk_of_stocks {s t : State} (h : TableOk s) (hstocks : SameStocks s t)
    (htable : t.table = s.table) : TableOk t :=
  ⟨cueTableOk_of_stocks h.1 hstocks (by rw [htable]) (by rw [htable]),
    lineupsOk_of_stocks h.1 h.2 hstocks htable⟩

theorem tick_tableOk {jump : Bool} {s t : State} (h : TableOk s) (ht : Tick jump s t) :
    TableOk t := by
  refine ⟨tick_cueTableOk h.1 ht, ?_⟩
  cases ht with
  | cue hc hsame => exact lineupsOk_putCue h.1 h.2 hc hsame
  | @retire c hc =>
    refine lineupsOk_of_stocks (cueTableOk_freeCue h.1 (mem_of_cueAt hc))
      (lineupsOk_freeCue h.1 h.2 (mem_of_cueAt hc)) (t := s.retire c) (.of_directory ?_) ?_ <;>
        simp [State.retire]
  | reWait hc =>
    unfold reWaitCue
    split
    · dsimp only
      have hsame : ∀ c : Cue, SameCue c { c with delivery := .waiting, off := 0 } := fun c =>
        ⟨rfl, rfl, rfl, rfl, rfl, rfl, rfl, rfl, rfl, fun _ => Nat.zero_le _⟩
      have hput := lineupsOk_putCue h.1 h.2 hc (hsame _)
      split
      · exact lineupsOk_of_stocks (cueTableOk_putCue h.1 hc (hsame _)) hput (.of_directory rfl) rfl
      · exact hput
    · exact h.2
  | lastDone => exact lineupsOk_of_stocks h.1 h.2 (modTrack_sameStocks _ _ _ fun _ => rfl) (by simp)
  | _ => exact lineupsOk_of_stocks h.1 h.2 (.of_directory (by simp)) (by simp)

theorem Drifts.tableOk {jump : Bool} {s t : State} (ht : Drifts jump s t) (h : TableOk s) :
    TableOk t :=
  ht.keeps (fun _ _ h ha => tableOk_of_stocks h ha.stocks ha.table)
    (fun _ _ h ht => tick_tableOk h ht) h

theorem lineupsOk_storeData {s : State} (hs : CueTableOk s) (h : LineupsOk s) {c : Cue}
    {data : List Byte} (hc : c ∈ s.table.cues) (hlen : c.fill + data.length ≤ c.declared) :
    LineupsOk (storeData c data s) := by
  refine lineupsOk_of_samePlaces hs (cueTableOk_storeData hs hc hlen) h ?_ fun _ _ => .refl _
  exact samePlaces_putCue hs hc (c' := { c with fill := c.fill + data.length })
    ⟨rfl, rfl, rfl, rfl, rfl, fun hoff => hoff.trans (Nat.le_add_right _ _)⟩

theorem lineupsOk_doPost {s : State} (hs : CueTableOk s) (h : LineupsOk s) {q : CuePostReq}
    {slot : Nat} (htrack : (s.track? q.aud q.track).isSome = true)
    (hnum : s.findCue q.aud q.track q.num = none) (hbody : bodyOk q.kind q.body = true)
    (hroom : blocksFor q.body.declared ≤ s.table.free.length)
    (hslot : s.lowestFreeSlot = some slot) : LineupsOk (doPost q slot s).1 := by
  have ht := cueTableOk_doPost hs htrack hbody hroom hslot
  have hnew := (lowestFreeSlot_new hslot).2
  have htable : (doPost q slot s).1.table = (postTable q slot s).table := by
    rw [doPost_eq]
    simp [postLineup]
  have hperm : (doPost q slot s).1.table.cues.Perm
      (postedCue q slot (postBlocks q s) :: s.table.cues) := by
    rw [htable]
    exact (insertCue_split _ _ hs.1 hnew).1
  refine lineupsOk_add hs ht h (c := postedCue q slot (postBlocks q s))
    (hperm.mem_iff.2 List.mem_cons_self) (Nat.zero_le _) (fun d hd hne => ?_) fun a u => ?_
  · obtain rfl | hd := List.mem_cons.1 (hperm.mem_iff.1 hd)
    · exact absurd rfl hne
    · refine ⟨d, hd, .refl d, fun heq => ?_⟩
      have := List.find?_eq_none.1 hnum d hd
      simp only [Prod.mk.injEq] at heq
      exact this (by simpa [postedCue, and_assoc] using heq)
  · refine ⟨s.lineup a u, .refl _, fun hin => ?_, ?_⟩
    · obtain ⟨d, hd, hds, -⟩ := hs.mem_lineup_iff.1 hin
      exact hnew d hd hds
    · have hdir : (doPost q slot s).1.directory
          = (postLineup (postedCue q slot (postBlocks q s)) (postTable q slot s)).directory := by
        rw [doPost_eq]
        simp
      rw [State.lineup_congr hdir, postLineup, State.lineup_modCueCount,
        addToLineup_lineup_of_track (s := postTable q slot s)
          (c := postedCue q slot (postBlocks q s)) htrack, State.lineupKey_congr htable]
      rfl

theorem samePlaces_revised {s : State} (h : LineupsOk s) {c c' : Cue}
    (hc : c ∈ s.table.cues) (hslot : c'.slot = c.slot)
    (hplace : (c'.aud, c'.track, c'.num) = (c.aud, c.track, c.num)) :
    ∀ d' ∈ (s.putCue c').table.cues, d'.slot ≠ c'.slot → ∃ d ∈ s.table.cues, SamePlace d d'
      ∧ (d.aud, d.track, d.num) ≠ (c'.aud, c'.track, c'.num) := by
  intro d' hd' hne
  obtain ⟨d, hd, rfl⟩ := List.mem_map.1 hd'
  by_cases hd1 : d.slot = c'.slot
  · rw [if_pos (by simpa using hd1)] at hne
    exact absurd rfl hne
  · rw [if_neg (by simpa using hd1)]
    refine ⟨d, hd, .refl d, fun heq => hd1 ?_⟩
    rw [h.eq_of_place hd hc (heq.trans hplace), hslot]

theorem lineupsOk_doRevise {s : State} (hs : CueTableOk s) (h : LineupsOk s) {c : Cue} {x : CueBody}
    (hc : c ∈ s.table.cues) (hbody : bodyOk c.kind x = true)
    (hroom : blocksFor x.declared ≤ s.table.free.length + c.blocks.length) :
    LineupsOk (doRevise x c s).1 := by
  have ht := cueTableOk_doRevise hs hc hbody hroom
  have hdir : (doRevise x c s).1.directory = (reviseLineup x c (revisedCue x (reviseBlocks x c s) c)
      (reviseTable x c s)).directory := by
    rw [doRevise_eq]
    simp
  have htable : (doRevise x c s).1.table =
      ((reviseTable x c s).putCue (revisedCue x (reviseBlocks x c s) c)).table := by
    rw [← reviseLineup_table x c, doRevise_eq]
    simp
  have hcues : (doRevise x c s).1.table.cues
      = (s.putCue (revisedCue x (reviseBlocks x c s) c)).table.cues := by
    rw [htable]
    rfl
  by_cases hin : c.inP = x.inP
  · refine lineupsOk_of_samePlaces hs ht h ?_ fun a u => ?_
    · rw [hcues]
      exact samePlaces_putCue hs hc ⟨rfl, rfl, rfl, rfl, hin.symm, fun _ => Nat.zero_le _⟩
    · rw [State.lineup_congr hdir, reviseLineup, if_pos hin]
      exact .refl _
  · have hmem : revisedCue x (reviseBlocks x c s) c ∈ (doRevise x c s).1.table.cues := by
      rw [hcues]
      exact List.mem_map.2 ⟨c, hc, if_pos (by simp [revisedCue])⟩
    refine lineupsOk_add hs ht h hmem (Nat.zero_le _) ?_ fun a u => ?_
    · rw [hcues]
      exact samePlaces_revised h hc rfl rfl
    · refine ⟨(s.lineup a u).filter fun k => k != c.slot, List.filter_sublist, ?_, ?_⟩
      · simp [revisedCue]
      · have hdrop : SameStocks (s.dropFromLineup c) (((reviseTable x c s).dropFromLineup c).putCue
            (revisedCue x (reviseBlocks x c s) c)) :=
          (dropFromLineup_stocks (s := s) (u := reviseTable x c s) rfl c).trans (.of_directory rfl)
        have htable' : (((reviseTable x c s).dropFromLineup c).putCue
            (revisedCue x (reviseBlocks x c s) c)).table = (doRevise x c s).1.table := by
          have hout : ((reviseTable x c s).dropFromLineup c).table = (reviseTable x c s).table := by
            simp
          rw [htable]
          simp only [State.putCue, hout]
        rw [State.lineup_congr hdir, reviseLineup, if_neg hin,
          hs.reAdded_lineup (c' := revisedCue x (reviseBlocks x c s) c) hc rfl rfl hdrop,
          State.lineupKey_congr htable']
        rfl

theorem lineupsOk_openShow {s : State} (hs : CueTableOk s) (h : LineupsOk s) {b : List Byte}
    {q : ShowOpenReq} (hform : showOpen? b = some q) (hclosed : s.isOpen q.aud = false) :
    LineupsOk (openShow q s) := by
  have htable : (openShow q s).table = s.table := by simp
  refine lineupsOk_of_samePlaces hs (cueTableOk_openShow hs hform hclosed) h
    (fun c hc => ⟨c, htable ▸ hc, .refl c⟩) fun a u => ?_
  rw [openShow_lineup hform hclosed]

theorem lineupsOk_freeAll (ks : List Nat) {s : State} (h : TableOk s) :
    TableOk (State.forCues (fun c s => s.freeCue c) ks s) := by
  induction ks generalizing s with
  | nil => exact h
  | cons k ks ih =>
    unfold State.forCues
    split
    · next c hc =>
      exact ih ⟨cueTableOk_freeCue h.1 (mem_of_cueAt hc), lineupsOk_freeCue h.1 h.2 (mem_of_cueAt hc)⟩
    · exact ih h

theorem lineupsOk_closeShow {s : State} (hs : CueTableOk s) (h : LineupsOk s) (a : Aud)
    (l : LaneId) : LineupsOk (closeShow a l s) := by
  have hclear : TableOk (clearTraffic a l s) :=
    tableOk_of_stocks (t := clearTraffic a l s) ⟨hs, h⟩ (.of_directory rfl) rfl
  have hempty : TableOk (emptyShow a l s) := lineupsOk_freeAll (s.slotsOf a) hclear
  have htable : (closeShow a l s).table = (emptyShow a l s).table := by simp [closeShow]
  refine lineupsOk_of_samePlaces hempty.1 (cueTableOk_closeShow hs a l) hempty.2
    (fun c hc => ⟨c, htable ▸ hc, .refl c⟩) fun b u => ?_
  rw [closeShow_lineup]
  split
  · exact List.nil_sublist _
  · exact .refl _

theorem acts_lineupsOk {c : Instr} {s u : State} (hs : CueTableOk s) (h : LineupsOk s)
    (hu : Acts c s u) : LineupsOk u := by
  by_cases hc : driftsOnly c = true
  · exact ((acts_drifts hc (.inl rfl) hu).tableOk ⟨hs, h⟩).2
  have hreset (t : State) (hdir : t.directory = State.reset.directory)
      (htable : t.table = State.reset.table) : LineupsOk t :=
    lineupsOk_of_stocks cueTableOk_reset lineupsOk_reset (.of_directory hdir) htable
  cases hu with
  | reads => exact h
  | showOpen hform hclosed => exact lineupsOk_openShow hs h hform hclosed
  | showClose => exact lineupsOk_closeShow hs h _ _
  | cuePost htrack hnum hbody hroom hslot => exact lineupsOk_doPost hs h htrack hnum hbody hroom hslot
  | cueData hcue hlen => exact lineupsOk_storeData hs h (mem_of_findCue hcue) hlen
  | cueRevise hcue hbody hroom => exact lineupsOk_doRevise hs h (mem_of_findCue hcue) hbody hroom
  | @cueWithdraw c _ _ _ _ hcue =>
    have hbefore : TableOk ((withdrawNotice c s).1.turnRepairsGone c.aud c.track c.num) :=
      tableOk_of_stocks ⟨hs, h⟩ (.of_directory (by simp)) (by simp)
    exact lineupsOk_freeCue hbefore.1 hbefore.2 (by simpa using mem_of_findCue hcue)
  | leaveReset => exact hreset _ rfl rfl
  | restart => exact hreset _ rfl rfl
  | askTaken | askIgnored => exact lineupsOk_of_stocks hs h (.of_directory (by simp)) (by simp)
  | _ => exact absurd rfl hc

/-- Settles O12. -/
theorem cueTableStaysConsistent : Obligations.CueTableStaysConsistent := by
  have hcongr {s t : State} (hdir : t.directory = s.directory) (htable : t.table = s.table)
      (hs : CueTableOk s) : CueTableOk t :=
    cueTableOk_of_stocks hs (.of_directory hdir) (by rw [htable]) (by rw [htable])
  constructor
  · intro s t hs h
    refine step_keeps (I := CueTableOk) (fun _ _ hs => hcongr rfl rfl hs) (fun c s t hs h => ?_) hs h
    exact exec_keeps (I := CueTableOk) (fun _ _ hs => hcongr rfl rfl hs)
      (fun _ _ _ _ _ hs => hcongr rfl rfl hs) (fun _ hs => hcongr rfl rfl hs)
      (fun _ _ hs hu => acts_cueTableOk hs hu) hs h
  · intro s t hs hl h
    have hkeep {s t : State} (hdir : t.directory = s.directory) (htable : t.table = s.table)
        (hs : TableOk s) : TableOk t := tableOk_of_stocks hs (.of_directory hdir) htable
    have hI := step_keeps (I := TableOk) (fun _ _ hs => hkeep rfl rfl hs)
      (fun c s t hs h => exec_keeps (I := TableOk) (fun _ _ hs => hkeep rfl rfl hs)
        (fun _ _ _ _ _ hs => hkeep rfl rfl hs) (fun _ hs => hkeep rfl rfl hs)
        (fun _ _ hs hu => ⟨acts_cueTableOk hs.1 hu, acts_lineupsOk hs.1 hs.2 hu⟩) hs h)
      ⟨hs, hl⟩ h
    exact hI.2

end Sys2Proof.Machine
end


section
/-! SUPPORT. The cue of a slot after a record is written back, a cue is freed, or a pass goes through a list of
slots. -/

namespace Sys2Proof.Machine

theorem cueAt_putCue {s : State} {c c' : Cue} (hc : s.cueAt c.slot = some c)
    (hslot : c'.slot = c.slot) (k : Nat) :
    (s.putCue c').cueAt k = if k = c.slot then some c' else s.cueAt k := by
  have hmap : (s.putCue c').cueAt k
      = (s.cueAt k).map fun x => if x.slot == c'.slot then c' else x := by
    simp only [State.cueAt, State.putCue, List.find?_map]
    congr 2
    funext x
    by_cases hx : x.slot = c'.slot <;> simp [hx]
  rw [hmap]
  split
  · next hk =>
    rw [hk, hc]
    simp [hslot]
  · next hk =>
    cases hx : s.cueAt k with
    | none => rfl
    | some x =>
      have hne : x.slot ≠ c'.slot := by
        rw [slot_of_cueAt hx, hslot]
        exact hk
      simp [hne]

theorem cueAt_freeCue (s : State) (c : Cue) (k : Nat) :
    (s.freeCue c).cueAt k = if k = c.slot then none else s.cueAt k := by
  simp only [State.cueAt, State.freeCue_table, List.find?_filter]
  split
  · next hk =>
    rw [List.find?_eq_none]
    simp [hk]
  · next hk =>
    congr 1
    funext x
    by_cases hx : x.slot = k
    · simp [hx, hk]
    · simp [hx]

theorem cueAt_retire (s : State) (c : Cue) (k : Nat) :
    (s.retire c).cueAt k = if k = c.slot then none else s.cueAt k :=
  (cueAt_congr (by simp [State.retire]) k).trans (cueAt_freeCue s c k)

/-- A pass through a list of slots that does to each cue what `out` says leaves the other slots alone. -/
theorem cueAt_forCues {f : Cue → State → State} {out : Cue → Option Cue} {I : State → Prop}
    (hf : ∀ u c, I u → u.cueAt c.slot = some c →
      I (f c u) ∧ ∀ k, (f c u).cueAt k = if k = c.slot then out c else u.cueAt k)
    {ks : List Nat} (hnodup : ks.Nodup) {s : State} (hs : I s) (k : Nat) :
    (State.forCues f ks s).cueAt k = if k ∈ ks then (s.cueAt k).bind out else s.cueAt k := by
  induction ks generalizing s with
  | nil => simp [State.forCues]
  | cons j js ih =>
    obtain ⟨hj, hjs⟩ := List.nodup_cons.1 hnodup
    unfold State.forCues
    cases hc : s.cueAt j with
    | none =>
      simp only [ih hjs hs, List.mem_cons]
      by_cases hk : k = j
      · simp [hk, hj, hc]
      · simp [hk]
    | some c =>
      have hslot := slot_of_cueAt hc
      obtain ⟨hI, hat⟩ := hf s c hs (cueAt_self hc)
      simp only [ih hjs hI, hat, hslot, List.mem_cons]
      by_cases hk : k = j
      · simp [hk, hj, hc]
      · simp [hk]

/-- No slot stands twice in an auditorium's lineups. -/
theorem CueTableOk.slotsOf_nodup {s : State} (h : CueTableOk s) (a : Aud) : (s.slotsOf a).Nodup := by
  obtain ⟨-, -, hnodup, -⟩ := id h
  refine List.nodup_flatMap.2 ⟨fun t _ => hnodup a t, ?_⟩
  refine (List.nodup_finRange 4).imp fun {t u} htu => ?_
  rw [Function.onFun, List.disjoint_left]
  intro k hkt hku
  obtain ⟨c, hc, rfl, rfl, rfl⟩ := h.mem_lineup_iff.1 hkt
  exact htu (h.place_of_mem_lineup hc hku).2.symm

theorem CueTableOk.mem_slotsOf_iff {s : State} (h : CueTableOk s) {a : Aud} {c : Cue}
    (hc : c ∈ s.table.cues) : c.slot ∈ s.slotsOf a ↔ c.aud = a := by
  constructor
  · intro hmem
    obtain ⟨t, -, ht⟩ := List.mem_flatMap.1 hmem
    exact (h.place_of_mem_lineup hc ht).1.symm
  · rintro rfl
    exact h.mem_slotsOf hc

/-! ### A jump (R83, R84) -/

/-- A cue that a jump to position `p` leaves in the table (R83, R84). -/
def jumpedCue (p : Nat) (c : Cue) : Cue :=
  if p < c.outP then
    { c with
      delivery := .waiting, off := 0, phase := .ahead, relaunch := true, late := false,
      underrun := false, repeatDue := false }
  else
    { c with
      phase := .retained, repeatDue := false, delivery := .sent
      relaunch := if c.delivery = .sent then c.relaunch else false }

/-- Whether a jump to position `p` retires a cue (R84). -/
def jumpRetires (s : State) (p : Nat) (c : Cue) : Bool :=
  decide (c.outP ≤ p) && decide (retireMark s c ≤ p)

theorem jumpCue_eq (p : Nat) (c : Cue) (s : State) :
    jumpCue p c s = if jumpRetires s p c = true then s.retire c else s.putCue (jumpedCue p c) := by
  unfold jumpCue jumpRetires jumpedCue
  by_cases hahead : p < c.outP
  · simp [hahead]
  · simp only [if_neg hahead]
    have hbehind : c.outP ≤ p := Nat.le_of_not_lt hahead
    by_cases hretire : retireMark s c ≤ p
    · simp [hbehind, hretire]
    · by_cases hsent : c.delivery = .sent
      · simp [hretire, hsent]
      · simp [hretire, hsent]

theorem retireMark_congr {s t : State} (h : t.settings = s.settings) (c : Cue) :
    retireMark t c = retireMark s c := by
  rw [retireMark, State.setting_congr h, retireMark]

theorem jumpRetires_congr {s t : State} (h : t.settings = s.settings) (p : Nat) (c : Cue) :
    jumpRetires t p c = jumpRetires s p c := by
  rw [jumpRetires, retireMark_congr h, jumpRetires]

theorem jumpedCue_slot (p : Nat) (c : Cue) : (jumpedCue p c).slot = c.slot := by
  unfold jumpedCue
  split <;> rfl

/-- The cues after a jump: relaunched, retained or retired in the auditorium, untouched elsewhere (R83, R84). -/
theorem cueAt_jumpCues {s : State} (hs : CueTableOk s) (a : Aud) (p : Nat) {c : Cue}
    (hc : c ∈ s.table.cues) :
    (jumpCues a p s).cueAt c.slot =
      if c.aud = a then if jumpRetires s p c = true then none else some (jumpedCue p c)
      else some c := by
  have hpass := cueAt_forCues (f := jumpCue p) (I := fun u => u.settings = s.settings)
    (out := fun c => if jumpRetires s p c = true then none else some (jumpedCue p c))
    (fun u c hu hc => by
      refine ⟨(by simpa using hu), fun k => ?_⟩
      rw [jumpCue_eq, jumpRetires_congr hu]
      split
      · exact cueAt_retire u c k
      · exact cueAt_putCue hc (jumpedCue_slot p c) k)
    (hs.slotsOf_nodup a) (s := s) rfl c.slot
  unfold jumpCues
  rw [hpass, hs.cueAt_of_mem hc]
  simp only [hs.mem_slotsOf_iff hc, Option.bind_some]

end Sys2Proof.Machine
end


section
/-! PROOFS. Every step keeps the Notice Lists, the Repair Queues and the rotations bounded and without repeats,
and the repair entries true to their cues (R108, R120, R121, R151). -/

namespace Sys2Proof.Machine

/-! ### Bounds and repeats -/

theorem Repair.names_iff (e : Repair) (a : Aud) (t : Track) (n : Nat) :
    e.names a t n = true ↔ e.key = (a, t, n) := by
  simp [Repair.names, Repair.key, and_assoc]

/-- An entry joins the queue of a lane that has room and none for its cue (R120, R122). -/
theorem listsOk_appendRepair {s : State} (hs : ListsOk s) (l : LaneId) {e : Repair}
    (hnew : ∀ x ∈ (s.lane l).repairs, x.key ≠ e.key)
    (hroom : (s.lane l).repairs.length < Config.repairSlots) : ListsOk (s.appendRepair l e) := by
  intro k
  unfold State.appendRepair
  dsimp only
  rw [State.lane_withLane]
  split
  · next hk =>
    subst hk
    obtain ⟨hn, hni, hr, hrk, hrot⟩ := hs k
    refine ⟨hn, hni, by simpa using hroom, ?_, hrot⟩
    rw [List.map_append]
    refine hrk.append (List.nodup_singleton _) ?_
    rw [List.map_singleton, List.disjoint_singleton]
    intro hmem
    obtain ⟨x, hx, hkey⟩ := List.mem_map.1 hmem
    exact hnew x hx hkey
  · exact hs k

theorem listsOk_withRepairs {s : State} (hs : ListsOk s) (l : LaneId) (f : Repair → Repair)
    (hf : ∀ e, Descends e (f e)) :
    ListsOk (s.withLane l { s.lane l with repairs := (s.lane l).repairs.map f }) :=
  (listsFollow_withLane (s := s) (l := l)
    (x := { s.lane l with repairs := (s.lane l).repairs.map f })
    (.of_map f hf rfl rfl rfl)).listsOk hs

/-- One more ask for a cue (R122). -/
theorem descends_asks (a : Aud) (t : Track) (n : Nat) (e : Repair) :
    Descends e (if e.names a t n then { e with asks := bumpAsks e.asks } else e) := by
  split
  · exact ⟨rfl, rfl, rfl, fun h => ⟨h, rfl⟩⟩
  · exact .refl e

/-- What an ASK makes of the queue: nothing, one more ask for an entry, or a new entry where there is none for the
cue and room (R122). -/
theorem takeAsk_cases (l : LaneId) (a : Aud) (t : Track) (n : Nat) (f : FrameNo) (s : State) :
    (takeAsk l a t n f s).lanes = s.lanes
      ∨ takeAsk l a t n f s = s.withLane l { s.lane l with
          repairs := (s.lane l).repairs.map fun e =>
            if e.names a t n then { e with asks := bumpAsks e.asks } else e }
      ∨ (∀ e ∈ (s.lane l).repairs, e.key ≠ (a, t, n))
        ∧ (s.lane l).repairs.length < Config.repairSlots
        ∧ ((∃ c, s.findCue a t n = some c ∧ c.delivery = .sent
              ∧ takeAsk l a t n f s = s.appendRepair l (newRepair .content (some c.rev) a t n f))
            ∨ takeAsk l a t n f s = s.appendRepair l (newRepair .gone none a t n f)) := by
  unfold takeAsk
  dsimp only
  split
  · split
    · exact .inl rfl
    · exact .inr (.inl rfl)
  · next hfind =>
    have hnew : ∀ e ∈ (s.lane l).repairs, e.key ≠ (a, t, n) := fun e he hkey =>
      List.find?_eq_none.1 hfind e he ((e.names_iff a t n).2 hkey)
    split
    · next c hc =>
      split
      · next hsent =>
        split
        · exact .inl rfl
        · next hroom => exact .inr (.inr ⟨hnew, Nat.lt_of_not_le hroom, .inl ⟨c, hc, hsent, rfl⟩⟩)
      · exact .inl rfl
    · split
      · exact .inl rfl
      · next hroom => exact .inr (.inr ⟨hnew, Nat.lt_of_not_le hroom, .inr rfl⟩)

theorem listsOk_takeAsk {s : State} (hs : ListsOk s) (l : LaneId) (a : Aud) (t : Track) (n : Nat)
    (f : FrameNo) : ListsOk (takeAsk l a t n f s) := by
  obtain h | h | ⟨hnew, hroom, ⟨c, -, -, h⟩ | h⟩ := takeAsk_cases l a t n f s
  · exact (ListsFollow.of_lanes h).listsOk hs
  · rw [h]
    exact listsOk_withRepairs hs l _ (descends_asks a t n)
  · rw [h]
    exact listsOk_appendRepair hs l hnew hroom
  · rw [h]
    exact listsOk_appendRepair hs l hnew hroom

theorem listsOk_afterReset (s : State) : ListsOk (afterReset s) := by
  intro l
  cases l <;> exact Lane.listsOk_reset _

theorem acts_listsOk {c : Instr} {s u : State} (hs : ListsOk s) (h : Acts c s u) : ListsOk u := by
  have hfollow (hask : ∀ l msg, c ≠ .ask l msg) (hleave : c ≠ .leaveReset) (hrestart : c ≠ .restart) :
      ListsOk u := (acts_listsFollow hask hleave hrestart h).listsOk hs
  cases h with
  | reads => exact hs
  | leaveReset => exact listsOk_afterReset s
  | restart => exact listsOk_afterReset s
  | askTaken => exact listsOk_takeAsk hs _ _ _ _ _
  | askIgnored => exact hs
  | _ => exact hfollow (by simp) (by simp) (by simp)

/-! ### Entries and their cues -/

/-- The cue a CONTENT entry serves: SENT, at the entry's revision (R121). -/
def ServesSent (s : State) (e : Repair) : Prop :=
  ∃ c ∈ s.table.cues, c.aud = e.aud ∧ c.track = e.track ∧ c.num = e.num ∧ c.delivery = .sent
    ∧ e.rev = some c.rev

theorem openOn_iff (s : State) (a : Aud) (l : LaneId) :
    s.openOn a l = true ↔ s.laneOf? a = some l := by
  simp [State.openOn]

/-- Entries stay true to their cues where none is made, none is left of an auditorium that closes, and each
CONTENT entry that stays keeps its cue. -/
theorem repairsOk_follow {s t : State} (h : RepairsOk s) (hlists : ListsFollow s t)
    (hopens : ∀ l, ∀ e ∈ (t.lane l).repairs, s.laneOf? e.aud = some l → t.laneOf? e.aud = some l)
    (hserves : ∀ l, ∀ e ∈ (t.lane l).repairs, e.kind = .content → s.laneOf? e.aud = some l →
      ServesSent s e → ServesSent t e) : RepairsOk t := by
  intro l e' he'
  obtain ⟨e, he, hdesc⟩ := (hlists l).repairs e' he'
  obtain ⟨hopen, hserve⟩ := h l e he
  rw [openOn_iff, ← hdesc.aud] at hopen
  refine ⟨(openOn_iff _ _ _).2 (hopens l e' he' hopen), fun hk => ?_⟩
  obtain ⟨hkind, hrev⟩ := hdesc.content hk
  refine hserves l e' he' hk hopen ?_
  obtain ⟨c, hc, haud, htrack, hnum, hsent, hcrev⟩ := hserve hkind
  exact ⟨c, hc, haud.trans hdesc.aud.symm, htrack.trans hdesc.track.symm, hnum.trans hdesc.num.symm,
    hsent, hrev.trans hcrev⟩

theorem repairsOk_aside {s t : State} (h : RepairsOk s) (ha : Aside s t) : RepairsOk t := by
  refine repairsOk_follow h ha.lists (fun l e _ hl => (ha.opens e.aud).trans hl)
    fun _ _ _ _ _ hserves => ?_
  unfold ServesSent
  rwa [ha.table]

/-- A cue other than the one written back stays. -/
theorem mem_putCue_of_ne {s : State} {c c' d : Cue} (hslot : c'.slot = c.slot)
    (hd : d ∈ s.table.cues) (hne : d.slot ≠ c.slot) : d ∈ (s.putCue c').table.cues :=
  List.mem_map.2 ⟨d, hd, if_neg (by simpa [hslot] using hne)⟩

theorem mem_putCue_self {s : State} {c c' : Cue} (hslot : c'.slot = c.slot)
    (hc : c ∈ s.table.cues) : c' ∈ (s.putCue c').table.cues :=
  List.mem_map.2 ⟨c, hc, if_pos (by simp [hslot])⟩

/-- A CONTENT entry keeps its cue when another cue's slot changes. -/
theorem servesSent_of_key_ne {s t : State} (hs : CueTableOk s) {c : Cue} (hc : c ∈ s.table.cues)
    (hkeep : ∀ d ∈ s.table.cues, d.slot ≠ c.slot → d ∈ t.table.cues) {e : Repair}
    (hkey : e.key ≠ (c.aud, c.track, c.num)) (h : ServesSent s e) : ServesSent t e := by
  obtain ⟨d, hd, haud, htrack, hnum, hrest⟩ := h
  refine ⟨d, hkeep d hd fun hslot => hkey ?_, haud, htrack, hnum, hrest⟩
  rw [← hs.eq_of_slot_eq hc hd hslot, haud, htrack, hnum, Repair.key]

theorem servesSent_putCue {s : State} (hs : CueTableOk s) {c c' : Cue} (hc : s.cueAt c.slot = some c)
    (hsame : SamePlace c c') (hrev : c'.rev = c.rev) (hsent : c.delivery = .sent → c'.delivery = .sent)
    {e : Repair} (h : ServesSent s e) : ServesSent (s.putCue c') e := by
  obtain ⟨d, hd, haud, htrack, hnum, hdsent, hdrev⟩ := h
  by_cases hslot : d.slot = c.slot
  · obtain rfl := hs.eq_of_slot_eq (mem_of_cueAt hc) hd hslot
    exact ⟨c', mem_putCue_self hsame.slot hd, hsame.aud.trans haud, hsame.track.trans htrack,
      hsame.num.trans hnum, hsent hdsent, hdrev.trans (by rw [hrev])⟩
  · exact ⟨d, mem_putCue_of_ne hsame.slot hd hslot, haud, htrack, hnum, hdsent, hdrev⟩

/-- No CONTENT entry is left for a cue whose entry has turned GONE (R132). -/
theorem key_ne_of_turned {s : State} {a : Aud} {t : Track} {n : Nat} {l : LaneId} {e : Repair}
    (hl : s.laneOf? a = some l) (he : e ∈ ((s.turnRepairsGone a t n).lane l).repairs)
    (hk : e.kind = .content) : e.key ≠ (a, t, n) := by
  unfold State.turnRepairsGone at he
  rw [hl] at he
  dsimp only at he
  rw [State.lane_withLane_self] at he
  obtain ⟨x, -, rfl⟩ := List.mem_map.1 he
  intro hkey
  by_cases hx : x.names a t n = true
  · rw [if_pos hx] at hk
    cases hk
  · rw [if_neg hx] at hkey
    exact hx ((x.names_iff a t n).2 hkey)

/-- No entry is left for a cue whose entries are removed (R130). -/
theorem key_ne_of_removed {s : State} {a : Aud} {t : Track} {n : Nat} {l : LaneId} {e : Repair}
    (hl : s.laneOf? a = some l) (he : e ∈ ((s.removeRepairsOf a t n).lane l).repairs) :
    e.key ≠ (a, t, n) := by
  unfold State.removeRepairsOf at he
  rw [hl] at he
  dsimp only at he
  rw [State.lane_withLane_self] at he
  have hkeep : (!e.names a t n) = true := (List.mem_filter.1 he).2
  intro hkey
  rw [(e.names_iff a t n).2 hkey] at hkeep
  cases hkeep

theorem freeCue_keeps (s : State) (c : Cue) :
    ∀ d ∈ s.table.cues, d.slot ≠ c.slot → d ∈ (s.freeCue c).table.cues := by
  intro d hd hne
  rw [State.freeCue_table]
  exact List.mem_filter.2 ⟨hd, by simpa using hne⟩

theorem tick_repairsOk {s t : State} (hs : CueTableOk s) (h : RepairsOk s) (ht : Tick false s t) :
    RepairsOk t := by
  have hlists := tick_listsFollow ht
  have hopens := (tick_sameCores ht).opens
  refine repairsOk_follow h hlists (fun l e _ hl => (hopens e.aud).trans hl) fun l e he hk hl hserves => ?_
  have hsame (htable : t.table = s.table) : ServesSent t e := by
    unfold ServesSent
    rwa [htable]
  cases ht with
  | cue hc hcue hsent =>
    exact servesSent_putCue hs hc hcue.samePlace hcue.rev (hsent.resolve_left (by simp)) hserves
  | @retire c hc =>
    have hfree : ServesSent (s.freeCue c) e := by
      refine servesSent_of_key_ne hs (mem_of_cueAt hc) (freeCue_keeps s c) (fun hkey => ?_) hserves
      have haud : e.aud = c.aud := congrArg Prod.fst hkey
      refine key_ne_of_turned ?_ he hk hkey
      rw [(freeCue_sameCores s c).opens, ← haud, hl]
    unfold ServesSent at hfree ⊢
    simpa [State.retire] using hfree
  | @reWait c hc =>
    unfold reWaitCue at he ⊢
    by_cases hun : isUnattended c = true
    · rw [if_pos hun] at he ⊢
      dsimp only at he ⊢
      have hkey : e.key ≠ (c.aud, c.track, c.num) := fun hkey => by
        have haud : e.aud = c.aud := congrArg Prod.fst hkey
        have hlane : (s.putCue { c with delivery := .waiting, off := 0 }).laneOf? c.aud = some l := by
          rw [← haud]
          exact hl
        rw [hlane] at he
        dsimp only at he
        rw [State.lane_withLane_self] at he
        have hkeep : (!(e.kind == .content && e.names c.aud c.track c.num)) = true :=
          (List.mem_filter.1 he).2
        rw [hk, (e.names_iff _ _ _).2 hkey] at hkeep
        cases hkeep
      have hput : ServesSent (s.putCue { c with delivery := .waiting, off := 0 }) e := by
        refine servesSent_of_key_ne hs (mem_of_cueAt hc) (fun d hd hne => ?_) hkey hserves
        exact mem_putCue_of_ne (c := c) (c' := { c with delivery := .waiting, off := 0 }) rfl hd hne
      split <;> exact hput
    · rw [if_neg hun]
      exact hserves
  | _ => exact hsame (by simp)

theorem Drifts.repairsOk {s t : State} (ht : Drifts false s t) (hs : CueTableOk s)
    (h : RepairsOk s) : RepairsOk t := by
  have hI := ht.keeps (I := fun u => CueTableOk u ∧ RepairsOk u)
    (fun _ _ h ha => ⟨cueTableOk_of_stocks h.1 ha.stocks (by rw [ha.table]) (by rw [ha.table]),
      repairsOk_aside h.2 ha⟩)
    (fun _ _ h ht => ⟨tick_cueTableOk h.1 ht, tick_repairsOk h.1 h.2 ht⟩) ⟨hs, h⟩
  exact hI.2

/-! ### The requests on cues and shows -/

theorem repairsOk_openShow {s : State} (h : RepairsOk s) {q : ShowOpenReq}
    (hclosed : s.isOpen q.aud = false) : RepairsOk (openShow q s) := by
  have htable : (openShow q s).table = s.table := by simp
  refine repairsOk_follow h (openShow_listsFollow s q) (fun l e _ hl => ?_) fun _ _ _ _ _ hserves => ?_
  · rw [openShow_laneOf?, if_neg, hl]
    intro he
    rw [State.isOpen_eq_laneOf?, ← he, hl] at hclosed
    cases hclosed
  · unfold ServesSent
    rwa [htable]

theorem repairsOk_closeShow {s : State} (hs : CueTableOk s) (h : RepairsOk s) {a : Aud} {w : Show}
    (hopen : s.theShow? a = some w) : RepairsOk (closeShow a w.lane s) := by
  have hgone (l : LaneId) (e : Repair) (he : e ∈ ((closeShow a w.lane s).lane l).repairs)
      (hl : s.laneOf? e.aud = some l) : e.aud ≠ a := by
    intro ha
    have hw : w.lane = l := by
      rw [ha, State.laneOf?, hopen] at hl
      exact Option.some.inj hl
    have hfollow : ListsFollow (clearTraffic a w.lane s) (closeShow a w.lane s) :=
      (forCues_listsFollow (fun c s => freeCue_listsFollow s c) (s.slotsOf a) _).trans
        (.of_lanes (by simp [closeShow]; rfl))
    obtain ⟨x, hx, hdesc⟩ := (hfollow l).repairs e he
    unfold clearTraffic at hx
    rw [← hw, State.lane_withLane_self] at hx
    have hkeep := (List.mem_filter.1 hx).2
    rw [hdesc.aud] at ha
    simp [ha] at hkeep
  refine repairsOk_follow h (closeShow_listsFollow s a w.lane) (fun l e he hl => ?_)
    fun l e he _ hl hserves => ?_
  · rw [closeShow_laneOf?, if_neg (hgone l e he hl), hl]
  · obtain ⟨c, hc, haud, hrest⟩ := hserves
    refine ⟨c, ?_, haud, hrest⟩
    have htable : (closeShow a w.lane s).table = (emptyShow a w.lane s).table := by simp [closeShow]
    have hclear : CueTableOk (clearTraffic a w.lane s) :=
      cueTableOk_of_stocks hs (.of_directory rfl) rfl rfl
    rw [htable, emptyShow, (freeAll_cueTableOk (s.slotsOf a) hclear).2]
    refine List.mem_filter.2 ⟨hc, ?_⟩
    have hout : c.slot ∉ s.slotsOf a := fun hin =>
      hgone l e he hl (haud.symm.trans ((hs.mem_slotsOf_iff hc).1 hin))
    simpa using hout

/-- No entry of an auditorium is left on its lane after a jump (R131). -/
theorem aud_ne_of_purged {s : State} {a : Aud} {l : LaneId} {e : Repair}
    (he : e ∈ ((purgeRepairs a s).lane l).repairs) (hl : s.laneOf? e.aud = some l) : e.aud ≠ a := by
  rintro rfl
  unfold purgeRepairs at he
  rw [hl] at he
  dsimp only at he
  rw [State.lane_withLane_self] at he
  have hkeep : (!(e.aud == e.aud)) = true := (List.mem_filter.1 he).2
  simp at hkeep

theorem jumpEffects_eq (a : Aud) (p : Nat) (s : State) :
    jumpEffects a p s = purgeRepairs a (jumpCues a p
      (forgetInBuild a ((s.latch .tlJump (.aud a)).countAud a .jumps))) := rfl

theorem repairsOk_jumpEffects {s : State} (hs : CueTableOk s) (h : RepairsOk s) (a : Aud) (p : Nat) :
    RepairsOk (jumpEffects a p s) := by
  have hopens := (jumpEffects_sameCores s a p).opens
  have hforgot : (forgetInBuild a ((s.latch .tlJump (.aud a)).countAud a .jumps)).table = s.table := by
    simp
  have hcues : CueTableOk (forgetInBuild a ((s.latch .tlJump (.aud a)).countAud a .jumps)) :=
    cueTableOk_of_stocks hs (.of_directory (by simp)) (by rw [hforgot]) (by rw [hforgot])
  have hdir : (jumpCues a p (forgetInBuild a ((s.latch .tlJump (.aud a)).countAud a .jumps))).laneOf?
      = s.laneOf? := by
    funext b
    refine ((jumpCues_ticks a p _).sameCores.opens b).trans (SameOpens.of_directory ?_ b)
    simp
  refine repairsOk_follow h (jumpEffects_listsFollow s a p) (fun l e _ hl => (hopens e.aud).trans hl)
    fun l e he _ hl hserves => ?_
  rw [jumpEffects_eq] at he ⊢
  have hother : e.aud ≠ a := aud_ne_of_purged he (by rw [hdir, hl])
  obtain ⟨c, hc, haud, hrest⟩ := hserves
  refine ⟨c, ?_, haud, hrest⟩
  have hat := cueAt_jumpCues hcues a p (c := c) (by rwa [hforgot])
  rw [if_neg (haud ▸ hother)] at hat
  have htable : ∀ u : State, (purgeRepairs a u).table = u.table := fun u => by simp
  rw [htable]
  exact mem_of_cueAt hat

theorem repairsOk_reportTaken {s : State} (hs : CueTableOk s) (h : RepairsOk s) (q : ReportReq) :
    RepairsOk (reportTaken q s) := by
  have hacted := reportActed_aside s q
  by_cases hjump : (effectOf q s).outcome = .jump
  · rw [reportTaken_of_jump hjump]
    have hcues : CueTableOk (reportActed q s) :=
      cueTableOk_of_stocks hs hacted.stocks (by rw [hacted.table]) (by rw [hacted.table])
    exact repairsOk_aside (repairsOk_jumpEffects hcues (repairsOk_aside h hacted) q.aud q.pos)
      (.of_lanes (by simp) (by simp) (by simp))
  · rw [reportTaken_of_noJump hjump]
    exact repairsOk_aside h (hacted.trans (.of_lanes (by simp) (by simp) (by simp)))

theorem repairsOk_doPost {s : State} (hs : CueTableOk s) (h : RepairsOk s) {q : CuePostReq}
    {slot : Nat} (hslot : s.lowestFreeSlot = some slot) : RepairsOk (doPost q slot s).1 := by
  have hopens := (doPost_sameCores s q slot).opens
  refine repairsOk_follow h (doPost_listsFollow s q slot) (fun l e _ hl => (hopens e.aud).trans hl)
    fun l e _ _ _ hserves => ?_
  obtain ⟨c, hc, hrest⟩ := hserves
  have htable : (doPost q slot s).1.table = (postTable q slot s).table := by
    rw [doPost_eq]
    simp [postLineup]
  refine ⟨c, ?_, hrest⟩
  rw [htable]
  exact (insertCue_split _ _ hs.1 (lowestFreeSlot_new hslot).2).1.mem_iff.2 (List.mem_cons_of_mem _ hc)

theorem doRevise_cues (x : CueBody) (c : Cue) (s : State) :
    (doRevise x c s).1.table.cues = (s.putCue (revisedCue x (reviseBlocks x c s) c)).table.cues := by
  have htable : (doRevise x c s).1.table =
      ((reviseTable x c s).putCue (revisedCue x (reviseBlocks x c s) c)).table := by
    rw [← reviseLineup_table x c, doRevise_eq]
    simp
  rw [htable]
  rfl

theorem repairsOk_doRevise {s : State} (hs : CueTableOk s) (h : RepairsOk s) {c : Cue} {x : CueBody}
    (hc : c ∈ s.table.cues) : RepairsOk (doRevise x c s).1 := by
  have hopens := (doRevise_sameCores s x c).opens
  refine repairsOk_follow h (doRevise_listsFollow s x c) (fun l e _ hl => (hopens e.aud).trans hl)
    fun l e he _ hl hserves => ?_
  have hkey : e.key ≠ (c.aud, c.track, c.num) := fun hkey => by
    have haud : e.aud = c.aud := congrArg Prod.fst hkey
    rw [doRevise_eq] at he
    refine key_ne_of_removed ?_ he hkey
    have hbefore := (reviseLineup_sameCores x c (revisedCue x (reviseBlocks x c s) c)
      (reviseTable x c s)).opens
    have hjudged : SameOpens s ((reviseLineup x c (revisedCue x (reviseBlocks x c s) c)
        (reviseTable x c s)).judgePool (.aud c.aud)) :=
      ((SameOpens.of_directory (s := s) rfl).trans hbefore).trans (.of_directory (by simp))
    rw [hjudged, ← haud, hl]
  refine servesSent_of_key_ne hs hc (fun d hd hne => ?_) hkey hserves
  rw [doRevise_cues]
  exact mem_putCue_of_ne rfl hd hne

theorem repairsOk_withdrawCue {s : State} (hs : CueTableOk s) (h : RepairsOk s) {c : Cue}
    (hc : c ∈ s.table.cues) : RepairsOk (withdrawCue c s) := by
  have hopens := (withdrawCue_sameCores s c).opens
  have hbefore : SameOpens s (withdrawNotice c s).1 := .of_directory (by simp)
  refine repairsOk_follow h (withdrawCue_listsFollow s c) (fun l e _ hl => (hopens e.aud).trans hl)
    fun l e he hk hl hserves => ?_
  have hkey : e.key ≠ (c.aud, c.track, c.num) := fun hkey => by
    have haud : e.aud = c.aud := congrArg Prod.fst hkey
    obtain ⟨x, hx, hdesc⟩ := (freeCue_listsFollow _ c l).repairs e he
    refine key_ne_of_turned ?_ hx (hdesc.content hk).1 (hdesc.key.symm.trans hkey)
    rw [hbefore, ← haud, hl]
  refine servesSent_of_key_ne hs hc (fun d hd hne => ?_) hkey hserves
  exact freeCue_keeps _ c d (by simpa using hd) hne

theorem openOn_of_askValid {l : LaneId} {m : AskMsg} {s : State} (h : askValid l m s = true) :
    s.openOn m.aud l = true := by
  unfold askValid at h
  split at h
  · simp only [Bool.and_eq_true] at h
    exact h.1.2
  · cases h

theorem repairsOk_takeAsk {s : State} (h : RepairsOk s) {l : LaneId} {m : AskMsg}
    (hvalid : askValid l m s = true) (f : FrameNo) :
    RepairsOk (takeAsk l m.aud m.track m.num f s) := by
  have hdir : (takeAsk l m.aud m.track m.num f s).directory = s.directory := by simp
  have htable : (takeAsk l m.aud m.track m.num f s).table = s.table := by simp
  have hopens : SameOpens s (takeAsk l m.aud m.track m.num f s) := .of_directory hdir
  have hfollow (hlists : ListsFollow s (takeAsk l m.aud m.track m.num f s)) :
      RepairsOk (takeAsk l m.aud m.track m.num f s) :=
    repairsOk_aside h (.of_same hdir htable hlists)
  have hnew {e : Repair} (haud : e.aud = m.aud)
      (hserves : e.kind = .content → ServesSent s e)
      (heq : takeAsk l m.aud m.track m.num f s = s.appendRepair l e) :
      RepairsOk (takeAsk l m.aud m.track m.num f s) := by
    have hopen := openOn_of_askValid hvalid
    intro k x hx
    have hxs : x ∈ (s.lane k).repairs ∨ (k = l ∧ x = e) := by
      rw [heq, State.appendRepair] at hx
      rw [State.lane_withLane] at hx
      split at hx
      · next hk =>
        subst hk
        obtain hx | hx := List.mem_append.1 hx
        · exact .inl hx
        · exact .inr ⟨rfl, List.mem_singleton.1 hx⟩
      · exact .inl hx
    rw [hopens.openOn, htable]
    obtain hx | ⟨rfl, rfl⟩ := hxs
    · exact h k x hx
    · exact ⟨haud ▸ hopen, hserves⟩
  obtain h | h | ⟨-, -, ⟨c, hc, hsent, h⟩ | h⟩ := takeAsk_cases l m.aud m.track m.num f s
  · exact hfollow (.of_lanes h)
  · rw [h] at hfollow ⊢
    exact hfollow (listsFollow_withLane (.of_map _ (descends_asks _ _ _) rfl rfl rfl))
  · refine hnew rfl (fun _ => ⟨c, mem_of_findCue hc, ?_⟩) h
    have := List.find?_some hc
    simp only [Bool.and_eq_true, beq_iff_eq] at this
    obtain ⟨⟨ha, ht⟩, hn⟩ := this
    exact ⟨ha, ht, hn, hsent, rfl⟩
  · refine hnew rfl (fun hk => ?_) h
    cases hk

theorem acts_repairsOk {c : Instr} {s u : State} (hs : CueTableOk s) (h : RepairsOk s)
    (hu : Acts c s u) : RepairsOk u := by
  by_cases hreport : c = .timelineReport
  · subst hreport
    cases hu with
    | reads => exact h
    | timelineReport => exact repairsOk_reportTaken hs h _
  by_cases hc : driftsOnly c = true
  · exact (acts_drifts hc (.inr hreport) hu).repairsOk hs h
  have hreset : RepairsOk (afterReset s) := by
    intro l e he
    cases l <;> cases he
  cases hu with
  | reads => exact h
  | showOpen _ hclosed => exact repairsOk_openShow h hclosed
  | showClose hopen => exact repairsOk_closeShow hs h hopen
  | cuePost _ _ _ _ hslot => exact repairsOk_doPost hs h hslot
  | @cueData c data _ _ _ _ hcue _ =>
    refine repairsOk_follow (t := storeData c data s) h (.of_lanes rfl) (fun _ _ _ hl => hl)
      fun l e _ _ _ hserves => ?_
    have hplace : SamePlace c { c with fill := c.fill + data.length } :=
      ⟨rfl, rfl, rfl, rfl, rfl, fun hoff => hoff.trans (Nat.le_add_right _ _)⟩
    exact servesSent_putCue hs (hs.cueAt_of_mem (mem_of_findCue hcue)) hplace rfl id hserves
  | cueRevise hcue => exact repairsOk_doRevise hs h (mem_of_findCue hcue)
  | cueWithdraw hcue => exact repairsOk_withdrawCue hs h (mem_of_findCue hcue)
  | leaveReset => exact hreset
  | restart => exact hreset
  | askTaken hvalid => exact repairsOk_takeAsk h hvalid _
  | askIgnored => exact repairsOk_aside h (.of_lanes rfl rfl rfl)
  | _ => exact absurd rfl hc

/-- Settles O8. -/
theorem listsStayBounded : Obligations.ListsStayBounded := by
  constructor
  · intro s t hs h
    refine step_keeps (I := ListsOk) (fun _ _ hs => hs) (fun c s t hs h => ?_) hs h
    exact exec_keeps (I := ListsOk) (fun _ _ hs => hs) (fun _ _ _ _ _ hs => hs) (fun _ hs => hs)
      (fun _ _ hs hu => acts_listsOk hs hu) hs h
  · intro s t hs hl hr h
    have hkeep {s t : State} (hdir : t.directory = s.directory) (htable : t.table = s.table)
        (hlanes : t.lanes = s.lanes) (hs : TableOk s ∧ RepairsOk s) : TableOk t ∧ RepairsOk t :=
      ⟨tableOk_of_stocks hs.1 (.of_directory hdir) htable,
        repairsOk_aside hs.2 (.of_lanes hdir htable hlanes)⟩
    have hI := step_keeps (I := fun s => TableOk s ∧ RepairsOk s) (fun _ _ hs => hkeep rfl rfl rfl hs)
      (fun c s t hs h => exec_keeps (I := fun s => TableOk s ∧ RepairsOk s)
        (fun _ _ hs => hkeep rfl rfl rfl hs) (fun _ _ _ _ _ hs => hkeep rfl rfl rfl hs)
        (fun _ hs => hkeep rfl rfl rfl hs)
        (fun _ _ hs hu => ⟨⟨acts_cueTableOk hs.1.1 hu, acts_lineupsOk hs.1.1 hs.1.2 hu⟩,
          acts_repairsOk hs.1.1 hs.2 hu⟩) hs h)
      ⟨⟨hs, hl⟩, hr⟩ h
    exact hI.2

end Sys2Proof.Machine
end


section
/-! SUPPORT. The Receiver Roster: what a rewritten, an added and a removed record make of its order, of the
unmatched flags and of the listener counts (R7, R135, R137, R138). -/

namespace Sys2Proof.Machine

/-! ### Records and their voices -/

/-- What the order of the roster, its serials and the listener counts see of a record (R7, R135, R137). -/
def RxRec.voice (r : RxRec) : RxIdx × Nat × RxKind × Aud × Track × Bool × Bool :=
  (r.index, r.serial, r.kind, r.aud, r.track, r.unmatched, countingState r.state)

/-- Each record keeps its voice. -/
def SameVoices (s t : State) : Prop := t.roster.map RxRec.voice = s.roster.map RxRec.voice

theorem SameVoices.refl (s : State) : SameVoices s s := rfl

theorem SameVoices.trans {s t u : State} (h : SameVoices s t) (h' : SameVoices t u) :
    SameVoices s u := Eq.trans h' h

theorem SameVoices.of_roster {s t : State} (h : t.roster = s.roster) : SameVoices s t := by
  rw [SameVoices, h]

/-- Each record keeps its index and serial. -/
def SameIds (s t : State) : Prop :=
  t.roster.map (fun r => (r.index, r.serial)) = s.roster.map fun r => (r.index, r.serial)

theorem SameVoices.ids {s t : State} (h : SameVoices s t) : SameIds s t := by
  simpa [SameIds, RxRec.voice, Function.comp_def] using
    congrArg (List.map fun v : RxIdx × Nat × RxKind × Aud × Track × Bool × Bool => (v.1, v.2.1)) h

theorem rosterOk_of_ids {s t : State} (hs : RosterOk s) (h : SameIds s t) : RosterOk t := by
  obtain ⟨horder, hserials⟩ := hs
  have hi : t.roster.map (fun r => r.index.val) = s.roster.map fun r => r.index.val := by
    simpa [Function.comp_def] using congrArg (List.map fun v : RxIdx × Nat => v.1.val) h
  have hn : t.roster.map RxRec.serial = s.roster.map RxRec.serial := by
    simpa [Function.comp_def] using congrArg (List.map fun v : RxIdx × Nat => v.2) h
  exact ⟨hi ▸ horder, hn ▸ hserials⟩

theorem RosterOk.eq_of_index {s : State} (hs : RosterOk s) {r x : RxRec} (hr : r ∈ s.roster)
    (hx : x ∈ s.roster) (h : r.index = x.index) : r = x :=
  List.inj_on_of_nodup_map (hs.1.imp Nat.ne_of_lt) hr hx (congrArg Fin.val h)

theorem mem_of_rx? {s : State} {i : RxIdx} {r : RxRec} (h : s.rx? i = some r) : r ∈ s.roster :=
  List.mem_of_find?_eq_some h

theorem RosterOk.rx?_of_mem {s : State} (hs : RosterOk s) {r : RxRec} (hr : r ∈ s.roster) :
    s.rx? r.index = some r := by
  cases h : s.rx? r.index with
  | none =>
    have := List.find?_eq_none.1 h r hr
    simp at this
  | some x => rw [hs.eq_of_index hr (mem_of_rx? h) (State.index_of_rx? h).symm]

/-- The roster around one of its records. -/
theorem RosterOk.split {s : State} (hs : RosterOk s) {x : RxRec} (hx : x ∈ s.roster) :
    ∃ pre post, s.roster = pre ++ x :: post ∧ ∀ r ∈ pre ++ post, r.index ≠ x.index := by
  obtain ⟨pre, post, hsplit⟩ := List.append_of_mem hx
  obtain ⟨horder, -⟩ := hs
  refine ⟨pre, post, hsplit, fun r hr heq => ?_⟩
  have hnodup : ((pre ++ x :: post).map fun r => r.index.val).Nodup :=
    hsplit ▸ horder.imp Nat.ne_of_lt
  rw [List.map_append, List.map_cons, List.nodup_middle, List.nodup_cons, ← List.map_append,
    ← heq] at hnodup
  exact hnodup.1 (List.mem_map_of_mem hr)

theorem putRx_split {s : State} {x r : RxRec} {pre post : List RxRec} (hindex : r.index = x.index)
    (hsplit : s.roster = pre ++ x :: post) (hne : ∀ y ∈ pre ++ post, y.index ≠ x.index) :
    (s.putRx r).roster = pre ++ r :: post := by
  have hkeep (xs : List RxRec) (hxs : ∀ y ∈ xs, y.index ≠ x.index) :
      xs.map (fun y => if y.index == r.index then r else y) = xs := by
    conv_rhs => rw [← List.map_id xs]
    exact List.map_congr_left fun y hy => if_neg (by simpa [hindex] using hxs y hy)
  show s.roster.map _ = _
  rw [hsplit, List.map_append, List.map_cons,
    hkeep pre fun y hy => hne y (List.mem_append_left _ hy),
    hkeep post fun y hy => hne y (List.mem_append_right _ hy)]
  simp [hindex]

theorem sameVoices_putRx {s : State} (hs : RosterOk s) {x r : RxRec} (hx : x ∈ s.roster)
    (hvoice : r.voice = x.voice) : SameVoices s (s.putRx r) := by
  obtain ⟨pre, post, hsplit, hne⟩ := hs.split hx
  have hindex : r.index = x.index := congrArg Prod.fst hvoice
  rw [SameVoices, putRx_split hindex hsplit hne, hsplit]
  simp [hvoice]

theorem sameIds_putRx {s : State} (hs : RosterOk s) {x r : RxRec} (hx : x ∈ s.roster)
    (hindex : r.index = x.index) (hserial : r.serial = x.serial) : SameIds s (s.putRx r) := by
  obtain ⟨pre, post, hsplit, hne⟩ := hs.split hx
  rw [SameIds, putRx_split hindex hsplit hne, hsplit]
  simp [hindex, hserial]

/-! ### Tracks and their kinds -/

/-- Every track stays, with its kind. -/
def SameKinds (s t : State) : Prop :=
  ∀ a u, (t.track? a u).map TrackRec.kind = (s.track? a u).map TrackRec.kind

theorem SameKinds.refl (s : State) : SameKinds s s := fun _ _ => rfl

theorem SameKinds.trans {s t u : State} (h : SameKinds s t) (h' : SameKinds t u) : SameKinds s u :=
  fun a v => (h' a v).trans (h a v)

theorem SameKinds.of_directory {s t : State} (h : t.directory = s.directory) : SameKinds s t :=
  fun a u => by rw [State.track?_congr h]

theorem SameCores.kinds {s t : State} (h : SameCores s t) : SameKinds s t := fun a u => by
  simpa [Function.comp_def] using congrArg (Option.map Prod.fst) (h.track a u)

theorem modTrack_sameKinds (s : State) (a : Aud) (t : Track) {f : TrackRec → TrackRec}
    (hf : ∀ r, (f r).kind = r.kind) : SameKinds s (s.modTrack a t f) := by
  intro b u
  rw [State.track?_modTrack]
  split
  · next h =>
    obtain ⟨rfl, rfl⟩ := h
    cases s.track? b u <;> simp [hf]
  · rfl

theorem unCount_sameKinds (s : State) (r : RxRec) : SameKinds s (s.unCount r) := by
  unfold State.unCount
  split
  · exact modTrack_sameKinds _ _ _ fun _ => rfl
  · exact .refl s

theorem countUp_sameKinds (s : State) (a : Aud) (t : Track) : SameKinds s (s.countUp a t) :=
  modTrack_sameKinds _ _ _ fun _ => rfl

/-- Whether a record is matched on a track of a kind, if there is one. -/
theorem State.matched_eq (s : State) (r : RxRec) :
    s.matched r = (((s.track? r.aud r.track).map TrackRec.kind).map (suits r.kind)).getD false := by
  unfold State.matched
  cases s.track? r.aud r.track <;> rfl

theorem State.counted_eq (s : State) (r : RxRec) :
    s.counted r = (countingState r.state
      && ((s.track? r.aud r.track).map TrackRec.kind).isSome && !r.unmatched) := by
  simp [State.counted]

theorem SameKinds.matched {s t : State} (h : SameKinds s t) (r : RxRec) :
    t.matched r = s.matched r := by
  rw [State.matched_eq, h, ← State.matched_eq]

theorem SameKinds.counted {s t : State} (h : SameKinds s t) (r : RxRec) :
    t.counted r = s.counted r := by
  rw [State.counted_eq, h, ← State.counted_eq]

/-! ### The listener counts -/

/-- Whether a record counts for a track (R137). -/
def countsFor (s : State) (a : Aud) (t : Track) (r : RxRec) : Bool :=
  r.aud == a && r.track == t && s.counted r

theorem countsFor_iff (s : State) (a : Aud) (t : Track) (r : RxRec) :
    countsFor s a t r = true ↔ (a = r.aud ∧ t = r.track) ∧ s.counted r = true := by
  rw [countsFor, Bool.and_eq_true, Bool.and_eq_true, beq_iff_eq, beq_iff_eq, eq_comm (a := a),
    eq_comm (a := t)]

theorem recountOf_eq (s : State) (a : Aud) (t : Track) :
    recountOf s a t = s.roster.countP (countsFor s a t) := List.countP_eq_length_filter.symm

/-- Which records count for a track depends on that track's kind alone. -/
theorem countsFor_congr {s t : State} {a : Aud} {u : Track}
    (h : (t.track? a u).map TrackRec.kind = (s.track? a u).map TrackRec.kind) :
    countsFor t a u = countsFor s a u := by
  funext r
  by_cases hr : r.aud = a ∧ r.track = u
  · obtain ⟨rfl, rfl⟩ := hr
    rw [countsFor, countsFor, State.counted_eq, h, ← State.counted_eq]
  · have hoff : (r.aud == a && r.track == u) = false := by simpa using hr
    rw [countsFor, countsFor, hoff, Bool.false_and, Bool.false_and]

/-- Every listener count is that of the counted records: 0 where there is no track (R138). -/
def CountsOk (s : State) : Prop := ∀ a t, s.listeners a t = recountOf s a t

/-- The unmatched flags of the records of open auditoriums are true (R7). -/
def FlagsOk (s : State) : Prop :=
  ∀ r ∈ s.roster, s.isOpen r.aud = true → r.unmatched = !s.matched r

theorem recountOf_of_noTrack {s : State} {a : Aud} {t : Track} (h : s.track? a t = none) :
    recountOf s a t = 0 := by
  rw [recountOf_eq, List.countP_eq_zero]
  intro r _ hr
  obtain ⟨⟨rfl, rfl⟩, hcounted⟩ := (countsFor_iff s a t r).1 hr
  simp [State.counted, h] at hcounted

theorem listenersOk_iff (s : State) : ListenersOk s ↔ FlagsOk s ∧ CountsOk s := by
  refine and_congr_right fun _ => ⟨fun h a t => ?_, fun h a t w hw => ?_⟩
  · cases hw : s.track? a t with
    | none => rw [recountOf_of_noTrack hw, State.listeners, hw]
    | some w =>
      rw [State.listeners, hw]
      exact h a t w hw
  · have hcount : s.listeners a t = w.listeners := by rw [State.listeners, hw]
    exact hcount.symm.trans (h a t)

theorem listeners_eq_core (s : State) (a : Aud) (t : Track) :
    s.listeners a t
      = ((s.track? a t).map fun r => (r.kind, r.listeners)).elim 0 Prod.snd := by
  unfold State.listeners
  cases s.track? a t <;> rfl

theorem SameCores.listeners {s t : State} (h : SameCores s t) (a : Aud) (u : Track) :
    t.listeners a u = s.listeners a u := by
  rw [listeners_eq_core, h.track, ← listeners_eq_core]

/-- Records of one voice are flagged and counted alike. -/
theorem counted_of_voice {s : State} {r x : RxRec} (h : r.voice = x.voice) :
    s.counted r = s.counted x ∧ s.matched r = s.matched x ∧ r.unmatched = x.unmatched
      ∧ r.aud = x.aud ∧ r.track = x.track := by
  simp only [RxRec.voice, Prod.mk.injEq] at h
  obtain ⟨-, -, hkind, haud, htrack, hun, hstate⟩ := h
  refine ⟨?_, ?_, hun, haud, htrack⟩
  · rw [State.counted, hstate, haud, htrack, hun, State.counted]
  · rw [State.matched_eq, haud, htrack, hkind, ← State.matched_eq]

theorem exists_voice {s t : State} (h : SameVoices s t) {r : RxRec} (hr : r ∈ t.roster) :
    ∃ x ∈ s.roster, r.voice = x.voice := by
  have hmem : r.voice ∈ s.roster.map RxRec.voice := h ▸ List.mem_map_of_mem hr
  obtain ⟨x, hx, hv⟩ := List.mem_map.1 hmem
  exact ⟨x, hx, hv.symm⟩

theorem recountOf_of_voices {s t : State} {a : Aud} {u : Track}
    (hkind : (t.track? a u).map TrackRec.kind = (s.track? a u).map TrackRec.kind)
    (h : SameVoices s t) : recountOf t a u = recountOf s a u := by
  have hcount (xs ys : List RxRec) (hxy : xs.map RxRec.voice = ys.map RxRec.voice) :
      xs.countP (countsFor s a u) = ys.countP (countsFor s a u) := by
    induction xs generalizing ys with
    | nil =>
      cases ys with
      | nil => rfl
      | cons y ys => cases hxy
    | cons x xs ih =>
      cases ys with
      | nil => cases hxy
      | cons y ys =>
        obtain ⟨hv, hvs⟩ := List.cons.inj hxy
        obtain ⟨hc, -, -, ha, ht⟩ := counted_of_voice (s := s) hv
        have hp : countsFor s a u x = countsFor s a u y := by
          simp only [countsFor, ha, ht, hc]
        rw [List.countP_cons, List.countP_cons, ih ys hvs, hp]
  rw [recountOf_eq, recountOf_eq, countsFor_congr hkind]
  exact hcount _ _ h

theorem flagsOk_of_voices {s t : State} (hs : FlagsOk s) (hopens : SameOpens s t)
    (hkinds : SameKinds s t) (h : SameVoices s t) : FlagsOk t := by
  intro r hr hopen
  obtain ⟨x, hx, hv⟩ := exists_voice h hr
  obtain ⟨-, hm, hu, ha, -⟩ := counted_of_voice (s := s) hv
  rw [hkinds.matched, hm, hu]
  refine hs x hx ?_
  rwa [← ha, ← hopens.isOpen]

/-- Where the tracks' kinds and counts and the records' voices stay, the flags and counts stay true. -/
theorem listenersOk_of_voices {s t : State} (hs : ListenersOk s) (hcores : SameCores s t)
    (h : SameVoices s t) : ListenersOk t := by
  rw [listenersOk_iff] at hs ⊢
  refine ⟨flagsOk_of_voices hs.1 hcores.opens hcores.kinds h, fun a u => ?_⟩
  rw [recountOf_of_voices (hcores.kinds a u) h, ← hs.2, hcores.listeners]

/-! ### One record rewritten, added or removed -/

theorem recountOf_putRx {s t : State} (hs : RosterOk s) {x r : RxRec} (hx : x ∈ s.roster)
    (hindex : r.index = x.index) (hkinds : SameKinds s t) (hroster : t.roster = (s.putRx r).roster)
    (a : Aud) (u : Track) :
    recountOf t a u + (if countsFor s a u x = true then 1 else 0)
      = recountOf s a u + (if countsFor s a u r = true then 1 else 0) := by
  obtain ⟨pre, post, hsplit, hne⟩ := hs.split hx
  rw [recountOf_eq, recountOf_eq, countsFor_congr (hkinds a u), hroster, putRx_split hindex hsplit hne, hsplit]
  simp only [List.countP_append, List.countP_cons]
  omega

theorem flagsOk_putRx {s t : State} (hs : FlagsOk s) (hopens : SameOpens s t)
    (hkinds : SameKinds s t) {r : RxRec} (hroster : t.roster = (s.putRx r).roster)
    (hr : s.isOpen r.aud = true → r.unmatched = !s.matched r) : FlagsOk t := by
  intro y hy hopen
  rw [hopens.isOpen] at hopen
  rw [hkinds.matched]
  rw [hroster] at hy
  obtain ⟨z, hz, rfl⟩ := List.mem_map.1 hy
  by_cases hzr : z.index = r.index
  · simp only [hzr, beq_self_eq_true, if_true] at hopen ⊢
    exact hr hopen
  · have hne : ¬((z.index == r.index) = true) := by simpa using hzr
    rw [if_neg hne] at hopen ⊢
    exact hs z hz hopen

theorem listeners_countUp {s : State} {a : Aud} {t : Track} (h : (s.track? a t).isSome = true)
    (b : Aud) (u : Track) :
    (s.countUp a t).listeners b u
      = s.listeners b u + (if b = a ∧ u = t then 1 else 0) := by
  obtain ⟨w, hw⟩ := Option.isSome_iff_exists.1 h
  unfold State.listeners State.countUp
  rw [State.track?_modTrack]
  by_cases hb : b = a ∧ u = t
  · obtain ⟨rfl, rfl⟩ := hb
    simp [hw]
  · simp [hb]

theorem listeners_unCount (s : State) (r : RxRec) (b : Aud) (u : Track) :
    (s.unCount r).listeners b u
      = s.listeners b u - (if countsFor s b u r = true then 1 else 0) := by
  unfold State.unCount
  by_cases hc : s.counted r = true
  · rw [if_pos hc]
    by_cases hb : b = r.aud ∧ u = r.track
    · obtain ⟨rfl, rfl⟩ := hb
      rw [State.listeners_countDown, if_pos ((countsFor_iff s _ _ r).2 ⟨⟨rfl, rfl⟩, hc⟩)]
    · have hno : ¬ countsFor s b u r = true := fun h => hb ((countsFor_iff s b u r).1 h).1
      rw [if_neg hno]
      unfold State.listeners State.countDown
      rw [State.track?_modTrack, if_neg hb]
      rfl
  · have hno : ¬ countsFor s b u r = true := fun h => hc ((countsFor_iff s b u r).1 h).2
    rw [if_neg hc, if_neg hno]
    rfl

end Sys2Proof.Machine
end


section
/-! PROOFS. O11: what each command does to the roster, the unmatched flags and the listener counts (R7, R135,
R137, R138). -/

namespace Sys2Proof.Machine

/-! ### What leaves every voice -/

theorem announcePlaced_voices {s : State} (hs : RosterOk s) (l : LaneId) (f : FrameNo) (i : RxIdx) :
    SameVoices s (announcePlaced l f i s) := by
  unfold announcePlaced
  dsimp only
  split
  · split
    · next r hr => exact sameVoices_putRx (s := s.rotAppend l i) hs (mem_of_rx? hr) rfl
    · exact .of_roster rfl
  · exact .refl s

theorem Ticks.voices {jump : Bool} {s t : State} (hs : RosterOk s) (h : Ticks jump s t) :
    SameVoices s t := by
  refine (h.keeps (I := fun u => RosterOk u ∧ SameVoices s u) ?_ ⟨hs, .refl s⟩).2
  rintro u v ⟨hu, hvoices⟩ htick
  have hstep : SameVoices u v := by
    cases htick with
    | announced => exact announcePlaced_voices hu _ _ _
    | _ => exact .of_roster (by simp)
  exact ⟨rosterOk_of_ids hu hstep.ids, hvoices.trans hstep⟩

theorem placeInRotation_voices {s : State} (hs : RosterOk s) (l : LaneId) (i : RxIdx) :
    SameVoices s (placeInRotation l i s) := by
  unfold placeInRotation
  dsimp only
  split
  · next r hr => exact sameVoices_putRx (s := s.rotAppend l i) hs (mem_of_rx? hr) rfl
  · exact .of_roster rfl

theorem moveRotations_voices {s : State} (hs : RosterOk s) (q : RxMoveReq) (i : RxIdx) (a : Aud) :
    SameVoices s (moveRotations q i a s) := by
  unfold moveRotations
  dsimp only
  split
  · next l _ =>
    have hfirst : SameVoices s (placeInRotation l i ((s.rotRemove .A i).rotRemove .B i)) :=
      placeInRotation_voices (s := (s.rotRemove .A i).rotRemove .B i) hs l i
    split
    · exact hfirst.trans (placeInRotation_voices (rosterOk_of_ids hs hfirst.ids) _ _)
    · exact hfirst
  · exact .of_roster rfl

/-- The mark for a lane becomes absent in every record (R153). -/
theorem clearMarks_voices (s : State) (l : LaneId) : SameVoices s (clearMarks l s) := by
  rw [SameVoices, clearMarks, List.map_map]
  rfl

theorem startLane_voices (s : State) (l : LaneId) : SameVoices s (startLane l s) :=
  SameVoices.trans (t := clearMarks l (s.withLane l { s.lane l with
      state := .running, frameNo := 0, missed := 0, buf0 := .empty, buf1 := .empty, build := none }))
    (clearMarks_voices _ l) (.of_roster (by simp [startLane]))

theorem runningBoundary_voices {s : State} (hs : RosterOk s) (l : LaneId) :
    SameVoices s (runningBoundary l s) ∧ SameCores s (runningBoundary l s) := by
  rw [runningBoundary_eq]
  split
  · have hroster : ((countBoundary l s).faultLane l).roster = s.roster := by
      simp [countBoundary]
    have hdirectory : ((countBoundary l s).faultLane l).directory = s.directory := by
      simp [countBoundary]
    have hfault := SameVoices.of_roster hroster
    have hpass := stoppedPass_ticks (jump := false) l s.clock.time ((countBoundary l s).faultLane l)
    exact ⟨hfault.trans (hpass.voices (rosterOk_of_ids hs hfault.ids)),
      (SameCores.of_directory hdirectory).trans hpass.sameCores⟩
  · exact ⟨.of_roster (by simp [countBoundary]), .of_directory (by simp [countBoundary])⟩

/-! ### What changes a voice -/

/-- The commands that issue, move, return, lose or regain a record, or recount, empty or clear a show. -/
def changesVoices : Instr → Bool
  | .showOpen | .showClose | .rxIssue | .rxMove | .rxReturn | .restart | .leaveReset | .checkin .. => true
  | .joinDeadlineExpiry _ | .lossDeadlineExpiry _ => true
  | _ => false

theorem acts_voices {c : Instr} {s u : State} (hc : changesVoices c = false) (hs : RosterOk s)
    (h : Acts c s u) : SameVoices s u ∧ SameCores s u := by
  have hticks {v w : State} (hv : RosterOk v) (h : Ticks true v w) : SameVoices v w ∧ SameCores v w :=
    ⟨h.voices hv, h.sameCores⟩
  cases h with
  | showOpen => cases hc
  | showClose => cases hc
  | rxIssue => cases hc
  | rxMove => cases hc
  | rxReturn => cases hc
  | restart => cases hc
  | leaveReset => cases hc
  | checkin => cases hc
  | joinExpires => cases hc
  | lossExpires => cases hc
  | showWindow => exact ⟨.of_roster (by simp), modTrack_sameCores _ _ _ fun _ => ⟨rfl, rfl⟩⟩
  | timelineReport => exact ⟨.of_roster (by simp), reportTaken_sameCores _ _⟩
  | cuePost => exact ⟨.of_roster (by simp), doPost_sameCores _ _ _⟩
  | cueRevise => exact ⟨.of_roster (by simp), doRevise_sameCores _ _ _⟩
  | cueWithdraw => exact ⟨.of_roster (by simp), withdrawCue_sameCores _ _⟩
  | @silenceExpires i _ r hrx hjoined =>
    refine ⟨sameVoices_putRx hs (mem_of_rx? hrx) ?_, .of_directory rfl⟩
    simp [RxRec.voice, hjoined, countingState]
  | @laneStart l => exact ⟨startLane_voices s l, .of_directory (by simp)⟩
  | @runningBoundary l _ =>
    exact runningBoundary_voices (s := boundaryTaken l s) hs l
  | @unservedBoundary l _ =>
    obtain ⟨hvoices, hcores⟩ := hticks (v := boundaryTaken l s) hs
      (stoppedPass_ticks l s.clock.time (boundaryTaken l s))
    exact ⟨hvoices, (SameCores.of_directory (by simp)).trans hcores⟩
  | @buildComplete l =>
    obtain ⟨hvoices, hcores⟩ := hticks hs (finishBuild_ticks l s)
    exact ⟨hvoices.trans (.of_roster (by simp)), hcores.trans (.of_directory (by simp))⟩
  | buildProgress => exact hticks hs (buildUnit_ticks _ _)
  | _ => exact ⟨.of_roster (by simp), .of_directory (by simp)⟩

/-! ### A rewritten record -/

/-- What every command is asked to keep. -/
structure RosterKept (s t : State) : Prop where
  roster : RosterOk t
  listeners : ListenersOk s → ListenersOk t

theorem RosterKept.of_voices {s t : State} (hs : RosterOk s) (h : SameVoices s t)
    (hcores : SameCores s t) : RosterKept s t :=
  ⟨rosterOk_of_ids hs h.ids, fun hl => listenersOk_of_voices hl hcores h⟩

theorem RosterKept.trans {s t u : State} (h : RosterKept s t) (h' : RosterKept t u) :
    RosterKept s u := ⟨h'.roster, fun hl => h'.listeners (h.listeners hl)⟩

/-- What the Cue Table is told of a risen count does not touch the roster or the counts (R68). -/
theorem RosterKept.tellIfRisen {s t : State} (h : RosterKept s t) (a : Aud) (u : Track)
    (before : Nat) : RosterKept s (t.tellIfRisen a u before) := by
  have htell : Ticks false t (t.tellIfRisen a u before) := tellIfRisen_ticks a u before t
  exact h.trans (.of_voices h.roster (htell.voices h.roster) htell.sameCores)

/-- A counted record of the roster is in its track's count. -/
theorem countsFor_le_recount {s : State} {x : RxRec} (hx : x ∈ s.roster) (a : Aud) (u : Track) :
    (if countsFor s a u x = true then 1 else 0) ≤ recountOf s a u := by
  split
  · next h =>
    rw [recountOf_eq]
    exact List.countP_pos_iff.2 ⟨x, hx, h⟩
  · exact Nat.zero_le _

/-- A record is rewritten, and its old and new tracks' counts follow (R138). -/
theorem rosterKept_rewrite {s t : State} (hs : RosterOk s) {x r : RxRec} (hx : x ∈ s.roster)
    (hindex : r.index = x.index) (hserial : r.serial = x.serial) (hopens : SameOpens s t)
    (hkinds : SameKinds s t) (hroster : t.roster = (s.putRx r).roster)
    (hflag : FlagsOk s → s.isOpen r.aud = true → r.unmatched = !s.matched r)
    (hcount : FlagsOk s → ∀ a u, t.listeners a u
      = s.listeners a u - (if countsFor s a u x = true then 1 else 0)
        + (if countsFor s a u r = true then 1 else 0)) : RosterKept s t := by
  refine ⟨rosterOk_of_ids hs ?_, fun hl => ?_⟩
  · have hids := sameIds_putRx hs hx hindex hserial
    rwa [SameIds, hroster]
  · rw [listenersOk_iff] at hl ⊢
    obtain ⟨hflags, hcounts⟩ := hl
    refine ⟨flagsOk_putRx hflags hopens hkinds hroster (hflag hflags), fun a u => ?_⟩
    have hrecount := recountOf_putRx hs hx hindex hkinds hroster a u
    have hle := countsFor_le_recount hx a u
    have hold := hcounts a u
    rw [hcount hflags]
    omega

/-- A record that leaves its track's count (R138). -/
theorem listeners_unCount_put {s : State} {r r' : RxRec} (hout : s.counted r' = false) (a : Aud)
    (u : Track) : (s.unCount r).listeners a u
      = s.listeners a u - (if countsFor s a u r = true then 1 else 0)
        + (if countsFor s a u r' = true then 1 else 0) := by
  have hno : ¬ countsFor s a u r' = true := fun h => by
    have := ((countsFor_iff s a u r').1 h).2
    simp [hout] at this
  rw [listeners_unCount, if_neg hno, Nat.add_zero]

theorem enterLost_rosterKept {s : State} (hs : RosterOk s) {i : RxIdx} {r : RxRec}
    (hr : s.rx? i = some r) (why : LossReason) : RosterKept s (enterLost r why s) := by
  have hx := mem_of_rx? hr
  have hdirectory := enterLost_directory s r why
  have hopens : SameOpens s (enterLost r why s) := enterLost_sameOpens s r why
  have hkinds : SameKinds s (enterLost r why s) :=
    (unCount_sameKinds s r).trans (.of_directory hdirectory)
  refine rosterKept_rewrite hs hx
    (r := { r with state := .lost, loss := some why, movedFrom := none, joinDl := none })
    rfl rfl hopens hkinds (enterLost_roster s r why) (fun hflags hopen => hflags r hx hopen)
    fun _ a u => ?_
  rw [State.listeners_congr hdirectory]
  exact listeners_unCount_put rfl a u

/-- Of an open auditorium's flagged records, those in a counting state count just when matched (R7, R137). -/
theorem counted_of_flag {s : State} {r : RxRec}
    (hflag : s.isOpen r.aud = true → r.unmatched = !s.matched r)
    (hstate : countingState r.state = true) : s.counted r = s.matched r := by
  cases hw : s.track? r.aud r.track with
  | none => simp [State.counted, State.matched, hw]
  | some w =>
    have hm : r.unmatched = !s.matched r := hflag (isOpen_of_track? (Option.isSome_of_eq_some hw))
    simp [State.counted, hstate, hw, hm]

/-- The track named is one of the two places a record counts for. -/
theorem countsFor_of_counted {s : State} {r : RxRec} (h : s.counted r = true) (a : Aud) (u : Track) :
    (if countsFor s a u r = true then 1 else 0) = if a = r.aud ∧ u = r.track then 1 else 0 := by
  simp only [countsFor_iff, h, and_true]

theorem rejoin_rosterKept {s : State} (hs : RosterOk s) {r r' : RxRec} (l : LaneId)
    (hx : r ∈ s.roster) (hlost : r.state = .lost)
    (hvoice : r'.voice = { r with state := .joined }.voice) :
    RosterKept s (rejoin l r' (s.putRx r')) := by
  simp only [RxRec.voice, Prod.mk.injEq] at hvoice
  obtain ⟨hindex, hserial, hkind, haud, htrack, hun, hstate⟩ := hvoice
  have hcounting : countingState r'.state = true := hstate
  have hmatched : s.matched r' = s.matched r := by
    rw [State.matched_eq, haud, htrack, hkind, ← State.matched_eq]
  have hflag (hflags : FlagsOk s) (hopen : s.isOpen r'.aud = true) :
      r'.unmatched = !s.matched r' := by
    rw [hun, hmatched]
    exact hflags r hx (haud ▸ hopen)
  have hold (a : Aud) (u : Track) : ¬ countsFor s a u r = true := fun h => by
    have := ((countsFor_iff s a u r).1 h).2
    simp [State.counted, hlost, countingState] at this
  unfold rejoin
  dsimp only
  by_cases hm : s.matched r' = true
  · rw [if_pos (show (s.putRx r').matched r' = true from hm)]
    have hsome : (s.track? r'.aud r'.track).isSome = true := by
      unfold State.matched at hm
      split at hm
      · next hw => simp [hw]
      · cases hm
    let t0 := ((s.putRx r').rotAppend (laneOrArrival (s.putRx r') r' l) r'.index).countUp r'.aud
      r'.track
    have hfirst : RosterKept s t0 := by
      refine rosterKept_rewrite hs hx hindex hserial ?_ ?_ (by simp [t0]) hflag
        fun hflags a u => ?_
      · exact (SameOpens.of_directory rfl).trans (countUp_sameOpens _ _ _)
      · exact (SameKinds.of_directory rfl).trans (countUp_sameKinds _ _ _)
      · have hcounted : s.counted r' = true := by
          rw [counted_of_flag (hflag hflags) hcounting, hm]
        rw [if_neg (hold a u), countsFor_of_counted hcounted, Nat.sub_zero]
        exact listeners_countUp (s := (s.putRx r').rotAppend _ r'.index) hsome a u
    exact hfirst.tellIfRisen _ _ _
  · rw [if_neg (show ¬(s.putRx r').matched r' = true from hm)]
    refine rosterKept_rewrite hs hx hindex hserial (.of_directory rfl) (.of_directory rfl) rfl hflag
      fun hflags a u => ?_
    have hno : ¬ countsFor s a u r' = true := fun h => hm <| by
      rw [← counted_of_flag (hflag hflags) hcounting]
      exact ((countsFor_iff s a u r').1 h).2
    rw [if_neg (hold a u), if_neg hno, Nat.sub_zero, Nat.add_zero]
    rfl

theorem heardCheckin_rosterKept {s : State} (hs : RosterOk s) {r : RxRec} (hx : r ∈ s.roster)
    (l : LaneId) (m : CheckinMsg) : RosterKept s (heardCheckin l m r s) := by
  have hput (hvoice : (checkedIn m (refreshed s l m r)).voice = r.voice) :
      RosterKept s (s.putRx (checkedIn m (refreshed s l m r))) :=
    .of_voices hs (sameVoices_putRx hs hx hvoice) (.of_directory rfl)
  unfold heardCheckin
  dsimp only
  split
  · next h => exact hput (by simp [checkedIn, refreshed, RxRec.voice, h, countingState])
  · next h => exact hput (by simp [checkedIn, refreshed, RxRec.voice, h, countingState])
  · next h => exact hput (by simp [checkedIn, refreshed, RxRec.voice, h, countingState])
  · next h => exact rejoin_rosterKept hs l hx h (by simp [checkedIn, refreshed, RxRec.voice, h])
  · next h =>
    have hkept : RosterKept s (s.putRx (checkedIn m (refreshed s l m r))) := by
      refine hput ?_
      simp only [checkedIn, refreshed, RxRec.voice, h]
      split <;> simp [countingState]
    split
    · exact hkept.trans (.of_voices hkept.roster (.of_roster rfl) (.of_directory rfl))
    · exact hkept

theorem takeCheckin_rosterKept {s : State} (hs : RosterOk s) (l : LaneId) (m : CheckinMsg) :
    RosterKept s (takeCheckin l m s) := by
  have hstray : RosterKept s (strayCheckin l m s) :=
    .of_voices hs (.of_roster (by simp)) (.of_directory (by simp))
  unfold takeCheckin
  split
  · next hr =>
    split
    · exact heardCheckin_rosterKept hs (mem_of_rx? hr) l m
    · exact hstray
  · exact hstray

theorem mem_of_rxNamed {s : State} {sel : RxSel} {r : RxRec} (h : s.rxNamed sel = some r) :
    r ∈ s.roster := by
  cases sel <;> exact List.mem_of_find?_eq_some h

theorem doMove_rosterKept {s : State} (hs : RosterOk s) {q : RxMoveReq} {r : RxRec} {w : TrackRec}
    (hr : s.rxNamed q.sel = some r) (hw : s.track? q.aud q.track = some w)
    (hsuits : suits r.kind w.kind = true) : RosterKept s (doMove q r s) := by
  have hx := mem_of_rxNamed hr
  let t0 := ((s.unCount r).putRx (movedRec q r s)).countUp q.aud q.track
  have hmatched : s.matched (movedRec q r s) = true := by simp [State.matched, movedRec, hw, hsuits]
  have hcounted : s.counted (movedRec q r s) = true := by
    simp [State.counted, movedRec, hw, countingState]
  have hopens : SameOpens s t0 :=
    (unCount_sameOpens s r).trans (SameOpens.trans (SameOpens.of_directory rfl)
      (countUp_sameOpens ((s.unCount r).putRx (movedRec q r s)) _ _))
  have hput : SameKinds s ((s.unCount r).putRx (movedRec q r s)) :=
    (unCount_sameKinds s r).trans (.of_directory rfl)
  have hkinds : SameKinds s t0 := hput.trans (countUp_sameKinds _ _ _)
  have hsome : (((s.unCount r).putRx (movedRec q r s)).track? q.aud q.track).isSome = true := by
    have := congrArg Option.isSome (hput q.aud q.track)
    simpa [hw] using this
  have hroster : t0.roster = (s.putRx (movedRec q r s)).roster := by simp [t0, State.putRx]
  have hfirst : RosterKept s t0 := by
    refine rosterKept_rewrite hs hx (r := movedRec q r s) rfl rfl hopens hkinds hroster
      (fun _ _ => ?_) fun _ a u => ?_
    · rw [hmatched]
      rfl
    · rw [listeners_countUp hsome, countsFor_of_counted hcounted]
      exact congrArg (· + _) (listeners_unCount s r a u)
  have hrot : SameVoices t0 (moveRotations q r.index r.aud t0) :=
    moveRotations_voices hfirst.roster _ _ _
  have hplaced := hfirst.trans (.of_voices hfirst.roster hrot (.of_directory (by simp)))
  exact hplaced.tellIfRisen _ _ _

end Sys2Proof.Machine
end


section
/-! PROOFS. O11, second part: records that come and go, shows that open and close (R4 to R15, R135, R140,
R144). -/

namespace Sys2Proof.Machine

/-! ### A record that comes (R140) -/

theorem insertRx_perm (r : RxRec) (xs : List RxRec) : (insertRx r xs).Perm (r :: xs) := by
  induction xs with
  | nil => exact .refl _
  | cons x xs ih =>
    unfold insertRx
    split
    · exact .refl _
    · exact (ih.cons x).trans (.swap r x xs)

theorem insertRx_sorted {r : RxRec} {xs : List RxRec}
    (hs : (xs.map fun x => x.index.val).Pairwise (· < ·)) (hnew : ∀ x ∈ xs, x.index ≠ r.index) :
    ((insertRx r xs).map fun x => x.index.val).Pairwise (· < ·) := by
  induction xs with
  | nil => simp [insertRx]
  | cons x xs ih =>
    obtain ⟨hx, hxs⟩ := List.pairwise_cons.1 hs
    unfold insertRx
    split
    · next hlt =>
      refine List.pairwise_cons.2 ⟨fun v hv => ?_, hs⟩
      obtain rfl | hv := List.mem_cons.1 hv
      · exact hlt
      · exact lt_trans hlt (hx v hv)
    · next hle =>
      have hne := hnew x List.mem_cons_self
      refine List.pairwise_cons.2
        ⟨fun v hv => ?_, ih hxs fun y hy => hnew y (List.mem_cons_of_mem _ hy)⟩
      obtain ⟨y, hy, rfl⟩ := List.mem_map.1 hv
      obtain rfl | hy := List.mem_cons.1 ((insertRx_perm r xs).mem_iff.1 hy)
      · exact lt_of_le_of_ne (not_lt.1 hle) fun h => hne (Fin.ext h)
      · exact hx _ (List.mem_map_of_mem hy)

/-- A new record joins the roster: the order, the serials and the count of its track follow (R135, R138). -/
theorem rosterKept_insert {s t : State} (hs : RosterOk s) {r : RxRec}
    (hindex : s.rx? r.index = none) (hserial : s.rxBySerial? r.serial = none)
    (hopens : SameOpens s t) (hkinds : SameKinds s t) (hroster : t.roster = insertRx r s.roster)
    (hflag : r.unmatched = !s.matched r)
    (hcount : ∀ a u, t.listeners a u
      = s.listeners a u + (if countsFor s a u r = true then 1 else 0)) : RosterKept s t := by
  have hnew : ∀ x ∈ s.roster, x.index ≠ r.index := fun x hx => by
    simpa using List.find?_eq_none.1 hindex x hx
  have hperm : t.roster.Perm (r :: s.roster) := hroster ▸ insertRx_perm r s.roster
  obtain ⟨horder, hserials⟩ := hs
  refine ⟨⟨hroster ▸ insertRx_sorted horder hnew, ?_⟩, fun hl => ?_⟩
  · rw [(hperm.map RxRec.serial).nodup_iff, List.map_cons, List.nodup_cons]
    refine ⟨fun hmem => ?_, hserials⟩
    obtain ⟨x, hx, heq⟩ := List.mem_map.1 hmem
    exact absurd heq (by simpa using List.find?_eq_none.1 hserial x hx)
  · rw [listenersOk_iff] at hl ⊢
    obtain ⟨hflags, hcounts⟩ := hl
    refine ⟨fun x hx hopen => ?_, fun a u => ?_⟩
    · rw [hkinds.matched]
      obtain rfl | hx := List.mem_cons.1 (hperm.mem_iff.1 hx)
      · exact hflag
      · exact hflags x hx (by rwa [← hopens.isOpen])
    · rw [hcount, hcounts, recountOf_eq, recountOf_eq, countsFor_congr (hkinds a u),
        hperm.countP_eq, List.countP_cons]

theorem rx?_of_lowestFreeRx {s : State} {i : RxIdx} (h : s.lowestFreeRx = some i) :
    s.rx? i = none := by simpa using List.find?_some h

theorem doIssue_rosterKept {s : State} (hs : RosterOk s) {q : RxIssueReq} {i : RxIdx} {w : TrackRec}
    (hw : s.track? q.aud q.track = some w) (hsuits : suits q.kind w.kind = true)
    (hserial : s.rxBySerial? q.serial = none) (hfree : s.lowestFreeRx = some i) :
    RosterKept s (doIssue (issuedRec q i s) s) := by
  let t0 := State.countUp { s with roster := insertRx (issuedRec q i s) s.roster } q.aud q.track
  have hcounted : s.counted (issuedRec q i s) = true := by
    simp [State.counted, issuedRec, hw, countingState]
  have hfirst : RosterKept s t0 := by
    refine rosterKept_insert hs (r := issuedRec q i s) (rx?_of_lowestFreeRx hfree) hserial ?_ ?_
      (by simp [t0]) ?_ fun a u => ?_
    · exact (SameOpens.of_directory rfl).trans (countUp_sameOpens _ _ _)
    · exact (SameKinds.of_directory rfl).trans (countUp_sameKinds _ _ _)
    · simp [State.matched, issuedRec, hw, hsuits]
    · rw [countsFor_of_counted hcounted]
      exact listeners_countUp (s := { s with roster := insertRx (issuedRec q i s) s.roster })
        (Option.isSome_of_eq_some hw) a u
  have hkept {t1 : State} (hroster : t1.roster = t0.roster) (hdirectory : t1.directory = t0.directory)
      (before : Nat) : RosterKept s (t1.tellIfRisen q.aud q.track before) := by
    exact (hfirst.trans (.of_voices hfirst.roster (.of_roster hroster)
      (.of_directory hdirectory))).tellIfRisen _ _ _
  unfold doIssue
  dsimp only
  split
  · exact hkept (t1 := t0.rotAppend _ i) rfl rfl _
  · exact hkept rfl rfl _

/-! ### A record that goes (R144) -/

/-- The record leaves, and its track's count follows (R138). -/
theorem rosterKept_remove {s t : State} (hs : RosterOk s) {r : RxRec} (hr : r ∈ s.roster)
    (hopens : SameOpens s t) (hkinds : SameKinds s t)
    (hroster : t.roster = s.roster.filter fun x => x.index != r.index)
    (hcount : ∀ a u, t.listeners a u
      = s.listeners a u - (if countsFor s a u r = true then 1 else 0)) : RosterKept s t := by
  obtain ⟨pre, post, hsplit, hne⟩ := hs.split hr
  have hkeep : t.roster = pre ++ post := by
    have hall (xs : List RxRec) (hxs : ∀ y ∈ xs, y.index ≠ r.index) :
        xs.filter (fun x => x.index != r.index) = xs :=
      List.filter_eq_self.2 fun y hy => by simpa using hxs y hy
    rw [hroster, hsplit, List.filter_append, List.filter_cons_of_neg (by simp),
      hall pre fun y hy => hne y (List.mem_append_left _ hy),
      hall post fun y hy => hne y (List.mem_append_right _ hy)]
  have hsub : t.roster.Sublist s.roster := hroster ▸ List.filter_sublist
  obtain ⟨horder, hserials⟩ := hs
  refine ⟨⟨horder.sublist (hsub.map _), hserials.sublist (hsub.map _)⟩, fun hl => ?_⟩
  rw [listenersOk_iff] at hl ⊢
  obtain ⟨hflags, hcounts⟩ := hl
  refine ⟨fun x hx hopen => ?_, fun a u => ?_⟩
  · rw [hkinds.matched]
    exact hflags x (hsub.subset hx) (by rwa [← hopens.isOpen])
  · rw [hcount, hcounts, recountOf_eq, recountOf_eq, countsFor_congr (hkinds a u), hkeep, hsplit]
    simp only [List.countP_append, List.countP_cons]
    omega

theorem returnRx_rosterKept {s : State} (hs : RosterOk s) {sel : RxSel} {r : RxRec}
    (hr : s.rxNamed sel = some r) : RosterKept s (returnRx r s) := by
  have hdirectory : (returnRx r s).directory = (s.unCount r).directory := by
    simp [returnRx, leaveRoster]
  refine rosterKept_remove hs (mem_of_rxNamed hr) (returnRx_sameOpens s r)
    ((unCount_sameKinds s r).trans (.of_directory hdirectory)) (by simp [returnRx, leaveRoster])
    fun a u => ?_
  rw [State.listeners_congr hdirectory, listeners_unCount]

/-! ### A show that closes (R13) -/

theorem closeShow_rosterKept {s : State} (hs : RosterOk s) (a : Aud) (l : LaneId) :
    RosterKept s (closeShow a l s) := by
  have hvoices : SameVoices s (closeShow a l s) := .of_roster (by simp)
  refine ⟨rosterOk_of_ids hs hvoices.ids, fun hl => ?_⟩
  rw [listenersOk_iff] at hl ⊢
  obtain ⟨hflags, hcounts⟩ := hl
  have hempty := emptyShow_sameCores s a l
  have htrack (b : Aud) (u : Track) : (closeShow a l s).track? b u
      = if b = a then none else (emptyShow a l s).track? b u := by
    rw [State.track?, closeShow_theShow?]
    split <;> rfl
  have hkind {b : Aud} (hb : b ≠ a) (u : Track) :
      ((closeShow a l s).track? b u).map TrackRec.kind = (s.track? b u).map TrackRec.kind := by
    rw [htrack, if_neg hb]
    exact hempty.kinds b u
  refine ⟨fun r hr hopen => ?_, fun b u => ?_⟩
  · have hne : r.aud ≠ a := fun h => by
      simp [State.isOpen_eq_laneOf?, closeShow_laneOf?, h] at hopen
    rw [State.matched_eq, hkind hne, ← State.matched_eq]
    refine hflags r (by simpa using hr) ?_
    rwa [State.isOpen_eq_laneOf?, closeShow_laneOf?, if_neg hne, ← State.isOpen_eq_laneOf?] at hopen
  · by_cases hb : b = a
    · have hnone : (closeShow a l s).track? b u = none := by rw [htrack, if_pos hb]
      rw [recountOf_of_noTrack hnone, State.listeners, hnone]
    · rw [recountOf_of_voices (hkind hb u) hvoices, ← hcounts, ← hempty.listeners, State.listeners,
        htrack, if_neg hb]
      rfl

/-! ### A show that opens (R4 to R8) -/

/-- The recount leaves the other auditoriums' tracks. -/
theorem track?_foldl_modTrack (ts : List Track) (s : State) {a b : Aud} (hb : b ≠ a)
    (g : State → Track → TrackRec → TrackRec) (u : Track) :
    (ts.foldl (fun v t => v.modTrack a t (g v t)) s).track? b u = s.track? b u := by
  induction ts generalizing s with
  | nil => rfl
  | cons t ts ih => rw [List.foldl_cons, ih, State.track?_modTrack, if_neg fun h => hb h.1]

/-- The recount of the listed tracks: their counts are those of the counted records (R7). -/
theorem foldl_recount (ts : List Track) (s : State) (a : Aud) :
    let t := ts.foldl (fun s t => s.modTrack a t fun w => { w with listeners := recountOf s a t }) s
    SameKinds s t ∧ t.roster = s.roster
      ∧ ∀ u, t.listeners a u = if u ∈ ts then recountOf s a u else s.listeners a u := by
  induction ts generalizing s with
  | nil => exact ⟨.refl s, rfl, fun u => rfl⟩
  | cons t ts ih =>
    let s' := s.modTrack a t fun w => { w with listeners := recountOf s a t }
    obtain ⟨hkinds, hroster, hcounts⟩ := ih s'
    have hfirst : SameKinds s s' := modTrack_sameKinds _ _ _ fun _ => rfl
    have hroster' : s'.roster = s.roster := by simp [s']
    have hrecount (u : Track) : recountOf s' a u = recountOf s a u :=
      recountOf_of_voices (hfirst a u) (.of_roster hroster')
    refine ⟨hfirst.trans hkinds, hroster.trans hroster', fun u => ?_⟩
    rw [List.foldl_cons, hcounts, hrecount]
    by_cases hu : u ∈ ts
    · rw [if_pos hu, if_pos (List.mem_cons_of_mem _ hu)]
    · rw [if_neg hu]
      by_cases ht : u = t
      · subst ht
        rw [if_pos List.mem_cons_self]
        cases hw : s.track? a u with
        | none =>
          have hnone : s'.track? a u = none := by simp [s', State.track?_modTrack, hw]
          rw [recountOf_of_noTrack hw, State.listeners, hnone]
        | some w => simp [State.listeners, s', State.track?_modTrack, hw]
      · rw [if_neg (by simp [ht, hu]), State.listeners, State.track?_modTrack,
          if_neg fun h => ht h.2]
        rfl

theorem recountTracks_listeners (s : State) (a : Aud) :
    SameKinds s (recountTracks a s)
      ∧ ∀ u, (recountTracks a s).listeners a u = recountOf s a u := by
  obtain ⟨hkinds, -, hcounts⟩ := foldl_recount allTracks s a
  exact ⟨hkinds, fun u => (hcounts u).trans (if_pos (mem_allTracks u))⟩

/-- The kinds of the other auditoriums' tracks while one opens. -/
theorem beginRun_track? (s : State) (q : ShowOpenReq) {b : Aud} (hb : b ≠ q.aud) (u : Track) :
    (beginRun q s).track? b u = s.track? b u := by
  simp [State.track?, State.theShow?, beginRun, State.withTimeline, State.withSync, hb]

/-- A record with its unmatched flag rewritten, if it is bound to the auditorium (R7). -/
def reflagged (s : State) (a : Aud) (r : RxRec) : RxRec :=
  if r.aud = a then { r with unmatched := !s.matched r } else r

theorem recountFlags_roster (s : State) (a : Aud) :
    (recountFlags a s).roster = s.roster.map (reflagged s a) := rfl

theorem reflagged_ids (s : State) (a : Aud) (r : RxRec) :
    (reflagged s a r).index = r.index ∧ (reflagged s a r).serial = r.serial
      ∧ (reflagged s a r).kind = r.kind ∧ (reflagged s a r).aud = r.aud
      ∧ (reflagged s a r).track = r.track := by
  unfold reflagged
  split <;> exact ⟨rfl, rfl, rfl, rfl, rfl⟩

/-- An opened auditorium, its records flagged and its tracks counted anew. -/
theorem recounted_rosterKept {s : State} (hs : RosterOk s) (q : ShowOpenReq) :
    RosterKept s (recountTracks q.aud (recountFlags q.aud (beginRun q s))) := by
  let b := beginRun q s
  let f := recountFlags q.aud b
  obtain ⟨hkinds, hcounted⟩ := recountTracks_listeners f q.aud
  have hb : b.roster = s.roster := by simp [b]
  have hroster : (recountTracks q.aud f).roster = s.roster.map (reflagged b q.aud) := by
    rw [← hb, ← recountFlags_roster]
    simp [f]
  have hids : SameIds s (recountTracks q.aud f) := by
    rw [SameIds, hroster, List.map_map]
    refine List.map_congr_left fun r _ => ?_
    obtain ⟨hindex, hserial, -⟩ := reflagged_ids b q.aud r
    simp [hindex, hserial]
  refine ⟨rosterOk_of_ids hs hids, fun hl => ?_⟩
  rw [listenersOk_iff] at hl ⊢
  obtain ⟨hflags, hcounts⟩ := hl
  have hother {c : Aud} (hc : c ≠ q.aud) (u : Track) :
      (recountTracks q.aud f).track? c u = s.track? c u :=
    (track?_foldl_modTrack allTracks f hc _ u).trans (beginRun_track? s q hc u)
  refine ⟨fun x hx hopen => ?_, fun c u => ?_⟩
  · rw [hroster] at hx
    obtain ⟨r, hr, rfl⟩ := List.mem_map.1 hx
    obtain ⟨-, -, hkind, haud, htrack⟩ := reflagged_ids b q.aud r
    have hmatched : (recountTracks q.aud f).matched (reflagged b q.aud r)
        = (recountTracks q.aud f).matched r := by
      rw [State.matched_eq, hkind, haud, htrack, ← State.matched_eq]
    rw [hmatched]
    by_cases ha : r.aud = q.aud
    · rw [hkinds.matched, reflagged, if_pos ha]
      rfl
    · have hsame : (recountTracks q.aud f).matched r = s.matched r := by
        rw [State.matched_eq, hother ha, ← State.matched_eq]
      rw [hsame, reflagged, if_neg ha]
      refine hflags r hr ?_
      have hopens := (recountTracks_sameOpens f q.aud).isOpen r.aud
      rw [haud, hopens] at hopen
      simpa [State.isOpen, State.theShow?, f, b, recountFlags, beginRun, State.withTimeline,
        State.withSync, ha] using hopen
  · by_cases hc : c = q.aud
    · subst hc
      rw [hcounted]
      exact (recountOf_of_voices (hkinds _ u) (.of_roster (by simp))).symm
    · have hlisteners : (recountTracks q.aud f).listeners c u = s.listeners c u := by
        rw [State.listeners, hother hc, State.listeners]
      rw [hlisteners, hcounts, recountOf_eq, recountOf_eq,
        countsFor_congr (congrArg (Option.map TrackRec.kind) (hother hc u)), hroster,
        List.countP_map]
      refine List.countP_congr fun r _ => ?_
      by_cases ha : r.aud = q.aud
      · obtain ⟨-, -, -, haud, -⟩ := reflagged_ids b q.aud r
        have hno (v : RxRec) (hv : v.aud = q.aud) : countsFor s c u v = false := by
          have hne : (v.aud == c) = false := by simpa [hv] using Ne.symm hc
          simp [countsFor, hne]
        rw [Function.comp_apply, hno r ha, hno _ (haud.trans ha)]
      · rw [Function.comp_apply, reflagged, if_neg ha]

/-- MOVING counts as JOINED and SILENT do (R8, R137). -/
theorem reJoined_voice (a : Aud) (l : LaneId) (s : State) (r : RxRec) :
    (reJoined a l s r).voice = r.voice := by
  unfold reJoined
  split
  · next h =>
    have hstate : countingState r.state = true := by
      simp only [movesAtOpen, Bool.and_eq_true, Bool.or_eq_true, beq_iff_eq] at h
      obtain ⟨⟨hj | hj, -⟩, -⟩ := h <;> rw [hj] <;> rfl
    have hvoice : r.voice
        = (r.index, r.serial, r.kind, r.aud, r.track, r.unmatched, true) := by
      rw [RxRec.voice, hstate]
    rw [hvoice]
    rfl
  · rfl

theorem rePlaceOne_voices {s : State} (hs : RosterOk s) (a : Aud) (l : LaneId) {r x : RxRec}
    (hx : x ∈ s.roster) (hvoice : x.voice = r.voice) : SameVoices s (rePlaceOne a l s r) := by
  have hput : SameVoices s (s.putRx (reJoined a l s r)) :=
    sameVoices_putRx hs hx ((reJoined_voice a l s r).trans hvoice.symm)
  refine hput.trans (.of_roster ?_)
  rw [rePlaceOne_eq]
  dsimp only [placeAtOpen]
  (repeat' split) <;> simp

theorem rePlace_voices {s : State} (hs : RosterOk s) (a : Aud) (l : LaneId) :
    SameVoices s (rePlace a l s) := by
  have hfold (rs : List RxRec) (u : State) (hu : RosterOk u)
      (hrs : ∀ r ∈ rs, ∃ x ∈ u.roster, x.voice = r.voice) :
      SameVoices u (rs.foldl (rePlaceOne a l) u) := by
    induction rs generalizing u with
    | nil => exact .refl u
    | cons r rs ih =>
      obtain ⟨x, hx, hvoice⟩ := hrs r List.mem_cons_self
      have hstep := rePlaceOne_voices hu a l hx hvoice
      refine hstep.trans (ih _ (rosterOk_of_ids hu hstep.ids) fun r' hr' => ?_)
      obtain ⟨x', hx', hvoice'⟩ := hrs r' (List.mem_cons_of_mem _ hr')
      have hmem : x'.voice ∈ (rePlaceOne a l u r).roster.map RxRec.voice :=
        hstep ▸ List.mem_map_of_mem hx'
      obtain ⟨y, hy, hy'⟩ := List.mem_map.1 hmem
      exact ⟨y, hy, hy'.trans hvoice'⟩
  exact hfold _ s hs fun r hr => ⟨r, List.mem_of_mem_filter hr, rfl⟩

theorem openShow_rosterKept {s : State} (hs : RosterOk s) (q : ShowOpenReq) :
    RosterKept s (openShow q s) := by
  have hcounted := recounted_rosterKept hs q
  have hplaced (u : State) : (rePlace q.aud q.lane u).directory = u.directory := by simp
  exact hcounted.trans (.of_voices hcounted.roster (rePlace_voices hcounted.roster _ _)
    (.of_directory (hplaced _)))

/-! ### The obligation -/

theorem rosterKept_empty {s : State} (hroster : s.roster = []) (hnone : ∀ a t, s.track? a t = none) :
    RosterOk s ∧ ListenersOk s := by
  refine ⟨by simp [RosterOk, hroster], by simp [hroster], fun a t w hw => ?_⟩
  simp [hnone] at hw

theorem acts_rosterKept {c : Instr} {s u : State} (hs : RosterOk s) (h : Acts c s u) :
    RosterKept s u := by
  by_cases hc : changesVoices c = true
  · cases h with
    | showOpen => exact openShow_rosterKept hs _
    | showClose => exact closeShow_rosterKept hs _ _
    | rxIssue hw hsuits hserial hfree => exact doIssue_rosterKept hs hw hsuits hserial hfree
    | rxMove hr hw hsuits => exact doMove_rosterKept hs hr hw hsuits
    | rxReturn hr => exact returnRx_rosterKept hs hr
    | restart =>
      obtain ⟨hr, hl⟩ := rosterKept_empty (s := restarted s) rfl reset_track?
      exact ⟨hr, fun _ => hl⟩
    | leaveReset =>
      obtain ⟨hr, hl⟩ := rosterKept_empty (s := afterReset s) rfl reset_track?
      exact ⟨hr, fun _ => hl⟩
    | joinExpires hr => exact enterLost_rosterKept hs hr _
    | lossExpires hr => exact enterLost_rosterKept hs hr _
    | checkin => exact takeCheckin_rosterKept hs _ _
    | reads => exact .of_voices hs (.refl s) (.refl s)
    | _ => cases hc
  · obtain ⟨hvoices, hcores⟩ := acts_voices (by simpa using hc) hs h
    exact .of_voices hs hvoices hcores

/-- Settles O11. -/
theorem rosterStaysDistinct : Obligations.RosterStaysDistinct := by
  constructor
  · intro s t hs h
    refine step_keeps (I := RosterOk) (fun _ _ hs => hs) (fun c s t hs h => ?_) hs h
    exact exec_keeps (I := RosterOk) (fun _ _ hs => hs) (fun _ _ _ _ _ hs => hs) (fun _ hs => hs)
      (fun _ _ hs hu => (acts_rosterKept hs hu).roster) hs h
  · intro s t hs hl h
    let I (s : State) : Prop := RosterOk s ∧ ListenersOk s
    have hboth : I t := step_keeps (I := I) (fun _ _ hs => hs) (fun c s t hs h =>
      exec_keeps (I := I) (fun _ _ hs => hs) (fun _ _ _ _ _ hs => hs) (fun _ hs => hs)
        (fun _ _ hs hu => ⟨(acts_rosterKept hs.1 hu).roster, (acts_rosterKept hs.1 hu).listeners hs.2⟩)
        hs h) ⟨hs, hl⟩ h
    exact hboth.2

end Sys2Proof.Machine
end


section
/-! SUPPORT. What each operation of the state leaves alone, in the parts that the claims name, and how the frame
of a command is put together from that of its operations. -/

namespace Sys2Proof.Machine

/-- From `s` to `t` nothing changes outside the named parts, the judged flags and ATTN_N aside. -/
def Keeps (ps : List Part) (s t : State) : Prop := ∀ p, p ∉ ps → p.same s t

theorem Keeps.refl (ps : List Part) (s : State) : Keeps ps s s := by
  intro p _
  cases p with
  | txn | forced => exact ⟨rfl, rfl⟩
  | _ => rfl

theorem Part.same.trans {p : Part} {s t u : State} (h : p.same s t) (h' : p.same t u) :
    p.same s u := by
  cases p with
  | txn | forced =>
    obtain ⟨hfst, hsnd⟩ := h
    obtain ⟨hfst', hsnd'⟩ := h'
    exact ⟨hfst'.trans hfst, hsnd'.trans hsnd⟩
  | _ => exact Eq.trans h' h

theorem Keeps.trans {ps : List Part} {s t u : State} (h : Keeps ps s t) (h' : Keeps ps t u) :
    Keeps ps s u := fun p hp => (h p hp).trans (h' p hp)

theorem Keeps.mono {ps qs : List Part} {s t : State} (h : Keeps ps s t) (hsub : ps ⊆ qs) :
    Keeps qs s t := fun p hp => h p fun hmem => hp (hsub hmem)

theorem Keeps.changesOnly {ps : List Part} {s t : State} (h : Keeps ps s t) :
    ChangesOnly ps s (settle t) := changesOnly_settle h

theorem keeps_ite {ps : List Part} {c : Prop} [Decidable c] {s t u : State} (ht : c → Keeps ps s t)
    (hu : ¬c → Keeps ps s u) : Keeps ps s (if c then t else u) := by
  split
  · exact ht ‹_›
  · exact hu ‹_›

/-! ### The operations -/

theorem withSync_keeps (s : State) (a : Aud) (x : SyncInput) :
    Keeps [.sync a] s (s.withSync a x) := by
  intro p hp
  cases p with
  | sync b => exact vput_get_of_ne _ _ fun h => hp (h ▸ List.mem_singleton.2 rfl)
  | txn | forced => exact ⟨rfl, rfl⟩
  | _ => rfl

theorem State.syncIn_withSync (s : State) (a b : Aud) (x : SyncInput) :
    (s.withSync a x).syncIn b = if b = a then x else s.syncIn b := vput_get ..

theorem withTimeline_keeps (s : State) (a : Aud) (x : Timeline) :
    Keeps [.timeline a] s (s.withTimeline a x) := by
  intro p hp
  cases p with
  | timeline b => exact vput_get_of_ne _ _ fun h => hp (h ▸ List.mem_singleton.2 rfl)
  | txn | forced => exact ⟨rfl, rfl⟩
  | _ => rfl

theorem withCond_keeps (s : State) (c : Cond) (x : CondState) : Keeps [.cond c] s (s.withCond c x) := by
  intro p hp
  cases p with
  | cond d => exact State.cond_withCond_of_ne _ _ fun h => hp (h ▸ List.mem_singleton.2 rfl)
  | txn | forced => exact ⟨rfl, rfl⟩
  | _ => rfl

theorem latch_keeps (s : State) (c : Cond) (w : CondRec) : Keeps [.cond c] s (s.latch c w) :=
  withCond_keeps _ _ _

theorem clearCond_keeps (s : State) (c : Cond) : Keeps [.cond c] s (s.clearCond c) :=
  withCond_keeps _ _ _

theorem judge_keeps (s : State) (c : Cond) (x : Bool) (w : CondRec) :
    Keeps [.cond c] s (s.judge c x w) := by
  unfold State.judge
  split
  · split
    · exact .refl _ _
    · exact withCond_keeps _ _ _
  · exact withCond_keeps _ _ _

theorem judgeTimelines_keeps (s : State) (a : Aud) :
    Keeps [.cond .tlCoast, .cond .tlLost] s (s.judgeTimelines a) := by
  unfold State.judgeTimelines
  exact ((judge_keeps _ _ _ _).mono (by simp)).trans ((judge_keeps _ _ _ _).mono (by simp))

theorem judgePool_keeps (s : State) (w : CondRec) : Keeps [.cond .poolLow] s (s.judgePool w) :=
  judge_keeps _ _ _ _

theorem judgeLaneFault_keeps (s : State) (l : LaneId) :
    Keeps [.cond .laneFault] s (s.judgeLaneFault l) := judge_keeps _ _ _ _

/-- The counters in the order of R180. -/
def AudCounter.inOrder : List AudCounter :=
  [.jumps, .strikes, .unpaired, .late, .lateDropped, .underruns, .repairsAnswered, .repairsLate]

theorem inOrder_audCounterIdx (c : AudCounter) : AudCounter.inOrder[(audCounterIdx c).val]? = some c := by
  cases c <;> rfl

theorem audCounterIdx_injective : Function.Injective audCounterIdx := by
  intro c d h
  have hc := inOrder_audCounterIdx c
  rw [h, inOrder_audCounterIdx d] at hc
  exact (Option.some.inj hc).symm

/-- The counters in the order of R180. -/
def LaneCounter.inOrder : List LaneCounter :=
  [.sent, .skipped, .cut, .uplinkBad, .asksIgnored, .asksCrossed, .asksDropped, .strays]

theorem inOrder_laneCounterIdx (c : LaneCounter) : LaneCounter.inOrder[(laneCounterIdx c).val]? = some c := by
  cases c <;> rfl

theorem laneCounterIdx_injective : Function.Injective laneCounterIdx := by
  intro c d h
  have hc := inOrder_laneCounterIdx c
  rw [h, inOrder_laneCounterIdx d] at hc
  exact (Option.some.inj hc).symm

theorem countAud_keeps (s : State) (a : Aud) (k : AudCounter) :
    Keeps [.audCounter a k] s (s.countAud a k) := by
  intro p hp
  cases p with
  | audCounter b j =>
    refine (State.audCount_countAud ..).trans (if_neg fun h => hp ?_)
    obtain ⟨rfl, hk⟩ := h
    obtain rfl := audCounterIdx_injective hk
    exact List.mem_singleton.2 rfl
  | txn | forced => exact ⟨rfl, rfl⟩
  | _ => rfl

theorem countLane_keeps (s : State) (l : LaneId) (k : LaneCounter) :
    Keeps [.laneCounter l k] s (s.countLane l k) := by
  intro p hp
  cases p with
  | laneCounter b j =>
    refine (State.laneCount_countLane ..).trans (if_neg fun h => hp ?_)
    obtain ⟨rfl, hk⟩ := h
    obtain rfl := laneCounterIdx_injective hk
    exact List.mem_singleton.2 rfl
  | txn | forced => exact ⟨rfl, rfl⟩
  | _ => rfl

theorem withLane_keeps (s : State) (l : LaneId) (x : Lane) : Keeps [.lane l] s (s.withLane l x) := by
  intro p hp
  cases p with
  | lane k => exact State.lane_withLane_of_ne _ _ fun h => hp (h ▸ List.mem_singleton.2 rfl)
  | txn | forced => exact ⟨rfl, rfl⟩
  | _ => rfl

theorem withSetting_keeps (s : State) (k : Setting) (v : Nat) :
    Keeps [.setting k] s (s.withSetting k v) := by
  intro p hp
  cases p with
  | setting j =>
    refine (State.setting_withSetting ..).trans (if_neg fun h => hp ?_)
    rw [h]
    exact List.mem_singleton.2 rfl
  | txn | forced => exact ⟨rfl, rfl⟩
  | _ => rfl

theorem modTrack_keeps (s : State) (a : Aud) (t : Track) (f : TrackRec → TrackRec) :
    Keeps [.show_ a] s (s.modTrack a t f) := by
  intro p hp
  cases p with
  | show_ b =>
    refine (State.theShow?_modTrack ..).trans (if_neg fun h => hp ?_)
    rw [h]
    exact List.mem_singleton.2 rfl
  | txn | forced => constructor <;> simp
  | sync b => simp [Part.same, State.syncIn]
  | timeline b => simp [Part.same, State.timeline]
  | setting k => simp [Part.same, State.setting]
  | cond c => simp [Part.same, State.cond]
  | lane l => simp [Part.same, State.lane]
  | audCounter b c => simp [Part.same, State.audCount]
  | laneCounter l c => simp [Part.same, State.laneCount]
  | _ => simp [Part.same]

theorem modCueCount_keeps (s : State) (a : Aud) (f : Nat → Nat) :
    Keeps [.show_ a] s (s.modCueCount a f) := by
  intro p hp
  cases p with
  | show_ b =>
    refine (State.theShow?_modCueCount ..).trans (if_neg fun h => hp ?_)
    rw [h]
    exact List.mem_singleton.2 rfl
  | txn | forced => constructor <;> simp
  | sync b => simp [Part.same, State.syncIn]
  | timeline b => simp [Part.same, State.timeline]
  | setting k => simp [Part.same, State.setting]
  | cond c => simp [Part.same, State.cond]
  | lane l => simp [Part.same, State.lane]
  | audCounter b c => simp [Part.same, State.audCount]
  | laneCounter l c => simp [Part.same, State.laneCount]
  | _ => simp [Part.same]

theorem putCue_keeps (s : State) (c : Cue) : Keeps [.cues] s (s.putCue c) := by
  intro p hp
  cases p with
  | cues => exact absurd (List.mem_singleton.2 rfl) hp
  | txn | forced => exact ⟨rfl, rfl⟩
  | _ => rfl

theorem putRx_keeps (s : State) (r : RxRec) : Keeps [.roster] s (s.putRx r) := by
  intro p hp
  cases p with
  | roster => exact absurd (List.mem_singleton.2 rfl) hp
  | txn | forced => exact ⟨rfl, rfl⟩
  | _ => rfl

theorem rotAppend_keeps (s : State) (l : LaneId) (i : RxIdx) :
    Keeps [.lane l] s (s.rotAppend l i) := withLane_keeps _ _ _

theorem rotRemove_keeps (s : State) (l : LaneId) (i : RxIdx) :
    Keeps [.lane l] s (s.rotRemove l i) := withLane_keeps _ _ _

/-- A change of the roster alone. -/
theorem roster_keeps (s : State) (rs : List RxRec) : Keeps [.roster] s { s with roster := rs } := by
  intro p hp
  cases p with
  | roster => exact absurd (List.mem_singleton.2 rfl) hp
  | txn | forced => exact ⟨rfl, rfl⟩
  | _ => rfl

/-- A change of the Cue Table alone. -/
theorem table_keeps (s : State) (x : CueTable) :
    Keeps [.cues, .freeBlocks, .payload] s { s with table := x } := by
  intro p hp
  simp only [List.mem_cons, List.not_mem_nil, not_or, or_false] at hp
  obtain ⟨hcues, hfree, hpayload⟩ := hp
  cases p with
  | cues => exact absurd rfl hcues
  | freeBlocks => exact absurd rfl hfree
  | payload => exact absurd rfl hpayload
  | txn | forced => exact ⟨rfl, rfl⟩
  | _ => rfl

/-! ### An accepted request -/

/-- An accepted request changes what its action changes, and the inbox and the outbox; its response carries the
action's body. -/
theorem exec_accepted {α : Type} {c : Instr} {row : ReqRow} {parse : List Byte → Option α}
    {act : α → State → Answer} {m : Msg} {rest : List Msg} {s : State} {x : α} {r : Reply}
    {ps : List Part} (hexec : exec c s = takeRequest row (withForm parse act) s)
    (h : Taken row m rest s) (hx : parse m.body = some x)
    (hact : act x (s.withInbox rest) = .ok r) (hkeep : Keeps ps (s.withInbox rest) r.st)
    (hin : .inbox ∉ ps := by simp) (hout : .outbox ∉ ps := by simp) :
    exec c s = .next (settle (placeResponse m .ok r.clamped r.body r.st))
      ∧ ChangesOnly (ps ++ [.inbox, .outbox]) s
          (settle (placeResponse m .ok r.clamped r.body r.st))
      ∧ Responded m rest .ok r.clamped r.body s
          (settle (placeResponse m .ok r.clamped r.body r.st)) := by
  obtain ⟨hnext, hframe, hresp⟩ := accepted_request (ps := ps) h ((withForm_some hx act _).trans hact)
    (hkeep .inbox hin) (hkeep .outbox hout) fun p hp hpin hpout =>
      (same_withInbox p hpin rest s).trans (hkeep p hp)
  exact ⟨hexec.trans hnext, hframe, hresp⟩

/-- A request of a kind that fails a check is refused (R164). -/
theorem exec_refused {α : Type} {c : Instr} {row : ReqRow} {parse : List Byte → Option α}
    {act : α → State → Answer} {m : Msg} {rest : List Msg} {s : State} {x : α} {e : Result}
    (hexec : exec c s = takeRequest row (withForm parse act) s) (h : Taken row m rest s)
    (hx : parse m.body = some x) (hact : act x (s.withInbox rest) = .error e) :
    Refused c m rest e s :=
  refused_of_act hexec h ((withForm_some hx act _).trans hact)

/-- A request of bad form is refused (R164, check 4). -/
theorem exec_badForm {α : Type} {c : Instr} {row : ReqRow} {parse : List Byte → Option α}
    {act : α → State → Answer} {m : Msg} {rest : List Msg} {s : State}
    (hexec : exec c s = takeRequest row (withForm parse act) s) (h : Taken row m rest s)
    (hx : parse m.body = none) : Refused c m rest .badFormat s :=
  refused_of_act hexec h (withForm_none hx act _)

end Sys2Proof.Machine
end


section
/-! PROOFS. The clock, the sync lines, the gates and the report deadlines (O31 to O36). -/

namespace Sys2Proof.Machine

/-! ### SITE_TIME_ADVANCE (R16, R18) -/

theorem exec_siteTimeAdvance {s : State} (h : s.phase ≠ .inReset) :
    exec .siteTimeAdvance s = done (timeAdvanced s) := if_neg h

theorem timeAdvanced_keeps (s : State) : Keeps [.clock] s (timeAdvanced s) := by
  intro p hp
  cases p with
  | clock => exact absurd (List.mem_singleton.2 rfl) hp
  | txn | forced => exact ⟨rfl, rfl⟩
  | _ => rfl

/-- Settles O31. -/
theorem siteTimeAdvancesByOne : Obligations.SiteTimeAdvancesByOne := by
  intro s hphase
  refine ⟨_, exec_siteTimeAdvance hphase, (timeAdvanced_keeps s).changesOnly, ?_, ?_, ?_⟩
  · exact BitVec.toNat_add _ _
  · exact beq_iff_eq
  · exact beq_iff_eq

/-! ### The line of an auditorium in an edge mode (R20) -/

/-- The edges that count are the rising one in RISE and the falling one in FALL (R20). -/
theorem Sens.activeEdge_iff (m : Sens) (lev : Bool) :
    m.activeEdge lev = true ↔ m = .rise ∧ lev = true ∨ m = .fall ∧ lev = false := by
  cases m <;> simp [Sens.activeEdge]

/-- Outside reset and the gate modes, a change of the line acts by whether its edge is active (R20). -/
theorem exec_activeEdge {a : Aud} {lev : Bool} {s : State} (hphase : s.phase ≠ .inReset)
    (hlevel : (s.syncIn a).level ≠ lev) (hedge : (s.syncIn a).sens.gateLevel? = none) :
    exec (.activeEdge a lev) s =
      if (s.syncIn a).sens.activeEdge lev then
        let s' := s.withSync a { s.syncIn a with level := lev, capture := some s.clock.time }
        done (if (s.syncIn a).capture.isSome && s.isOpen a then s'.latch .edgeOverrun (.aud a) else s')
      else done (s.withSync a { s.syncIn a with level := lev }) := by
  have hgate : ¬(s.syncIn a).sens.gateLevel?.isSome = true := by simp [hedge]
  exact (if_neg hlevel).trans ((if_neg hphase).trans (if_neg hgate))

/-- Settles O32. -/
theorem activeEdgeIsCaptured : Obligations.ActiveEdgeIsCaptured := by
  intro a lev s hphase hlevel hedge
  rw [exec_activeEdge hphase hlevel hedge]
  by_cases hact : (s.syncIn a).sens.activeEdge lev = true
  · rw [if_pos hact]
    refine ⟨_, rfl, fun _ => ⟨?_, fun ⟨hfull, hopen⟩ => ?_, fun hfree => ?_⟩,
      fun hno => absurd ((Sens.activeEdge_iff _ _).1 hact) hno⟩
    · split <;> exact vput_get_self ..
    · rw [if_pos (by simp [hfull, hopen])]
      exact ⟨State.cond_withCond_self _ _ _,
        (((withSync_keeps _ _ _).mono (by simp)).trans ((latch_keeps _ _ _).mono (by simp))).changesOnly⟩
    · rw [if_neg (by simpa [or_iff_not_imp_left, Option.isSome_iff_ne_none] using hfree)]
      exact (withSync_keeps _ _ _).changesOnly
  · rw [if_neg hact]
    exact ⟨_, rfl, fun hyes => absurd ((Sens.activeEdge_iff _ _).2 hyes) hact,
      fun _ => ⟨vput_get_self .., (withSync_keeps _ _ _).changesOnly⟩⟩

/-! ### Gates (R21, R37, R39) -/

theorem exec_gateActive {a : Aud} {lev : Bool} {s : State} (hphase : s.phase ≠ .inReset)
    (hgate : (s.syncIn a).sens.gateLevel? = some lev) (hlevel : (s.syncIn a).level ≠ lev) :
    exec (.gateActive a) s =
      done (gateBecomesActive a (s.withSync a { s.syncIn a with level := lev, gate := true })) := by
  simp [exec, execGateActive, hgate, hphase, hlevel]

theorem exec_gateRelease {a : Aud} {lev : Bool} {s : State} (hphase : s.phase ≠ .inReset)
    (hgate : (s.syncIn a).sens.gateLevel? = some lev) (hlevel : (s.syncIn a).level = lev) :
    exec (.gateRelease a) s =
      done (gateIsReleased a (s.withSync a { s.syncIn a with level := !lev, gate := false })) := by
  simp [exec, execGateRelease, hgate, hphase, hlevel]

/-- A Timeline is rewritten and its conditions are judged. -/
theorem rewriteTimeline_keeps (s : State) (a : Aud) (x : Timeline) :
    Keeps [.timeline a, .cond .tlCoast, .cond .tlLost] s ((s.withTimeline a x).judgeTimelines a) :=
  ((withTimeline_keeps _ _ _).mono (by simp)).trans ((judgeTimelines_keeps _ _).mono (by simp))

theorem gateBecomesActive_keeps (s : State) (a : Aud) :
    Keeps [.timeline a, .cond .tlCoast, .cond .tlLost] s (gateBecomesActive a s) :=
  keeps_ite (fun _ => rewriteTimeline_keeps _ _ _) fun _ => .refl _ _

theorem gateIsReleased_keeps (s : State) (a : Aud) :
    Keeps [.timeline a, .cond .tlCoast, .cond .tlLost] s (gateIsReleased a s) :=
  keeps_ite (fun _ => rewriteTimeline_keeps _ _ _) fun _ => .refl _ _

theorem gateBecomesActive_closed {s : State} {a : Aud} (h : s.isOpen a = false) :
    gateBecomesActive a s = s := if_neg (by simp [h])

theorem gateIsReleased_closed {s : State} {a : Aud} (h : s.isOpen a = false) :
    gateIsReleased a s = s := if_neg (by simp [h])

theorem gateBecomesActive_syncIn (s : State) (a b : Aud) :
    (gateBecomesActive a s).syncIn b = s.syncIn b :=
  gateBecomesActive_keeps s a (.sync b) (by simp)

theorem gateIsReleased_syncIn (s : State) (a b : Aud) :
    (gateIsReleased a s).syncIn b = s.syncIn b :=
  gateIsReleased_keeps s a (.sync b) (by simp)

theorem gateBecomesActive_open {s : State} {a : Aud} (h : s.isOpen a = true) :
    (gateBecomesActive a s).timeline a = gatedTimeline s.clock.time (s.timeline a) :=
  (gateBecomesActive_timeline s a a).trans (if_pos ⟨rfl, h⟩)

theorem gateIsReleased_open {s : State} {a : Aud} (h : s.isOpen a = true) :
    (gateIsReleased a s).timeline a = releasedTimeline s.clock.time (s.timeline a) :=
  (gateIsReleased_timeline s a a).trans (if_pos ⟨rfl, h⟩)

/-- Settles O33. -/
theorem gateHoldsTheTimeline : Obligations.GateHoldsTheTimeline := by
  intro a lev s hphase hgate hlevel
  let u := s.withSync a { s.syncIn a with level := lev, gate := true }
  have htimeline (hopen : s.isOpen a = true) : (settle (gateBecomesActive a u)).timeline a
      = gatedTimeline s.clock.time (s.timeline a) := gateBecomesActive_open (s := u) hopen
  refine ⟨_, exec_gateActive hphase hgate hlevel, ?_, fun hclosed => ?_, fun hopen hmoves p hp => ?_,
    fun hopen hheld => ?_, fun hopen hidle => ?_, ?_⟩
  · exact (gateBecomesActive_syncIn u a a).trans (vput_get_self ..)
  · rw [gateBecomesActive_closed (s := u) hclosed]
    exact (withSync_keeps _ _ _).changesOnly
  · rw [htimeline hopen]
    obtain hst | hst := hmoves <;> simp [gatedTimeline, Timeline.project, hst, hp]
  · rw [htimeline hopen]
    simp [gatedTimeline, hheld]
  · rw [htimeline hopen]
    obtain hst | hst | hst := hidle <;> simp [gatedTimeline, hst]
  · exact (((withSync_keeps _ _ _).mono (by simp)).trans
      ((gateBecomesActive_keeps u a).mono (by simp))).changesOnly

/-- Settles O34. -/
theorem gateReleaseLetsTheTimelineRun : Obligations.GateReleaseLetsTheTimelineRun := by
  intro a lev s hphase hgate hlevel
  let u := s.withSync a { s.syncIn a with level := !lev, gate := false }
  have htimeline (hopen : s.isOpen a = true) : (settle (gateIsReleased a u)).timeline a
      = releasedTimeline s.clock.time (s.timeline a) := gateIsReleased_open (s := u) hopen
  refine ⟨_, exec_gateRelease hphase hgate hlevel, ?_, fun hclosed => ?_,
    fun hopen hheld hpaused => ?_, fun hopen hheld hruns p hp => ?_, fun hopen hidle => ?_, ?_⟩
  · exact (gateIsReleased_syncIn u a a).trans (vput_get_self ..)
  · rw [gateIsReleased_closed (s := u) hclosed]
    exact (withSync_keeps _ _ _).changesOnly
  · rw [htimeline hopen]
    simp [releasedTimeline, hheld, hpaused]
  · rw [htimeline hopen]
    simp [releasedTimeline, hheld, hruns, hp]
  · rw [htimeline hopen]
    obtain hst | hst | hst := hidle <;> simp [releasedTimeline, hst]
  · exact (((withSync_keeps _ _ _).mono (by simp)).trans
      ((gateIsReleased_keeps u a).mono (by simp))).changesOnly

/-! ### SYNC_MODE (R22) -/

theorem exec_syncMode (s : State) :
    exec .syncMode s = takeRequest .syncMode (withForm syncMode? actSyncMode) s := rfl

theorem actSyncMode_eq (a : Aud) (m : Sens) (s : State) :
    actSyncMode (a, m) s = accept (syncModeSet a m s)
      (be8 (sensCode (s.syncIn a).sens) ++ be8 (sensCode m) ++ be8 (flagBit (s.syncIn a).level 0)
        ++ be8 (tlStateCode ((syncModeSet a m s).timeline a).state)) := rfl

theorem syncReleased_keeps (s : State) (a : Aud) :
    Keeps [.sync a, .timeline a, .cond .tlCoast, .cond .tlLost] s (syncReleased a s) := by
  have hempty := (withSync_keeps s a { s.syncIn a with capture := none }).mono
    (qs := [.sync a, .timeline a, .cond .tlCoast, .cond .tlLost]) (by simp)
  exact keeps_ite (fun _ => hempty.trans ((gateIsReleased_keeps _ a).mono (by simp))) fun _ => hempty

theorem syncModeSet_keeps (s : State) (a : Aud) (m : Sens) :
    Keeps [.sync a, .timeline a, .cond .tlCoast, .cond .tlLost] s (syncModeSet a m s) := by
  have hset := (syncReleased_keeps s a).trans ((withSync_keeps (syncReleased a s) a
    { (syncReleased a s).syncIn a with
      sens := m, gate := gateOf m (s.syncIn a).level }).mono (by simp))
  exact keeps_ite (fun _ => hset.trans ((gateBecomesActive_keeps _ a).mono (by simp))) fun _ => hset

theorem syncReleased_syncIn (s : State) (a : Aud) :
    (syncReleased a s).syncIn a = { s.syncIn a with capture := none } := by
  unfold syncReleased
  dsimp only
  split
  · exact (gateIsReleased_syncIn _ a a).trans (vput_get_self ..)
  · exact vput_get_self ..

theorem syncModeSet_syncIn (s : State) (a : Aud) (m : Sens) :
    (syncModeSet a m s).syncIn a
      = ⟨(s.syncIn a).level, m, none, decide (m.gateLevel? = some (s.syncIn a).level)⟩ := by
  have hset : ((syncReleased a s).withSync a { (syncReleased a s).syncIn a with
      sens := m, gate := gateOf m (s.syncIn a).level }).syncIn a
        = ⟨(s.syncIn a).level, m, none, gateOf m (s.syncIn a).level⟩ := by
    rw [State.syncIn_withSync, if_pos rfl, syncReleased_syncIn]
  have hgate : gateOf m (s.syncIn a).level
      = decide (m.gateLevel? = some (s.syncIn a).level) := by
    rw [gateOf, Bool.eq_iff_iff, beq_iff_eq, decide_eq_true_iff]
  rw [← hgate, ← hset]
  unfold syncModeSet
  dsimp only
  split
  · exact gateBecomesActive_syncIn _ a a
  · rfl

/-- The Timeline after a SYNC_MODE: released if gated, held if the new gate is active (R22). -/
theorem syncModeSet_timeline (s : State) (a : Aud) (m : Sens) :
    (syncModeSet a m s).timeline a =
      let x := if (s.timeline a).gated = true ∧ s.isOpen a = true then
          releasedTimeline s.clock.time (s.timeline a)
        else s.timeline a
      if gateOf m (s.syncIn a).level = true ∧ s.isOpen a = true then gatedTimeline s.clock.time x
      else x := by
  have hreleased : (syncReleased a s).timeline a
      = if (s.timeline a).gated = true ∧ s.isOpen a = true then
          releasedTimeline s.clock.time (s.timeline a)
        else s.timeline a := by
    let u := s.withSync a { s.syncIn a with capture := none }
    unfold syncReleased
    dsimp only
    by_cases hg : (s.timeline a).gated = true
    · rw [if_pos (show (u.timeline a).gated = true from hg)]
      refine (gateIsReleased_timeline u a a).trans ?_
      simp only [hg, true_and]
      rfl
    · rw [if_neg (show ¬(u.timeline a).gated = true from hg), if_neg fun h => hg h.1]
      rfl
  have hkeep := syncReleased_keeps s a
  have htime : (syncReleased a s).clock = s.clock := hkeep .clock (by simp)
  have hopen : (syncReleased a s).isOpen a = s.isOpen a :=
    congrArg Option.isSome (hkeep (.show_ a) (by simp))
  unfold syncModeSet
  dsimp only
  rw [← hreleased, ← htime, ← hopen]
  by_cases hgate : gateOf m (s.syncIn a).level = true
  · rw [if_pos hgate]
    refine (gateBecomesActive_timeline _ a a).trans ?_
    simp only [hgate, true_and]
    rfl
  · rw [if_neg hgate, if_neg fun h => hgate h.1]
    rfl

/-- Settles O35. -/
theorem syncModeRewritesTheGate : Obligations.SyncModeRewritesTheGate := by
  intro m rest s a mode h hx
  obtain ⟨hexec, hframe, hresp⟩ := exec_accepted (exec_syncMode s) h hx
    (actSyncMode_eq a mode (s.withInbox rest)) (syncModeSet_keeps (s.withInbox rest) a mode)
  let t := settle (placeResponse m .ok false (be8 (sensCode (s.syncIn a).sens) ++ be8 (sensCode mode)
    ++ be8 (flagBit (s.syncIn a).level 0)
    ++ be8 (tlStateCode ((syncModeSet a mode (s.withInbox rest)).timeline a).state))
    (syncModeSet a mode (s.withInbox rest)))
  have hsync : t.syncIn a
      = ⟨(s.syncIn a).level, mode, none, decide (mode.gateLevel? = some (s.syncIn a).level)⟩ :=
    syncModeSet_syncIn (s.withInbox rest) a mode
  have hgate : (t.syncIn a).gate = gateOf mode (s.syncIn a).level := by
    rw [hsync, gateOf, Bool.eq_iff_iff, beq_iff_eq, decide_eq_true_iff]
  have htimeline : t.timeline a =
      let x := if (s.timeline a).gated = true ∧ s.isOpen a = true then
          releasedTimeline s.clock.time (s.timeline a)
        else s.timeline a
      if gateOf mode (s.syncIn a).level = true ∧ s.isOpen a = true then gatedTimeline s.clock.time x
      else x := syncModeSet_timeline (s.withInbox rest) a mode
  dsimp only at htimeline
  rw [← hgate] at htimeline
  refine ⟨t, hexec, hsync, fun hclosed => ?_, fun hopen hg hn => ?_, fun hopen hg hn => ?_,
    fun hopen hg hn => ?_, fun hopen hg hn => ?_, hresp, hframe⟩
  · rw [htimeline, if_neg (by simp [hclosed]), if_neg (by simp [hclosed])]
  · rw [htimeline, if_neg (by simp [hn]), if_neg (by simp [hg])]
  · rw [htimeline, if_neg (by simp [hn]), if_pos ⟨hg, hopen⟩]
  · rw [htimeline, if_pos ⟨hn, hopen⟩, if_neg (by simp [hg])]
  · rw [htimeline, if_pos ⟨hn, hopen⟩, if_pos ⟨hg, hopen⟩]

/-! ### The report deadlines (R40, R41) -/

/-- A deadline counted from the last accepted report is overdue when the signed difference says so (R17). -/
theorem reportOverdue_iff {s : State} {a : Aud} {d : SiteTime} (h : (s.timeline a).lastAccepted = some d)
    (ms : Nat) : reportOverdue s a ms = true ↔ 0 ≤ Machine.sdiff s.clock.time (after d ms) := by
  simp [reportOverdue, h, reached]

theorem rewriteTimeline_timeline (s : State) (a : Aud) (x : Timeline) :
    (settle ((s.withTimeline a x).judgeTimelines a)).timeline a = x := by
  have hjudged : ((s.withTimeline a x).judgeTimelines a).timeline a = (s.withTimeline a x).timeline a :=
    judgeTimelines_keeps (s.withTimeline a x) a (.timeline a) (by simp)
  exact hjudged.trans (vput_get_self ..)

/-- Settles O36. -/
theorem reportDeadlinesCoastAndLose : Obligations.ReportDeadlinesCoastAndLose := by
  intro a s d hphase hd
  refine ⟨fun hrun => ?_, fun hcoast => ?_⟩
  · by_cases hdue : 0 ≤ Machine.sdiff s.clock.time (after d (s.setting .reportTimeout))
    · have hexec : execCoastDeadline a s = _ :=
        if_pos ⟨hphase, hrun, (reportOverdue_iff hd _).2 hdue⟩
      refine ⟨_, hexec, fun _ => ⟨(rewriteTimeline_keeps _ _ _).changesOnly, ?_⟩,
        fun hbefore => absurd hdue (not_le.2 hbefore)⟩
      rw [rewriteTimeline_timeline]
      simp only [reportOverdue_iff hd]
      rfl
    · have hexec : execCoastDeadline a s = _ :=
        if_neg fun ⟨_, _, hover⟩ => hdue ((reportOverdue_iff hd _).1 hover)
      exact ⟨_, hexec, fun h => absurd h hdue, fun _ => rfl⟩
  · by_cases hdue : 0 ≤ Machine.sdiff s.clock.time (after d (s.setting .coastLimit))
    · have hexec : execTimelineLossDeadline a s = _ :=
        if_pos ⟨hphase, hcoast, (reportOverdue_iff hd _).2 hdue⟩
      exact ⟨_, hexec, fun _ => ⟨(rewriteTimeline_keeps _ _ _).changesOnly,
        rewriteTimeline_timeline _ _ _⟩, fun hbefore => absurd hdue (not_le.2 hbefore)⟩
    · have hexec : execTimelineLossDeadline a s = _ :=
        if_neg fun ⟨_, _, hover⟩ => hdue ((reportOverdue_iff hd _).1 hover)
      exact ⟨_, hexec, fun h => absurd h hdue, fun _ => rfl⟩

end Sys2Proof.Machine
end


section
/-! PROOFS. The resets and the link's operations (O26 to O30). -/

namespace Sys2Proof.Machine

/-! ### The blocks after a reset (R170) -/

theorem afterReset_lane (s : State) (l : LaneId) :
    (afterReset s).lane l = Lane.reset (s.lane l).rfReady := by cases l <;> rfl

theorem afterReset_syncIn (s : State) (a : Aud) :
    (afterReset s).syncIn a = SyncInput.reset (s.syncIn a).level := by
  simp [afterReset, State.syncIn, Vector.get_eq_getElem]

theorem afterReset_flags (s : State) :
    faultFlag (afterReset s) = false ∧ noticeFlag (afterReset s) = false :=
  (by decide : faultFlag State.reset = false ∧ noticeFlag State.reset = false)

/-- Judging the flags after a pin reset leaves the Status Unit as the reset made it (R165, R176). -/
theorem settle_afterReset_status (s : State) : (settle (afterReset s)).status = State.reset.status := by
  obtain ⟨hfault, hnotice⟩ := afterReset_flags s
  have hattn : attnLine (afterReset s) = false := rfl
  rw [settle, hfault, hnotice, hattn]
  rfl

theorem exec_pinReset (s : State) : exec .pinReset s = done (heldInReset s) := rfl

theorem exec_leaveReset {s : State} (h : s.phase = .inReset) :
    exec .leaveReset s = done (afterReset s) := if_pos h

theorem exec_startUpCompletion {s : State} (h : s.phase = .startUp) :
    exec .startUpCompletion s = done { s with phase := .ready } := if_pos h

theorem heldInReset_keeps (s : State) : Keeps [.phase, .txn] s (heldInReset s) := by
  intro p hp
  simp only [List.mem_cons, List.not_mem_nil, not_or, or_false] at hp
  obtain ⟨hphase, htxn⟩ := hp
  cases p with
  | phase => exact absurd rfl hphase
  | txn => exact absurd rfl htxn
  | forced => exact ⟨rfl, rfl⟩
  | _ => rfl

theorem phase_keeps (s : State) (x : Phase) : Keeps [.phase] s { s with phase := x } := by
  intro p hp
  cases p with
  | phase => exact absurd (List.mem_singleton.2 rfl) hp
  | txn | forced => exact ⟨rfl, rfl⟩
  | _ => rfl

/-- Settles O30. -/
theorem pinResetRestoresEveryBlock : Obligations.PinResetRestoresEveryBlock := by
  intro s cleared
  have hcleared (u : State) (hpending : u.pending = s.pending)
      (hlevel : ∀ a, (u.syncIn a).level = (s.syncIn a).level)
      (hready : ∀ l, (u.lane l).rfReady = (s.lane l).rfReady) : cleared (settle (afterReset u)) :=
    ⟨hpending, rfl, rfl, rfl, rfl, rfl, rfl, rfl, rfl, settle_afterReset_status u, rfl, rfl,
      fun l => by rw [← hready]; exact afterReset_lane u l,
      fun a => by rw [← hlevel]; exact afterReset_syncIn u a⟩
  refine ⟨?_, fun hphase => ?_, fun hphase => ?_⟩
  · let t := settle (heldInReset s)
    let u := settle (afterReset t)
    let v := settle { u with phase := .ready }
    obtain ⟨hfault, hnotice⟩ := afterReset_flags t
    have hquiet : v.status.attn = false := by
      have hready : attnLine { u with phase := .ready }
          = (!([] : List Response).isEmpty || (u.setting .attnOnStatus == 1
              && (faultFlag (afterReset t) || noticeFlag (afterReset t)))) := rfl
      rw [hfault, hnotice] at hready
      exact hready.trans (by simp)
    exact ⟨t, exec_pinReset s, (heldInReset_keeps s).changesOnly, rfl, rfl, rfl, rfl, rfl, rfl,
      u, v, exec_leaveReset rfl, hcleared t rfl (fun _ => rfl) (fun _ => rfl),
      exec_startUpCompletion rfl, (phase_keeps u .ready).changesOnly, rfl, hquiet⟩
  · exact ⟨_, exec_leaveReset hphase, hcleared s rfl (fun _ => rfl) (fun _ => rfl)⟩
  · exact ⟨_, exec_startUpCompletion hphase, (phase_keeps s .ready).changesOnly, rfl⟩

/-! ### RESTART (R171) -/

theorem exec_restart_taken {s : State} {m : Msg} {rest : List Msg} (hphase : s.phase = .ready)
    (hin : s.link.inbox = m :: rest) (hform : m.isRestart = true) :
    exec .restart s = done (restarted s) := by
  simp [exec, execRestart, hin, hphase, hform]

theorem exec_restart_badForm {s : State} {m : Msg} {rest : List Msg}
    (hin : s.link.inbox = m :: rest) (hform : ¬m.isRestart = true) :
    exec .restart s = takeRequest .restart (fun _ _ => .error .badFormat) s := by
  simp [exec, execRestart, hin, hform]

/-- Settles O26. -/
theorem restartKeepsOnlyTheSettings : Obligations.RestartKeepsOnlyTheSettings := by
  intro m rest s
  refine ⟨fun hphase hin hrow hlen hbody => ?_, fun h hbody => ?_⟩
  · have hform : m.isRestart = true := by simp [Msg.isRestart, hrow, hlen, hbody]
    exact ⟨_, exec_restart_taken hphase hin hform, fun _ => rfl, rfl, rfl, rfl, rfl, rfl, rfl, rfl, rfl,
      rfl, rfl, rfl, rfl, rfl, rfl, afterReset_lane s, afterReset_syncIn s⟩
  · have hform : ¬m.isRestart = true := by simp [Msg.isRestart, hbody]
    obtain ⟨-, hin, -⟩ := id h
    obtain ⟨t, hnext, hframe, hresp⟩ :=
      refused_request (act := fun _ _ => .error .badFormat) h rfl
    exact ⟨t, (exec_restart_badForm hin hform).trans hnext, hresp, hframe⟩

/-! ### The link's operations (R157 to R161) -/

/-- A change of the link's transaction and of the bytes sent. -/
theorem link_keeps (s : State) {k : Link} (hin : k.inbox = s.link.inbox)
    (hout : k.outbox = s.link.outbox) : Keeps [.txn, .miso] s { s with link := k } := by
  intro p hp
  simp only [List.mem_cons, List.not_mem_nil, not_or, or_false] at hp
  obtain ⟨htxn, hmiso⟩ := hp
  cases p with
  | txn => exact absurd rfl htxn
  | miso => exact absurd rfl hmiso
  | inbox => exact hin
  | outbox => exact hout
  | forced => exact ⟨rfl, rfl⟩
  | _ => rfl

theorem beginTxn_keeps (s : State) (kind : TxnKind) (out : List Byte) :
    Keeps [.txn, .miso] s (beginTxn kind out s) := link_keeps s rfl rfl

theorem endTxn_keeps (s : State) (out : List Byte) (n : Nat) :
    Keeps [.txn, .miso] s (endTxn out n s) := link_keeps s rfl rfl

theorem idleTxn_keeps (s : State) (out : List Byte) (n : Nat) :
    Keeps [.txn, .miso] s (idleTxn out n s) := link_keeps s rfl rfl

theorem csFalls_keeps (s : State) : Keeps [.txn, .miso] s (csFalls s) := link_keeps s rfl rfl

theorem secondByteBegins_keeps (s : State) (kind : TxnKind) (out : List Byte) :
    Keeps [.txn] s (secondByteBegins kind out s) := by
  intro p hp
  cases p with
  | txn => exact absurd (List.mem_singleton.2 rfl) hp
  | forced => exact ⟨rfl, rfl⟩
  | _ => rfl

theorem deliver_keeps (s : State) (bytes : List Byte) : Keeps [.inbox] s (deliver bytes s) := by
  intro p hp
  cases p with
  | inbox => exact absurd (List.mem_singleton.2 rfl) hp
  | txn | forced => exact ⟨rfl, rfl⟩
  | _ => rfl

theorem dropResponse_keeps (s : State) : Keeps [.outbox] s (dropResponse s) := by
  intro p hp
  cases p with
  | outbox => exact absurd (List.mem_singleton.2 rfl) hp
  | txn | forced => exact ⟨rfl, rfl⟩
  | _ => rfl

/-! ### WRITE_MSG (R159) -/

/-- With no transaction open, a slot is free just when the inbox holds fewer than 8 messages (R162). -/
theorem freeSlots_of_noTxn {s : State} (h : s.link.txn = none) :
    s.link.freeSlots = Config.linkSlots - s.link.inbox.length := by
  simp [Link.freeSlots, Link.claimed, h]

theorem exec_writeMsg_ignored {s : State} (htxn : s.link.txn = none) (hphase : s.phase ≠ .ready) :
    exec .writeMsg s = done (beginTxn (.write false) [] s) := by
  simp [exec, execWriteMsg, htxn, hphase]

theorem exec_writeMsg_claims {s : State} (htxn : s.link.txn = none) (hphase : s.phase = .ready)
    (hroom : s.link.inbox.length < Config.linkSlots) :
    exec .writeMsg s = done (beginTxn (.write true) [] s) := by
  have hfree : 0 < s.link.freeSlots := by
    rw [freeSlots_of_noTxn htxn]
    omega
  simp [exec, execWriteMsg, htxn, hphase, hfree]

theorem exec_writeMsg_overflows {s : State} (htxn : s.link.txn = none) (hphase : s.phase = .ready)
    (hfull : Config.linkSlots ≤ s.link.inbox.length) :
    exec .writeMsg s = done ((beginTxn (.write false) [] s).latch .inboxOverflow .nobody) := by
  have hnone : s.link.freeSlots = 0 := by
    rw [freeSlots_of_noTxn htxn]
    omega
  simp [exec, execWriteMsg, htxn, hphase, hnone]

theorem exec_writeMsgEnd {s : State} {claimed begun : Bool} {out : List Byte}
    (htxn : s.link.txn = some ⟨.write claimed, begun, out⟩) (bytes : List Byte) :
    exec (.writeMsgEnd bytes) s =
      done (if claimed = true ∧ bytes ≠ [] then deliver bytes (endTxn out bytes.length s)
        else endTxn out bytes.length s) := by
  simp only [exec, execWriteMsgEnd, htxn]
  rfl

/-- Settles O27. -/
theorem writeMsgDeliversOrOverflows : Obligations.WriteMsgDeliversOrOverflows := by
  intro s bytes htxn
  have hlost (t : State) (ht : t.link.txn = some ⟨.write false, false, [portByte2 s]⟩) :
      exec (.writeMsgEnd bytes) t = done (endTxn [portByte2 s] bytes.length t) :=
    (exec_writeMsgEnd ht bytes).trans (by simp)
  by_cases hphase : s.phase = .ready
  · by_cases hroom : s.link.inbox.length < Config.linkSlots
    · let t := settle (beginTxn (.write true) [] s)
      have hfree : t.link.freeSlots + 1 = s.link.freeSlots := by
        rw [freeSlots_of_noTxn htxn]
        simp only [t, settle, beginTxn, Link.freeSlots, Link.claimed, if_true]
        omega
      have hend := exec_writeMsgEnd (s := t) (claimed := true) (begun := false) rfl bytes
      by_cases hbytes : bytes = []
      · rw [if_neg (by simp [hbytes])] at hend
        exact ⟨t, _, exec_writeMsg_claims htxn hphase hroom, hend, rfl, rfl,
          fun h => absurd hphase h, fun _ _ => ⟨hfree, (beginTxn_keeps _ _ _).changesOnly,
            ((endTxn_keeps _ _ _).mono (by simp)).changesOnly, (if_pos hbytes).symm⟩,
          fun _ h => absurd hroom (not_lt.2 h)⟩
      · rw [if_pos ⟨rfl, hbytes⟩] at hend
        exact ⟨t, _, exec_writeMsg_claims htxn hphase hroom, hend, rfl, rfl,
          fun h => absurd hphase h, fun _ _ => ⟨hfree, (beginTxn_keeps _ _ _).changesOnly,
            (((endTxn_keeps _ _ _).mono (by simp)).trans ((deliver_keeps _ _).mono (by simp))).changesOnly,
            (if_neg hbytes).symm⟩,
          fun _ h => absurd hroom (not_lt.2 h)⟩
    · exact ⟨_, _, exec_writeMsg_overflows htxn hphase (not_lt.1 hroom), hlost _ rfl, rfl, rfl,
        fun h => absurd hphase h, fun _ h => absurd h hroom,
        fun _ _ => ⟨State.cond_withCond_self _ _ _,
          (((beginTxn_keeps _ _ _).mono (by simp)).trans ((latch_keeps _ _ _).mono (by simp))).changesOnly,
          (endTxn_keeps _ _ _).changesOnly⟩⟩
  · exact ⟨_, _, exec_writeMsg_ignored htxn hphase, hlost _ rfl, rfl, rfl,
      fun _ => ⟨(beginTxn_keeps _ _ _).changesOnly, (endTxn_keeps _ _ _).changesOnly⟩,
      fun h => absurd h hphase, fun h => absurd h hphase⟩

/-! ### READ_MSG (R160) -/

theorem exec_readMsg_response {s : State} {r : Response} {rest : List Response}
    (htxn : s.link.txn = none) (hphase : s.phase = .ready) (hout : s.link.outbox = r :: rest) :
    exec .readMsg s = done (beginTxn (.read true) (responseBytes r) s) := by
  simp [exec, execReadMsg, htxn, hphase, hout]

theorem exec_readMsg_empty {s : State} (htxn : s.link.txn = none)
    (h : s.phase = .ready → s.link.outbox = []) :
    exec .readMsg s = done (beginTxn (.read false) (emptyHeader s) s) := by
  simp only [exec, execReadMsg, htxn]
  cases hphase : s.phase with
  | ready => simp [h hphase]
  | inReset | startUp => rfl

theorem exec_readMsgEnd {s : State} {selected begun : Bool} {out : List Byte}
    (htxn : s.link.txn = some ⟨.read selected, begun, out⟩) (n : Nat) :
    exec (.readMsgEnd n) s =
      done (if selected = true ∧ 2 ≤ n then dropResponse (endTxn out n s) else endTxn out n s) := by
  simp only [exec, execReadMsgEnd, htxn]
  rfl

theorem portByte2_of_notReady {s : State} (h : s.phase ≠ .ready) : portByte2 s = 0 := if_neg h

/-- Until the part is ready, a READ_MSG sends zeros alone (R172). -/
theorem padTo_emptyHeader_of_notReady {s : State} (h : s.phase ≠ .ready) (n : Nat) :
    padTo n (portByte2 s :: emptyHeader s) = List.replicate n 0 := by
  have hzeros : portByte2 s :: emptyHeader s = List.replicate 7 0 := by
    rw [portByte2_of_notReady h, emptyHeader, if_neg h]
    rfl
  rw [hzeros, padTo, List.take_replicate, List.length_replicate, ← List.replicate_add]
  congr 1
  omega

/-- Settles O28. -/
theorem readMsgReadsTheOldestResponse : Obligations.ReadMsgReadsTheOldestResponse := by
  intro s n htxn first
  by_cases hresp : s.phase = .ready ∧ s.link.outbox ≠ []
  · obtain ⟨hphase, hne⟩ := hresp
    obtain ⟨r, rest, hout⟩ := List.exists_cons_of_ne_nil hne
    let t := settle (beginTxn (.read true) (responseBytes r) s)
    have hend := exec_readMsgEnd (s := t) (selected := true) (begun := false) rfl n
    have hends : Keeps [.outbox, .txn, .miso] t
        (if true = true ∧ 2 ≤ n then dropResponse (endTxn (portByte2 s :: responseBytes r) n t)
          else endTxn (portByte2 s :: responseBytes r) n t) :=
      have hend := (endTxn_keeps t (portByte2 s :: responseBytes r) n).mono
        (qs := [.outbox, .txn, .miso]) (by simp)
      keeps_ite (fun _ => hend.trans ((dropResponse_keeps _).mono (by simp))) fun _ => hend
    refine ⟨t, _, exec_readMsg_response htxn hphase hout, hend, (beginTxn_keeps _ _ _).changesOnly,
      hends.changesOnly, ?_, fun r' rest' _ hout' => ?_, fun _ h => absurd h hne,
      fun h => absurd hphase h⟩
    · split <;> rfl
    · obtain ⟨rfl, rfl⟩ := List.cons.inj (hout.symm.trans hout')
      refine ⟨?_, by split <;> rfl⟩
      by_cases hn : 2 ≤ n
      · rw [if_pos ⟨rfl, hn⟩, if_pos hn]
        exact congrArg List.tail hout
      · rw [if_neg fun h => hn h.2, if_neg hn]
        exact hout
  · have hempty (hphase : s.phase = .ready) : s.link.outbox = [] :=
      not_not.1 fun hne => hresp ⟨hphase, hne⟩
    let t := settle (beginTxn (.read false) (emptyHeader s) s)
    have hend := exec_readMsgEnd (s := t) (selected := false) (begun := false) rfl n
    rw [if_neg (by simp)] at hend
    refine ⟨t, _, exec_readMsg_empty htxn hempty, hend, (beginTxn_keeps _ _ _).changesOnly,
      ((endTxn_keeps _ _ _).mono (by simp)).changesOnly, rfl, fun r rest hphase hout => ?_,
      fun hphase hout => ⟨hout, rfl⟩, fun hphase => ⟨rfl, ?_⟩⟩
    · simp [hempty hphase] at hout
    · exact congrArg (first :: ·) (padTo_emptyHeader_of_notReady hphase n)

/-! ### READ_STATE and void operations (R158, R161) -/

theorem portByte1_of_notReady {s : State} (h : s.phase ≠ .ready) : portByte1 s = 0 := if_neg h

theorem linkCommand_of_void {op : Byte} (hw : op ≠ 0x10) (hr : op ≠ 0x20) (hs : op ≠ 0x30) (n : Nat) :
    linkCommand op n = .voidOperation op n := by
  have hnone : operation? op = none := (if_neg hw).trans ((if_neg hr).trans (if_neg hs))
  rw [linkCommand, hnone]

theorem padTo_nil (n : Nat) : padTo n ([] : List Byte) = List.replicate n 0 := by simp [padTo]

/-- Settles O29. -/
theorem portStateReadsChangeNothing : Obligations.PortStateReadsChangeNothing := by
  intro s n op
  refine ⟨fun htxn => ⟨?_, ?_, fun hw hr hs => ?_⟩, fun x hx hbegun => ?_, fun x bytes hx => ?_,
    fun h => ⟨portByte1_of_notReady h, portByte2_of_notReady h⟩, rfl, rfl, rfl,
    fun hw hr hs => linkCommand_of_void hw hr hs n⟩
  · have hexec : exec (.readState .firstByte) s = done (csFalls s) := by
      simp [exec, execReadState, htxn]
    exact ⟨_, hexec, (csFalls_keeps s).changesOnly, htxn, rfl⟩
  · have hexec : exec (.readState (.whole n)) s = done (idleTxn [portByte2 s] n s) := by
      simp [exec, execReadState, htxn]
    exact ⟨_, hexec, (idleTxn_keeps _ _ _).changesOnly, htxn, rfl⟩
  · have hexec : exec (.voidOperation op n) s = done (idleTxn [] n s) := by
      simp [exec, execVoidOperation, htxn, linkCommand_of_void hw hr hs]
    exact ⟨_, hexec, (idleTxn_keeps _ _ _).changesOnly, htxn, congrArg (_ :: ·) (padTo_nil n)⟩
  · obtain ⟨kind, begun, out⟩ := x
    obtain rfl : begun = false := hbegun
    have hexec : exec (.readState .secondByte) s = done (secondByteBegins kind out s) := by
      simp [exec, execReadState, hx]
    exact ⟨_, hexec, (secondByteBegins_keeps _ _ _).changesOnly, rfl, rfl⟩
  · obtain ⟨kind, begun, out⟩ := x
    cases kind with
    | write claimed => exact ⟨_, exec_writeMsgEnd hx bytes, by split <;> rfl, by split <;> rfl⟩
    | read selected => exact ⟨_, exec_readMsgEnd hx bytes.length, by split <;> rfl, by split <;> rfl⟩

end Sys2Proof.Machine
end


section
/-! PROOFS. SET (R166, R167): O24 and O25. -/

namespace Sys2Proof.Machine

theorem exec_setSetting (s : State) :
    exec .setSetting s = takeRequest .setSetting (withForm set? actSet) s := rfl

/-- The setting that a SET can raise beside its own (R167). -/
def raisedBy (k : Setting) : Setting :=
  if k = .reportTimeout then .coastLimit else if k = .silentAfter then .lostAfter else k

theorem raisePartner_keeps (s : State) (k : Setting) (v : Nat) :
    Keeps [.setting (raisedBy k)] s (raisePartner k v s) := by
  unfold raisePartner
  split
  · exact keeps_ite (fun _ => withSetting_keeps _ _ _) fun _ => .refl _ _
  · exact keeps_ite (fun _ => withSetting_keeps _ _ _) fun _ => .refl _ _
  · exact .refl _ _

/-- The SET of a setting other than POOL_LOW_MARK changes settings alone (R167). -/
theorem setTo_keeps_of_ne {k : Setting} (hk : k ≠ .poolLowMark) (v : Nat) (s : State) :
    Keeps [.setting k, .setting (raisedBy k)] s (setTo k v s) := by
  unfold setTo
  dsimp only
  rw [if_neg hk]
  exact ((withSetting_keeps _ _ _).mono (by simp)).trans ((raisePartner_keeps _ _ _).mono (by simp))

theorem setTo_keeps (k : Setting) (v : Nat) (s : State) :
    Keeps [.setting k, .setting (raisedBy k), .cond .poolLow] s (setTo k v s) := by
  unfold setTo
  dsimp only
  have hset := ((withSetting_keeps s k (effective s k v)).mono
      (qs := [.setting k, .setting (raisedBy k), .cond .poolLow]) (by simp)).trans
    ((raisePartner_keeps _ k (effective s k v)).mono (by simp))
  exact keeps_ite (fun _ => hset.trans ((judgePool_keeps _ _).mono (by simp))) fun _ => hset

theorem setTo_setting_self (k : Setting) (v : Nat) (s : State) :
    (setTo k v s).setting k = effective s k v := by
  rw [setting_setTo, if_pos rfl]

/-- The partner's part of a SET's response: its number and value, zeros where there is none (R184). -/
def partnerBytes (k : Setting) (t : State) : List Byte :=
  match partner k with
  | some p => be8 (settingNumber p) ++ be32 (t.setting p)
  | none => [0, 0, 0, 0, 0]

/-- Whether a SET has raised the partner (R167). -/
def partnerRaised (k : Setting) (s t : State) : Bool :=
  match partner k with
  | some p => t.setting p != s.setting p
  | none => false

theorem partner_ne {k p : Setting} (h : partner k = some p) : p ≠ k := by
  rintro rfl
  cases p <;> cases h

theorem actSet_eq (k : Setting) (v : Nat) (s : State) :
    actSet (k, v) s = .ok ⟨setTo k v s,
      be8 (settingNumber k) ++ be32 (s.setting k) ++ be32 ((setTo k v s).setting k)
        ++ partnerBytes k (setTo k v s),
      (setTo k v s).setting k != v || partnerRaised k s (setTo k v s)⟩ := by
  have hraised : partnerRaised k s (setTo k v s) = (match partner k with
      | some p => (raisePartner k (effective s k v) (s.withSetting k (effective s k v))).setting p
          != (s.withSetting k (effective s k v)).setting p
      | none => false) := by
    unfold partnerRaised
    split
    · next p hp =>
      rw [setTo_setting, State.setting_withSetting, if_neg (partner_ne hp)]
    · rfl
  rw [hraised, setTo_setting_self]
  rfl

theorem clampTo_eq {lo hi : Nat} (h : lo ≤ hi) (v : Nat) : clampTo lo hi v = max lo (min v hi) := by
  unfold clampTo
  split
  · omega
  · split <;> omega

/-- A number is brought into its range (R167). -/
theorem boundSetting_number {k : Setting} (h : k.isMask = false) (v : Nat) :
    boundSetting k v = max (settingRange k).1 (min v (settingRange k).2) := by
  rw [boundSetting, if_neg (by simp [h]), clampTo_eq (settingRange_le k)]

theorem effective_plain {k : Setting} (hc : k ≠ .coastLimit) (hl : k ≠ .lostAfter) (s : State)
    (v : Nat) : effective s k v = boundSetting k v := by
  unfold effective
  dsimp only
  split
  · exact absurd rfl hc
  · exact absurd rfl hl
  · rfl

theorem isMask_eq_false {k : Setting} (hf : k ≠ .faultMask) (hn : k ≠ .noticeMask) :
    k.isMask = false := by
  unfold Setting.isMask
  split
  · exact absurd rfl hf
  · exact absurd rfl hn
  · rfl

/-- A SET of POOL_LOW_MARK judges POOL_LOW by the new mark (R51). -/
theorem setTo_poolLow (v : Nat) (s : State) :
    ((setTo .poolLowMark v s).cond .poolLow).on
      = decide (s.table.free.length < (setTo .poolLowMark v s).setting .poolLowMark) := by
  have hcond : PoolCond (setTo .poolLowMark v s) := poolCond_judgePool _ _
  have hfree : (setTo .poolLowMark v s).table.free = s.table.free :=
    setTo_keeps .poolLowMark v s .freeBlocks (by simp)
  rw [Bool.eq_iff_iff, decide_eq_true_iff, ← hfree]
  exact hcond

/-- Settles O24. -/
theorem setBoundsTheValue : Obligations.SetBoundsTheValue := by
  intro m rest s k v h hx hfault hnotice
  have hmask : k.isMask = false := isMask_eq_false hfault hnotice
  have hact := actSet_eq k v (s.withInbox rest)
  obtain ⟨hexec, hframe, hresp⟩ := exec_accepted (exec_setSetting s) h hx hact
    (setTo_keeps k v (s.withInbox rest))
  refine ⟨_, hexec, ?_⟩
  generalize ht : settle (placeResponse m .ok _ _ (setTo k v (s.withInbox rest))) = t at *
  have hsetting (j : Setting) : t.setting j =
      if j = k then effective s k v
      else if k = .reportTimeout ∧ j = .coastLimit then
        max (s.setting .coastLimit) (effective s k v)
      else if k = .silentAfter ∧ j = .lostAfter then
        if s.setting .lostAfter ≤ effective s k v then effective s k v + 1000
        else s.setting .lostAfter
      else s.setting j := by
    rw [← ht]
    exact setting_setTo k j v (s.withInbox rest)
  have hself : t.setting k = effective s k v := by rw [hsetting, if_pos rfl]
  refine ⟨fun ⟨hc, hl⟩ => ?_, ?_, ?_, ?_, ?_, ?_, hframe, fun hpool => ?_, ?_⟩
  · rw [hself, effective_plain hc hl, boundSetting_number hmask]
  · rintro rfl
    rw [hself, effective, boundSetting_number hmask]
    rfl
  · rintro rfl
    rw [hself, effective, boundSetting_number hmask]
    rfl
  · rintro rfl
    rw [hself, hsetting, if_neg (by decide), if_pos ⟨rfl, rfl⟩]
  · rintro rfl
    rw [hself, hsetting, if_neg (by decide), if_neg (by decide), if_pos ⟨rfl, rfl⟩]
  · rw [← ht] at hresp ⊢
    exact hresp
  · rw [← ht]
    exact setTo_keeps_of_ne hpool v (s.withInbox rest) (.cond .poolLow) (by simp)
  · rintro rfl
    rw [← ht]
    exact setTo_poolLow v (s.withInbox rest)

theorem effective_mask {k : Setting} (h : k = .faultMask ∨ k = .noticeMask) (s : State) (v : Nat) :
    effective s k v = v % 65536 := by
  obtain rfl | rfl := h <;> rfl

/-- A mask keeps just the members that name conditions (R167, R181). -/
theorem inMask_mod (v : Nat) (c : Cond) : inMask (v % 65536) c = inMask v c := by
  have hlt : (condIdx c).val < 16 := (condIdx c).isLt
  have hpow : 65536 = 2 ^ 16 := rfl
  rw [inMask, hpow, Nat.testBit_mod_two_pow, decide_eq_true hlt, Bool.true_and, inMask]

/-- Settles O25. -/
theorem setOfAMaskDropsNamelessMembers : Obligations.SetOfAMaskDropsNamelessMembers := by
  intro m rest s k v h hx hk
  have hpool : k ≠ .poolLowMark := by rintro rfl; simp at hk
  have hraised : raisedBy k = k := by obtain rfl | rfl := hk <;> rfl
  have hpartner : partner k = none := by obtain rfl | rfl := hk <;> rfl
  have hact := actSet_eq k v (s.withInbox rest)
  obtain ⟨hexec, hframe, hresp⟩ := exec_accepted (exec_setSetting s) h hx hact
    ((setTo_keeps_of_ne hpool v (s.withInbox rest)).mono (qs := [.setting k]) (by simp [hraised]))
  refine ⟨_, hexec, ?_⟩
  have hself : (setTo k v (s.withInbox rest)).setting k = v % 65536 := by
    rw [setTo_setting_self, effective_mask hk]
  refine ⟨fun c => ?_, ?_, ?_, hframe⟩
  · refine Eq.trans (congrArg (inMask · c) hself) (inMask_mod v c)
  · exact lt_of_eq_of_lt hself (Nat.mod_lt _ (by decide))
  · have hflag : ((setTo k v (s.withInbox rest)).setting k != v
        || partnerRaised k (s.withInbox rest) (setTo k v (s.withInbox rest)))
          = decide (65536 ≤ v) := by
      rw [hself, partnerRaised, hpartner, Bool.or_false, Bool.eq_iff_iff, bne_iff_ne,
        decide_eq_true_iff]
      omega
    have hbytes : partnerBytes k (setTo k v (s.withInbox rest)) = [0, 0, 0, 0, 0] := by
      rw [partnerBytes, hpartner]
    simp only [hflag, hbytes] at hresp ⊢
    exact hresp

end Sys2Proof.Machine
end


section
/-! PROOFS. STATUS, STATUS_CLEAR and STATUS_FORCE (O60). -/

namespace Sys2Proof.Machine

theorem exec_status (s : State) :
    exec .status s = takeRequest .status (withForm noBody? actStatus) s := rfl

theorem exec_statusClear (s : State) :
    exec .statusClear s = takeRequest .statusClear (withForm statusClear? actStatusClear) s := rfl

theorem exec_statusForce (s : State) :
    exec .statusForce s = takeRequest .statusForce (withForm statusForce? actStatusForce) s := rfl

theorem noBody?_nil : noBody? [] = some () := rfl

/-! ### STATUS (R177) -/

/-- The code of a condition's record, by who it names (R184). -/
theorem be8_condRecCode (w : CondRec) :
    be8 (condRecCode w) = (match w with
      | .aud a => be8 a.val
      | .lane .A => [0x40]
      | .lane .B => [0x41]
      | .nobody => [0xFE]
      | .absent => [0xFF]) := by
  match w with
  | .aud _ | .lane .A | .lane .B | .nobody | .absent => rfl

theorem length_flatMap_be8 {α : Type} (xs : List α) (f : α → Nat) :
    (xs.flatMap fun x => be8 (f x)).length = xs.length := by
  simp [List.length_flatMap, be8]

theorem length_statusBytes (s : State) : (statusBytes s).length = 60 := by
  simp only [statusBytes, List.length_append, length_flatMap_be8]
  rfl

/-! ### STATUS_CLEAR (R178) -/

/-- Clearing the conditions of a list that a set names (R178). -/
theorem cond_foldl_clear (mask : Nat) (cs : List Cond) (s : State) (c : Cond) :
    (cs.foldl (fun s c => if inMask mask c then s.clearCond c else s) s).cond c
      = if c ∈ cs ∧ inMask mask c = true then ⟨false, (s.cond c).who⟩ else s.cond c := by
  induction cs generalizing s with
  | nil => simp
  | cons d ds ih =>
    rw [List.foldl_cons, ih]
    by_cases hd : inMask mask d = true
    · rw [if_pos hd]
      by_cases hc : c = d
      · subst hc
        simp [State.clearCond, State.cond_withCond_self, hd]
      · simp [State.clearCond, State.cond_withCond_of_ne _ _ hc, hc]
    · rw [if_neg hd]
      by_cases hc : c = d
      · subst hc
        simp [hd]
      · simp [hc]

theorem clearLatched_keeps (mask : Nat) (s : State) :
    Keeps (allConds.map Part.cond) s (clearLatched mask s) := by
  have hfold (cs : List Cond) (u : State) :
      Keeps (allConds.map Part.cond) u
        (cs.foldl (fun s c => if inMask mask c then s.clearCond c else s) u) := by
    induction cs generalizing u with
    | nil => exact .refl _ u
    | cons c cs ih =>
      refine Keeps.trans (keeps_ite (fun _ => ?_) fun _ => .refl _ u) (ih _)
      refine (clearCond_keeps u c).mono fun p hp => ?_
      obtain rfl := List.mem_singleton.1 hp
      exact List.mem_map_of_mem (List.mem_of_getElem? (allConds_getElem?_condIdx c))
  exact hfold latchedConds s

/-- The parts that a STATUS_CLEAR can change (R178). -/
def clearParts : List Part :=
  allConds.map Part.cond
    ++ allAuds.flatMap (fun a => AudCounter.inOrder.map (Part.audCounter a))
    ++ [LaneId.A, .B].flatMap fun l => LaneCounter.inOrder.map (Part.laneCounter l)

theorem audCounter_mem_clearParts (a : Aud) (c : AudCounter) : .audCounter a c ∈ clearParts :=
  List.mem_append_left _ (List.mem_append_right _ (List.mem_flatMap.2
    ⟨a, mem_allAuds a, List.mem_map_of_mem (List.mem_of_getElem? (inOrder_audCounterIdx c))⟩))

theorem laneCounter_mem_clearParts (l : LaneId) (c : LaneCounter) : .laneCounter l c ∈ clearParts :=
  List.mem_append_right _ (List.mem_flatMap.2
    ⟨l, by cases l <;> simp, List.mem_map_of_mem (List.mem_of_getElem? (inOrder_laneCounterIdx c))⟩)

theorem not_mem_clearParts {p : Part} (hcond : ∀ c, p ≠ .cond c) (haud : ∀ a c, p ≠ .audCounter a c)
    (hlane : ∀ l c, p ≠ .laneCounter l c) : p ∉ clearParts := by
  intro hp
  simp only [clearParts, List.mem_append, List.mem_map, List.mem_flatMap] at hp
  obtain (⟨c, -, rfl⟩ | ⟨a, -, c, -, rfl⟩) | ⟨l, -, c, -, rfl⟩ := hp
  · exact hcond c rfl
  · exact haud a c rfl
  · exact hlane l c rfl

theorem zeroCounters_keeps (s : State) : Keeps clearParts s s.zeroCounters := by
  intro p hp
  cases p with
  | audCounter a c => exact absurd (audCounter_mem_clearParts a c) hp
  | laneCounter l c => exact absurd (laneCounter_mem_clearParts l c) hp
  | txn | forced => exact ⟨rfl, rfl⟩
  | _ => rfl

theorem audCount_zeroCounters (s : State) (a : Aud) (c : AudCounter) :
    s.zeroCounters.audCount a c = 0 := by
  simp [State.audCount, State.zeroCounters]

theorem laneCount_zeroCounters (s : State) (l : LaneId) (c : LaneCounter) :
    s.zeroCounters.laneCount l c = 0 := by
  cases l <;> simp [State.laneCount, State.zeroCounters]

theorem statusCleared_keeps (mask : Nat) (zero : Bool) (s : State) :
    Keeps clearParts s (statusCleared mask zero s) := by
  have hclear := (clearLatched_keeps mask s).mono (qs := clearParts) fun p hp =>
    List.mem_append_left _ (List.mem_append_left _ hp)
  exact keeps_ite (fun _ => hclear.trans (zeroCounters_keeps _)) fun _ => hclear

theorem cond_statusCleared (mask : Nat) (zero : Bool) (s : State) (c : Cond) :
    (statusCleared mask zero s).cond c
      = if c ∈ latchedConds ∧ inMask mask c = true then ⟨false, (s.cond c).who⟩ else s.cond c := by
  have hfold := cond_foldl_clear mask latchedConds s c
  unfold statusCleared
  split
  · exact hfold
  · exact hfold

theorem audCount_statusCleared (mask : Nat) (zero : Bool) (s : State) (a : Aud) (c : AudCounter) :
    (statusCleared mask zero s).audCount a c = if zero then 0 else s.audCount a c := by
  unfold statusCleared
  split
  · exact audCount_zeroCounters _ a c
  · refine clearLatched_keeps mask s (.audCounter a c) fun h => ?_
    simp at h

theorem laneCount_statusCleared (mask : Nat) (zero : Bool) (s : State) (l : LaneId)
    (c : LaneCounter) :
    (statusCleared mask zero s).laneCount l c = if zero then 0 else s.laneCount l c := by
  unfold statusCleared
  split
  · exact laneCount_zeroCounters _ l c
  · refine clearLatched_keeps mask s (.laneCounter l c) fun h => ?_
    simp at h

theorem actStatusClear_eq (mask : Nat) (zero : Bool) (s : State) :
    actStatusClear (mask, zero) s = accept (statusCleared mask zero s)
      (be32 (condSet s latchedConds) ++ be32 (condSet (statusCleared mask zero s) latchedConds)
        ++ be8 (flagBit zero 0)) := rfl

/-! ### STATUS_FORCE (R179) -/

theorem forceFlags_keeps (f n : Force) (s : State) : Keeps [.forced] s (forceFlags f n s) := by
  intro p hp
  cases p with
  | forced => exact absurd (List.mem_singleton.2 rfl) hp
  | txn => exact ⟨rfl, rfl⟩
  | _ => rfl

theorem actStatusForce_eq (f n : Force) (s : State) :
    actStatusForce (f, n) s = accept (forceFlags f n s)
      (be8 (twoFlags (forceFlags f n s).status.forcedFault (forceFlags f n s).status.forcedNotice)
        ++ be8 (twoFlags (faultFlag (forceFlags f n s)) (noticeFlag (forceFlags f n s)))) := rfl

theorem forceTo_eq (f : Force) (old : Bool) :
    forceTo f old = if f = .keep then old else decide (f = .set) := by
  cases f <;> rfl

/-- Settles O60. -/
theorem statusRequestsReportClearAndForce : Obligations.StatusRequestsReportClearAndForce := by
  intro m rest s
  refine ⟨fun h hbody => ?_, fun mask zero h hx => ?_, fun f n h hx => ?_⟩
  · have hx : noBody? m.body = some () := by rw [hbody, noBody?_nil]
    obtain ⟨hexec, hframe, hresp⟩ := exec_accepted (exec_status s) h hx
      (r := ⟨(s.withInbox rest).clearCond .tlGlitch, statusBytes s, false⟩) rfl
      (clearCond_keeps (s.withInbox rest) .tlGlitch)
    intro two b
    have hb : b = statusBytes s := by
      have hrecords : (allConds.flatMap fun c => be8 (condRecCode (s.cond c).who)) = _ :=
        List.flatMap_congr fun c _ => be8_condRecCode (s.cond c).who
      rw [statusBytes, hrecords]
      rfl
    rw [hb]
    exact ⟨_, hexec, hresp, length_statusBytes s, State.cond_withCond_self _ _ _, hframe⟩
  · obtain ⟨hexec, ⟨hframe, hjudged⟩, hresp⟩ := exec_accepted (exec_statusClear s) h hx
      (actStatusClear_eq mask zero (s.withInbox rest))
      (statusCleared_keeps mask zero (s.withInbox rest))
      (by decide) (by decide)
    refine ⟨_, hexec, cond_statusCleared mask zero (s.withInbox rest),
      audCount_statusCleared mask zero (s.withInbox rest),
      laneCount_statusCleared mask zero (s.withInbox rest), hresp,
      fun p hcond haud hlane hin hout => hframe p fun hp => ?_, hjudged⟩
    obtain hp | hp := List.mem_append.1 hp
    · exact not_mem_clearParts hcond haud hlane hp
    · simp [hin, hout] at hp
  · obtain ⟨hexec, hframe, hresp⟩ := exec_accepted (exec_statusForce s) h hx
      (actStatusForce_eq f n (s.withInbox rest)) (forceFlags_keeps f n (s.withInbox rest))
    exact ⟨_, hexec, forceTo_eq f _, forceTo_eq n _, hresp, hframe⟩

end Sys2Proof.Machine
end


section
/-! PROOFS. SHOW_WINDOW (O42). -/

namespace Sys2Proof.Machine

theorem exec_showWindow (s : State) :
    exec .showWindow s = takeRequest .showWindow (withForm showWindow? actShowWindow) s := rfl

theorem actShowWindow_closed {q : ShowWindowReq} {s : State} (h : s.isOpen q.aud = false) :
    actShowWindow q s = .error .notOpen := if_neg (by simp [h])

theorem actShowWindow_noTrack {q : ShowWindowReq} {s : State} (h : s.isOpen q.aud = true)
    (hw : s.track? q.aud q.track = none) : actShowWindow q s = .error .noTrack := by
  simp [actShowWindow, h, hw]

theorem actShowWindow_some {q : ShowWindowReq} {s : State} {r : TrackRec}
    (hw : s.track? q.aud q.track = some r) :
    actShowWindow q s
      = accept (s.modTrack q.aud q.track fun r => { r with base := q.base, limit := q.limit })
          (be16 r.base ++ be16 r.limit ++ be16 q.base ++ be16 q.limit) := by
  have hopen : s.isOpen q.aud = true := isOpen_of_track? (Option.isSome_of_eq_some hw)
  simp [actShowWindow, hopen, hw]

/-- Settles O42. -/
theorem showWindowReplacesTheWindow : Obligations.ShowWindowReplacesTheWindow := by
  intro m rest s q h hx
  have hrefused {e : Result} (hact : actShowWindow q (s.withInbox rest) = .error e) :
      ∃ t, exec .showWindow s = .next t ∧ Responded m rest e false [] s t
        ∧ ChangesOnly [.inbox, .outbox] s t := exec_refused (exec_showWindow s) h hx hact
  refine ⟨fun hclosed => hrefused (actShowWindow_closed hclosed),
    fun hopen hw => hrefused (actShowWindow_noTrack hopen hw), fun r hw => ?_⟩
  let f (w : TrackRec) : TrackRec := { w with base := q.base, limit := q.limit }
  let u := s.withInbox rest
  obtain ⟨hexec, hframe, hresp⟩ := exec_accepted (exec_showWindow s) h hx
    (actShowWindow_some (s := u) hw) (modTrack_keeps u q.aud q.track f)
  have htrack (v : Track) := State.track?_modTrack u q.aud q.aud q.track v f
  refine ⟨_, hexec, ?_, fun v hv => ?_, u.laneOf?_modTrack q.aud q.aud q.track f,
    u.cueCount_modTrack q.aud q.aud q.track f, hresp, hframe⟩
  · refine (htrack q.track).trans ((if_pos ⟨rfl, rfl⟩).trans ?_)
    exact congrArg (Option.map f) hw
  · exact (htrack v).trans (if_neg fun h => hv h.2)

end Sys2Proof.Machine
end


section
/-! PROOFS. The queries (O23). -/

namespace Sys2Proof.Machine

/-! ### An answered query -/

/-- A request that is answered with the result and the body, and changes nothing else. -/
def Ends (c : Instr) (m : Msg) (rest : List Msg) (s : State) (res : Result) (b : List Byte) : Prop :=
  ∃ t, exec c s = .next t ∧ ChangesOnly [.inbox, .outbox] s t ∧ Responded m rest res false b s t

theorem ends_of_refused {c : Instr} {m : Msg} {rest : List Msg} {s : State} {e : Result}
    (h : Refused c m rest e s) : Ends c m rest s e [] := by
  obtain ⟨t, hexec, hresp, hframe⟩ := h
  exact ⟨t, hexec, hframe, hresp⟩

theorem ends_of_accept {α : Type} {c : Instr} {row : ReqRow} {parse : List Byte → Option α}
    {act : α → State → Answer} {m : Msg} {rest : List Msg} {s : State} {x : α} {b : List Byte}
    (hexec : exec c s = takeRequest row (withForm parse act) s) (h : Taken row m rest s)
    (hx : parse m.body = some x)
    (hact : act x (s.withInbox rest) = accept (s.withInbox rest) b) : Ends c m rest s .ok b := by
  obtain ⟨hnext, hframe, hresp⟩ := exec_accepted (ps := []) hexec h hx hact (.refl _ _)
  exact ⟨_, hnext, hframe, hresp⟩

theorem exec_cueQueryByCue (s : State) : exec .cueQueryByCue s
    = takeRequest .cueQueryByCue (withForm cueQueryByCue? actCueQueryByCue) s := rfl

theorem exec_cueQueryByTrack (s : State) : exec .cueQueryByTrack s
    = takeRequest .cueQueryByTrack (withForm cueQueryByTrack? actCueQueryByTrack) s := rfl

theorem exec_rxLookup (s : State) :
    exec .rxLookup s = takeRequest .rxLookup (withForm rxNamed? actRxLookup) s := rfl

theorem exec_rxList (s : State) :
    exec .rxList s = takeRequest .rxList (withForm rxList? actRxList) s := rfl

theorem exec_rxCounts (s : State) :
    exec .rxCounts s = takeRequest .rxCounts (withForm noBody? actRxCounts) s := rfl

theorem exec_counters (s : State) :
    exec .counters s = takeRequest .counters (withForm noBody? actCounters) s := rfl

/-! ### Lengths of fields (R181, R184) -/

@[simp] theorem length_be8 (n : Nat) : (be8 n).length = 1 := rfl
@[simp] theorem length_be16 (n : Nat) : (be16 n).length = 2 := rfl
@[simp] theorem length_be24 (n : Nat) : (be24 n).length = 3 := rfl
@[simp] theorem length_be32 (n : Nat) : (be32 n).length = 4 := rfl

@[simp] theorem length_optField_map {α : Type} (w : Nat) (x : Option α) (f : α → List Byte)
    (hf : ∀ a, (f a).length = w) : (optField w (x.map f)).length = 1 + w := by
  cases x <;> simp [optField, hf]

theorem length_flatMap_const {α β : Type} (xs : List α) (f : α → List β) (w : Nat)
    (hf : ∀ a, (f a).length = w) : (xs.flatMap f).length = w * xs.length := by
  induction xs with
  | nil => rfl
  | cons x xs ih => rw [List.flatMap_cons, List.length_append, ih, hf, List.length_cons]; ring

/-! ### CUE_QUERY (R63, R64) -/

/-- The cue found is the one named. -/
theorem named_of_findCue {s : State} {a : Aud} {u : Track} {n : Nat} {c : Cue}
    (h : s.findCue a u n = some c) : c.aud = a ∧ c.track = u ∧ c.num = n := by
  have hfound := List.find?_some h
  simpa [and_assoc] using hfound

theorem length_cueBytes (s : State) (c : Cue) :
    (cueBytes s c).length = 31 + 2 * c.blocks.length := by
  have hattrs : (optField 1 (c.attrs.map fun x => be8 (attrsCode x))).length = 2 :=
    length_optField_map 1 _ _ fun _ => rfl
  have hblocks : (c.blocks.flatMap be16).length = 2 * c.blocks.length :=
    length_flatMap_const _ _ 2 fun _ => rfl
  simp only [cueBytes, List.length_append, hattrs, hblocks, length_be8, length_be16, length_be32,
    List.length_singleton]

theorem optField_attrs (x : Option Attrs) :
    optField 1 (x.map fun x => be8 (attrsCode x)) = (match x with
      | some x => 1 :: be8 (attrsCode x)
      | none => [0, 0]) := by
  cases x <;> rfl

theorem optField_be16 (x : Option Nat) :
    optField 2 (x.map be16) = (match x with
      | some n => 1 :: be16 n
      | none => [0, 0, 0]) := by
  cases x <;> rfl

theorem length_trackBytes (s : State) (w : TrackRec) : (trackBytes s w).length = 15 := by
  have hahead : (optField 2 ((firstAhead s w.lineup).map be16)).length = 3 :=
    length_optField_map 2 _ _ fun _ => rfl
  have hdone : (optField 2 (w.lastDone.map be16)).length = 3 :=
    length_optField_map 2 _ _ fun _ => rfl
  simp only [trackBytes, List.length_append, hahead, hdone, length_be8, length_be16]

/-! ### RX_LOOKUP (R154) -/

theorem optional_aud (x : Option Aud) :
    be8 ((x.map Fin.val).getD 0) = (match x with
      | some a => be8 a.val
      | none => [0]) := by
  cases x <;> rfl

theorem optional_loss (x : Option LossReason) :
    be8 ((x.map lossCode).getD 0) = (match x with
      | some why => be8 (lossCode why)
      | none => [0]) := by
  cases x <;> rfl

theorem timeOr0_eq (x : Option SiteTime) :
    timeOr0 x = (match x with
      | some d => be32 d.toNat
      | none => [0, 0, 0, 0]) := by
  cases x <;> rfl

/-- What a record entry says of the last CHECKIN (R184). -/
def heardBytes : Option Heard → List Byte
  | some h => be32 h.time.toNat ++ be8 (laneCode h.lane) ++ be8 h.battery ++ be8 h.link ++ be8 h.lag
  | none => [0, 0, 0, 0, 0, 0, 0, 0]

theorem recordEntry_eq (r : RxRec) :
    recordEntry r = be16 r.index.val ++ be24 r.serial ++ be8 (rxKindCode r.kind)
      ++ be8 (rxStateCode r.state) ++ be8 r.aud.val ++ be8 r.track.val ++ be8 r.seat.length
      ++ padTo 6 r.seat
      ++ be8 (flagBit r.heard.isSome 0 + flagBit r.poor 1 + flagBit r.unmatched 2
          + flagBit r.movedFrom.isSome 3 + flagBit r.loss.isSome 4)
      ++ heardBytes r.heard ++ be8 ((r.movedFrom.map Fin.val).getD 0)
      ++ be8 ((r.loss.map lossCode).getD 0) := by
  cases hheard : r.heard <;> simp only [recordEntry, hheard] <;> rfl

theorem length_recordEntry (r : RxRec) : (recordEntry r).length = 27 := by
  have hseat : (padTo 6 r.seat).length = 6 := by
    simp only [padTo, List.length_append, List.length_take, List.length_replicate]
    omega
  have hheard : (heardBytes r.heard).length = 8 := by
    cases r.heard <;> rfl
  simp only [recordEntry_eq, List.length_append, hseat, hheard, length_be8, length_be16, length_be24]

theorem length_lookupBytes (s : State) (r : RxRec) : (lookupBytes s r).length = 53 := by
  simp only [lookupBytes, List.length_append, length_recordEntry, timeOr0, markOr0, length_be8,
    length_be16, length_be32]

theorem countingState_eq (x : RxState) : countingState x = (x != .lost) := by cases x <;> rfl

theorem inRotation_eq (s : State) (l : LaneId) (i : RxIdx) :
    s.inRotation l i = decide (i ∈ (s.lane l).rotation) := by
  simp [State.inRotation]

theorem actRxLookup_some {sel : RxSel} {s : State} {r : RxRec} (h : s.rxNamed sel = some r) :
    actRxLookup sel s = accept s (lookupBytes s r) := by
  simp only [actRxLookup, h]

theorem actRxLookup_free {i : RxIdx} {s : State} (h : s.rx? i = none) :
    actRxLookup (.index i) s = accept s (be16 i.val ++ List.replicate 51 0) := by
  have hnamed : s.rxNamed (.index i) = none := h
  simp only [actRxLookup, hnamed]
  rfl

theorem actRxLookup_noSuch {n : Nat} {s : State} (h : s.rxBySerial? n = none) :
    actRxLookup (.serial n) s = .error .noSuch := by
  have hnamed : s.rxNamed (.serial n) = none := h
  simp only [actRxLookup, hnamed]

/-! ### RX_LIST (R155) -/

/-- The indexes that an RX_LIST finds (R155). -/
def listFound (q : RxListReq) (s : State) : List RxIdx :=
  ((List.finRange 512).filter fun i => decide (q.start ≤ i.val) && listMatches q (s.rx? i)).take 32

/-- The index at which the next RX_LIST is to go on, or END (R155). -/
def listNext (found : List RxIdx) : Nat :=
  match found.getLast? with
  | some i => if found.length = 32 ∧ i.val < 511 then i.val + 1 else 0xFFFF
  | none => 0xFFFF

theorem actRxList_eq (q : RxListReq) (s : State) :
    actRxList q s = accept s (be8 (listFound q s).length ++ be16 (listNext (listFound q s))
      ++ (listFound q s).flatMap (entryAt s)) := by
  unfold actRxList listFound
  generalize List.take 32 _ = found
  rfl

/-- A record passes both filters of an RX_LIST (R155). -/
def ListPasses (q : RxListReq) (s : State) (i : RxIdx) : Prop :=
  q.start ≤ i.val
    ∧ ((∃ r, s.rx? i = some r ∧ (q.state = .any ∨ q.state = .inUse r.state)
          ∧ (q.aud = none ∨ q.aud = some r.aud))
        ∨ s.rx? i = none ∧ q.state = .free ∧ q.aud = none)

theorem listMatches_iff (q : RxListReq) (s : State) (i : RxIdx) :
    (decide (q.start ≤ i.val) && listMatches q (s.rx? i)) = true ↔ ListPasses q s i := by
  rw [Bool.and_eq_true, decide_eq_true_iff, ListPasses]
  refine and_congr_right fun _ => ?_
  cases hr : s.rx? i with
  | none => simp [listMatches]
  | some r =>
    obtain ⟨state, aud, start⟩ := q
    cases state <;> cases aud <;>
      simp [listMatches, eq_comm (a := r.state), eq_comm (a := r.aud)]

/-- What stands beyond the longest initial part of a rising list is above all of that part. -/
theorem lt_of_not_mem_take {xs : List RxIdx} (hs : xs.Pairwise (fun i j => i.val < j.val)) {n : Nat}
    {i : RxIdx} (hi : i ∈ xs) (hout : i ∉ xs.take n) :
    (xs.take n).length = n ∧ ∀ j ∈ xs.take n, j.val < i.val := by
  rw [← List.take_append_drop n xs] at hs hi
  have hdrop : i ∈ xs.drop n := (List.mem_append.1 hi).resolve_left hout
  refine ⟨?_, fun j hj => (List.pairwise_append.1 hs).2.2 j hj i hdrop⟩
  have hpos := List.length_pos_of_mem hdrop
  rw [List.length_drop] at hpos
  rw [List.length_take]
  omega

theorem entryAt_length (s : State) (i : RxIdx) : (entryAt s i).length = 27 := by
  unfold entryAt
  split
  · exact length_recordEntry _
  · simp [freeEntry]

/-! ### RX_COUNTS and COUNTERS (R156, R180) -/

theorem actRxCounts_eq (s : State) :
    actRxCounts () s = accept s (allAuds.flatMap (audCountsBytes s) ++ be16 s.freeRx) := rfl

theorem length_audCountsBytes (s : State) (a : Aud) : (audCountsBytes s a).length = 14 := rfl

/-- One auditorium's numbers, each the size of one filter of the roster (R156). -/
theorem audCountsBytes_eq (s : State) (a : Aud) :
    audCountsBytes s a =
      let count (p : RxRec → Bool) : List Byte :=
        be16 (s.roster.filter fun r => r.aud == a && p r).length
      count (fun r => r.state == .issued) ++ count (fun r => r.state == .joined)
        ++ count (fun r => r.state == .silent) ++ count (fun r => r.state == .lost)
        ++ count (fun r => r.state == .moving) ++ count (fun r => r.poor)
        ++ count (fun r => r.unmatched) := by
  have hfilter (p : RxRec → Bool) : (s.roster.filter fun r => r.aud == a).filter p
      = s.roster.filter fun r => r.aud == a && p r := by
    rw [List.filter_filter]
    exact List.filter_congr fun r _ => Bool.and_comm _ _
  simp only [audCountsBytes, hfilter]

theorem toList_eq_counters (v : Vector Nat 8) :
    v.toList = AudCounter.inOrder.map fun c => v.get (audCounterIdx c) := by
  refine List.ext_getElem (by simp [AudCounter.inOrder]) fun i hi _ => ?_
  have hlt : i < 8 := by simpa using hi
  interval_cases i <;> rfl

theorem toList_eq_laneCounters (v : Vector Nat 8) :
    v.toList = LaneCounter.inOrder.map fun c => v.get (laneCounterIdx c) :=
  toList_eq_counters v

/-- The 208 counters in order (R180). -/
theorem countersBytes_eq (s : State) :
    countersBytes s =
      allAuds.flatMap (fun a => AudCounter.inOrder.flatMap fun c => be16 (s.audCount a c))
        ++ [LaneId.A, .B].flatMap fun l =>
            LaneCounter.inOrder.flatMap fun c => be16 (s.laneCount l c) := by
  simp only [countersBytes, toList_eq_counters (s.audCounters.get _),
    toList_eq_laneCounters s.laneCounters.a, toList_eq_laneCounters s.laneCounters.b, List.flatMap_map,
    List.flatMap_cons, List.flatMap_nil, List.append_nil, List.append_assoc]
  rfl

theorem length_countersBytes (s : State) : (countersBytes s).length = 416 := by
  have hrow (v : Vector Nat 8) : (v.toList.flatMap be16).length = 16 := by
    rw [length_flatMap_const _ _ 2 fun _ => rfl, Vector.length_toList]
  have hauds : (allAuds.flatMap fun a => (s.audCounters.get a).toList.flatMap be16).length = 384 :=
    length_flatMap_const _ _ 16 fun a => hrow _
  rw [countersBytes, List.length_append, List.length_append, hrow, hrow, hauds]

end Sys2Proof.Machine
end


section
/-! PROOFS. The queries (O23): the bodies in the statement's own terms. -/

namespace Sys2Proof.Machine

/-- The record's counted flag as R137 gives it. -/
theorem counted_eq_lost (s : State) (r : RxRec) :
    s.counted r = (r.state != .lost && (s.track? r.aud r.track).isSome && !r.unmatched) := by
  rw [State.counted, countingState_eq]

/-- The body of an RX_LOOKUP, field by field (R154, R184). -/
theorem lookupBytes_eq (s : State) (r : RxRec) :
    lookupBytes s r = recordEntry r ++ be32 r.issuedAt.toNat
      ++ be8 (flagBit r.joinDl.isSome 0 + flagBit r.silenceDl.isSome 1 + flagBit r.lossDl.isSome 2
          + flagBit r.marks.a.isSome 3 + flagBit r.marks.b.isSome 4
          + flagBit (r.state != .lost && (s.track? r.aud r.track).isSome && !r.unmatched) 5
          + flagBit (decide (r.index ∈ (s.lane .A).rotation)) 6
          + flagBit (decide (r.index ∈ (s.lane .B).rotation)) 7)
      ++ timeOr0 r.joinDl ++ timeOr0 r.silenceDl ++ timeOr0 r.lossDl
      ++ be16 ((r.marks.a.map BitVec.toNat).getD 0) ++ be16 ((r.marks.b.map BitVec.toNat).getD 0)
      ++ (if (judgedDeadline r).2.isSome then be8 (judgedDeadline r).1 else [0])
      ++ timeOr0 (judgedDeadline r).2 := by
  have hkind : be8 (if (judgedDeadline r).2.isSome then (judgedDeadline r).1 else 0)
      = if (judgedDeadline r).2.isSome then be8 (judgedDeadline r).1 else [0] :=
    apply_ite be8 _ _ _
  rw [← counted_eq_lost, ← inRotation_eq, ← inRotation_eq, ← hkind]
  rfl

/-- Settles O23. -/
theorem queriesOnlyAnswer : Obligations.QueriesOnlyAnswer := by
  intro m rest s ends answers opt2 time bit entry
  have hentry (r : RxRec) : entry r = recordEntry r := by
    rw [recordEntry_eq, optional_aud, optional_loss]
    rfl
  refine ⟨fun q h hx => ⟨fun hclosed => ?_, fun hopen hw => ?_, fun hw hc => ?_, fun c hw hc => ?_⟩,
    fun a u h hx => ⟨fun hclosed => ?_, fun hopen hw => ?_, fun w hw => ?_⟩,
    fun sel h hx => ⟨fun r hr => ?_, fun i hi hr => ?_, fun n hn hr => ?_⟩,
    fun q h hx => ?_, fun h hbody => ?_, fun h hbody => ?_⟩
  · exact ends_of_refused (exec_refused (exec_cueQueryByCue s) h hx (withTrack_closed _ _ hclosed))
  · exact ends_of_refused (exec_refused (exec_cueQueryByCue s) h hx (withTrack_noTrack _ hopen hw))
  · exact ends_of_refused (exec_refused (exec_cueQueryByCue s) h hx (withCue_noSuch _ hw hc))
  · obtain ⟨haud, htrack, hnum⟩ := named_of_findCue hc
    have hbytes : cueBytes (s.withInbox rest) c = cueBytes s c := rfl
    have hans := ends_of_accept (exec_cueQueryByCue s) h hx
      (withCue_some (s := s.withInbox rest) _ hw hc)
    have hlen := length_cueBytes s c
    rw [hbytes, cueBytes, State.lineupIndex, optField_attrs, haud, htrack, hnum] at hans
    rw [cueBytes, State.lineupIndex, optField_attrs, haud, htrack, hnum] at hlen
    exact ⟨hans, hlen⟩
  · exact ends_of_refused (exec_refused (exec_cueQueryByTrack s) h hx (withTrack_closed _ _ hclosed))
  · exact ends_of_refused (exec_refused (exec_cueQueryByTrack s) h hx (withTrack_noTrack _ hopen hw))
  · have hbytes : trackBytes (s.withInbox rest) w = trackBytes s w := rfl
    have hans := ends_of_accept (exec_cueQueryByTrack s) h hx
      (withTrack_some (s := s.withInbox rest) _ hw)
    have hlen := length_trackBytes s w
    rw [hbytes, trackBytes, firstAhead, ← List.head?_filter, optField_be16, optField_be16] at hans
    rw [trackBytes, firstAhead, ← List.head?_filter, optField_be16, optField_be16] at hlen
    exact ⟨hans, hlen⟩
  · intro judged counted
    have hbytes : lookupBytes (s.withInbox rest) r = lookupBytes s r := rfl
    have hans := ends_of_accept (exec_rxLookup s) h hx (actRxLookup_some (s := s.withInbox rest) hr)
    have hlen := length_lookupBytes s r
    rw [hbytes, lookupBytes_eq, ← hentry, timeOr0_eq, timeOr0_eq, timeOr0_eq, timeOr0_eq] at hans
    rw [lookupBytes_eq, ← hentry, timeOr0_eq, timeOr0_eq, timeOr0_eq, timeOr0_eq] at hlen
    exact ⟨hans, hlen⟩
  · subst hi
    exact ⟨ends_of_accept (exec_rxLookup s) h hx (actRxLookup_free (s := s.withInbox rest) hr),
      by simp⟩
  · subst hn
    exact ends_of_refused (exec_refused (exec_rxLookup s) h hx (actRxLookup_noSuch hr))
  · intro passes
    have hans := ends_of_accept (exec_rxList s) h hx (actRxList_eq q (s.withInbox rest))
    have hfound : listFound q (s.withInbox rest) = listFound q s := rfl
    have hentries : entryAt (s.withInbox rest) = fun i => match s.rx? i with
        | some r => entry r
        | none => be16 i.val ++ List.replicate 25 0 := by
      funext i
      have hrx : (s.withInbox rest).rx? i = s.rx? i := rfl
      rw [entryAt, hrx]
      cases s.rx? i with
      | none => rfl
      | some r => exact (hentry r).symm
    have hlen : (be8 (listFound q s).length ++ be16 (listNext (listFound q s))
        ++ (listFound q s).flatMap (entryAt (s.withInbox rest))).length
          = 3 + 27 * (listFound q s).length := by
      rw [List.length_append, List.length_append,
        length_flatMap_const _ _ 27 (entryAt_length (s.withInbox rest)), length_be8, length_be16]
    rw [hfound, hentries] at hans
    rw [hentries] at hlen
    have hpasses (i : RxIdx) : i ∈ (List.finRange 512).filter (fun i =>
        decide (q.start ≤ i.val) && listMatches q (s.rx? i)) ↔ passes i := by
      rw [List.mem_filter, listMatches_iff]
      exact and_iff_right (List.mem_finRange i)
    have hsorted : ((List.finRange 512).filter fun i =>
        decide (q.start ≤ i.val) && listMatches q (s.rx? i)).Pairwise fun i j => i.val < j.val :=
      (List.pairwise_lt_finRange 512).filter _
    refine ⟨listFound q s, listNext (listFound q s), ⟨hans, hlen⟩, ?_, ?_, fun i hi => ?_,
      fun i hi hout => ?_, fun i hlast hfull hlt => ?_, fun hend => ?_⟩
    · rw [listFound, List.length_take]
      exact Nat.min_le_left _ _
    · exact hsorted.sublist (List.take_sublist _ _)
    · exact (hpasses i).1 (List.mem_of_mem_take hi)
    · exact lt_of_not_mem_take hsorted ((hpasses i).2 hi) hout
    · simp only [listNext, hlast]
      exact if_pos ⟨hfull, hlt⟩
    · unfold listNext
      split
      · next i hlast =>
        refine if_neg fun ⟨hfull, hlt⟩ => ?_
        obtain hshort | hmax := hend
        · omega
        · rw [hlast] at hmax
          obtain rfl := Option.some.inj hmax
          exact absurd hlt (by decide)
      · rfl
  · have hx : noBody? m.body = some () := by rw [hbody, noBody?_nil]
    have hans := ends_of_accept (exec_rxCounts s) h hx (actRxCounts_eq (s.withInbox rest))
    have hlen : (allAuds.flatMap (audCountsBytes s) ++ be16 s.freeRx).length = 338 := by
      rw [List.length_append, length_flatMap_const _ _ 14 (length_audCountsBytes s), length_be16]
      rfl
    have hbytes : allAuds.flatMap (audCountsBytes (s.withInbox rest))
        = allAuds.flatMap (audCountsBytes s) := rfl
    have hrows : audCountsBytes s = _ := funext (audCountsBytes_eq s)
    rw [hbytes, hrows] at hans
    rw [hrows] at hlen
    exact ⟨hans, hlen⟩
  · have hx : noBody? m.body = some () := by rw [hbody, noBody?_nil]
    have hans := ends_of_accept (b := countersBytes s) (exec_counters s) h hx rfl
    have hlen := length_countersBytes s
    rw [countersBytes_eq] at hans hlen
    exact ⟨hans, hlen⟩

end Sys2Proof.Machine
end


section
/-! SUPPORT. A lane's buffers, and how a build begins, is cut and goes on the air (R95 to R97). -/

namespace Sys2Proof.Machine

/-! ### The two buffers -/

theorem Lane.buf_withBuf_of_ne (x : Lane) {i j : BufId} (h : i ≠ j) (b : Buffer) :
    (x.withBuf i b).buf j = x.buf j := by
  cases i <;> cases j <;> first | rfl | exact absurd rfl h

theorem Lane.bufWhere_of_pair {x : Lane} {p : Buffer → Bool} {i j : BufId} (hij : i ≠ j)
    (hi : p (x.buf i) = true) (hj : p (x.buf j) = false) : x.bufWhere p = some i := by
  cases i with
  | b0 => exact if_pos hi
  | b1 =>
    cases j with
    | b0 => exact (if_neg (Bool.eq_false_iff.1 hj)).trans (if_pos hi)
    | b1 => exact absurd rfl hij

theorem Lane.bufWhere_none_of_pair {x : Lane} {p : Buffer → Bool} {i j : BufId} (hij : i ≠ j)
    (hi : p (x.buf i) = false) (hj : p (x.buf j) = false) : x.bufWhere p = none := by
  have hnone (h0 : p x.buf0 = false) (h1 : p x.buf1 = false) : x.bufWhere p = none :=
    (if_neg (Bool.eq_false_iff.1 h0)).trans (if_neg (Bool.eq_false_iff.1 h1))
  cases i <;> cases j
  · exact absurd rfl hij
  · exact hnone hi hj
  · exact hnone hj hi
  · exact absurd rfl hij

/-! ### The beginning of a build (R95, R96) -/

/-- A lane whose buffer `i` begins the build of the lane's next frame (R95, R101). -/
def begunLane (s : State) (l : LaneId) (i : BufId) (x : Lane) : Lane :=
  { x.withBuf i (.building ⟨l, x.frameNo + 1, nextBoundary l s.clock.time, false, []⟩) with
    build := some ⟨i, nextBoundary l s.clock.time, x.frameNo + 1, [], [],
      .stamps (allAuds.filter fun a => s.openOn a l)⟩ }

theorem beginBuild_of_due {s : State} {l : LaneId} {i : BufId} (hrun : (s.lane l).state = .running)
    (hnone : (s.lane l).bufWhere (fun b => b.isBuilding || b.isReady) = none)
    (hi : (s.lane l).bufWhere Buffer.isEmpty = some i) :
    s.beginBuild l = s.withLane l (begunLane s l i (s.lane l)) := by
  simp only [State.beginBuild, hrun, hnone, hi, and_self, if_true]
  rfl

theorem beginBuild_of_unaired {s : State} {l : LaneId} {i : BufId}
    (h : ((s.lane l).buf i).isUnaired = true) : s.beginBuild l = s := by
  refine if_neg fun ⟨_, hnone⟩ => ?_
  obtain ⟨h0, h1⟩ := Lane.not_of_bufWhere_none hnone
  cases i with
  | b0 => exact absurd (h.symm.trans h0) (by simp)
  | b1 => exact absurd (h.symm.trans h1) (by simp)

theorem beginBuild_keeps (s : State) (l : LaneId) : Keeps [.lane l] s (s.beginBuild l) := by
  unfold State.beginBuild
  dsimp only
  split
  · split
    · exact withLane_keeps _ _ _
    · exact .refl _ _
  · exact .refl _ _

/-- With one buffer ON_AIR or EMPTY and the other EMPTY, a RUNNING lane begins a build in the EMPTY one that
comes first (R96). -/
theorem beginBuild_lane {s : State} {l : LaneId} {i j : BufId} (hij : i ≠ j)
    (hrun : (s.lane l).state = .running) (hi : ((s.lane l).buf i).isOnAir = true)
    (hj : (s.lane l).buf j = .empty) : (s.beginBuild l).lane l = begunLane s l j (s.lane l) := by
  obtain ⟨g, hg⟩ : ∃ g, (s.lane l).buf i = .onAir g := by
    cases hb : (s.lane l).buf i with
    | onAir g => exact ⟨g, rfl⟩
    | empty | building | ready => simp [hb, Buffer.isOnAir] at hi
  have hnone : (s.lane l).bufWhere (fun b => b.isBuilding || b.isReady) = none :=
    Lane.bufWhere_none_of_pair hij (by rw [hg]; rfl) (by rw [hj]; rfl)
  have hempty : (s.lane l).bufWhere Buffer.isEmpty = some j :=
    Lane.bufWhere_of_pair hij.symm (by rw [hj]; rfl) (by rw [hg]; rfl)
  rw [beginBuild_of_due hrun hnone hempty, State.lane_withLane_self]

/-! ### The next boundary (R18) -/

/-- Where a lane's boundaries stand in the 20 milliseconds of a frame (R18). -/
def boundaryPhase : LaneId → Nat
  | .A => 0
  | .B => 10

theorem isBoundary_eq (l : LaneId) (t : SiteTime) :
    isBoundary l t = decide (t.toNat % 20 = boundaryPhase l) := by
  cases l <;> rfl

/-- How far the next boundary is: the rest of the frame, cut short where site time wraps (R18). -/
theorem nextBoundary_toNat (l : LaneId) (t : SiteTime) :
    ∃ n, 0 < n ∧ n ≤ 20 ∧ (nextBoundary l t).toNat = (t.toNat + n) % 4294967296
      ∧ (nextBoundary l t).toNat % 20 = boundaryPhase l
      ∧ ∀ k, 0 < k → k < n → (t.toNat + k) % 4294967296 % 20 ≠ boundaryPhase l := by
  have hlt : t.toNat < 4294967296 := t.isLt
  generalize hx : t.toNat = x at hlt
  have hnext (b w : Nat) (hb : b < 4294967296 ∨ 4294967296 ≤ b) (hw : w < 4294967296) :
      (if b < 4294967296 then BitVec.ofNat 32 b else BitVec.ofNat 32 w).toNat
        = if b < 4294967296 then b else w := by
    split
    · rw [BitVec.toNat_ofNat]; omega
    · rw [BitVec.toNat_ofNat]; omega
  cases l with
  | A =>
    have hval : (nextBoundary .A t).toNat
        = if (x / 20 + 1) * 20 < 4294967296 then (x / 20 + 1) * 20 else 0 := by
      rw [← hx]
      exact hnext _ 0 (lt_or_ge _ _) (by decide)
    refine ⟨(nextBoundary .A t).toNat + (if (x / 20 + 1) * 20 < 4294967296 then 0 else 4294967296) - x,
      ?_⟩
    rw [hval, boundaryPhase]
    split
    · refine ⟨by omega, by omega, by omega, by omega, fun k hk hkn => ?_⟩
      have hlow : x + k < 4294967296 := by omega
      rw [Nat.mod_eq_of_lt hlow]
      omega
    · refine ⟨by omega, by omega, by omega, by omega, fun k hk hkn => ?_⟩
      have hlow : x + k < 4294967296 := by omega
      rw [Nat.mod_eq_of_lt hlow]
      omega
  | B =>
    have hval : (nextBoundary .B t).toNat
        = if x % 20 < 10 then x / 20 * 20 + 10
          else if x / 20 * 20 + 30 < 4294967296 then x / 20 * 20 + 30 else 10 := by
      have hraw := hnext (if x % 20 < 10 then x / 20 * 20 + 10 else x / 20 * 20 + 30) 10
        (lt_or_ge _ _) (by decide)
      rw [← hx] at hraw ⊢
      refine Eq.trans hraw ?_
      split
      · split <;> omega
      · rfl
    refine ⟨if x % 20 < 10 then x / 20 * 20 + 10 - x
      else if x / 20 * 20 + 30 < 4294967296 then x / 20 * 20 + 30 - x else 4294967306 - x, ?_⟩
    rw [hval, boundaryPhase]
    split
    · refine ⟨by omega, by omega, by omega, by omega, fun k hk hkn => ?_⟩
      have hlow : x + k < 4294967296 := by omega
      rw [Nat.mod_eq_of_lt hlow]
      omega
    split
    · refine ⟨by omega, by omega, by omega, by omega, fun k hk hkn => ?_⟩
      have hlow : x + k < 4294967296 := by omega
      rw [Nat.mod_eq_of_lt hlow]
      omega
    · refine ⟨by omega, by omega, by omega, by omega, fun k hk hkn => ?_⟩
      by_cases hwrap : x + k < 4294967296
      · rw [Nat.mod_eq_of_lt hwrap]
        omega
      · have hover : (x + k) % 4294967296 = x + k - 4294967296 := by omega
        omega

/-- The next boundary is the first of the coming milliseconds that is one, at most 20 away (R18). -/
theorem nextBoundary_spec (l : LaneId) (t : SiteTime) :
    ∃ n, 0 < n ∧ n ≤ 20 ∧ nextBoundary l t = after t n ∧ isBoundary l (nextBoundary l t) = true
      ∧ ∀ k, 0 < k → k < n → isBoundary l (after t k) = false := by
  have hafter (k : Nat) (hk : k ≤ 20) : (after t k).toNat = (t.toNat + k) % 4294967296 := by
    rw [after, BitVec.toNat_add, BitVec.toNat_ofNat]
    omega
  obtain ⟨n, hpos, hle, hval, hat, hbefore⟩ := nextBoundary_toNat l t
  refine ⟨n, hpos, hle, BitVec.eq_of_toNat_eq (by rw [hafter n hle, hval]), ?_, fun k hk hkn => ?_⟩
  · rw [isBoundary_eq, decide_eq_true hat]
  · rw [isBoundary_eq, hafter k (by omega), decide_eq_false (hbefore k hk hkn)]

end Sys2Proof.Machine
end


section
/-! PROOFS. LANE_START, LANE_STOP, SENT and RF_READY (O52, O57). -/

namespace Sys2Proof.Machine

theorem exec_laneStart (s : State) :
    exec .laneStart s = takeRequest .laneStart (withForm laneOnly? actLaneStart) s := rfl

theorem exec_laneStop (s : State) :
    exec .laneStop s = takeRequest .laneStop (withForm laneOnly? actLaneStop) s := rfl

/-! ### LANE_START (R92) -/

/-- The lane that a LANE_START leaves before its build begins. -/
def startedLane (x : Lane) : Lane :=
  { x with state := .running, frameNo := 0, missed := 0, buf0 := .empty, buf1 := .empty, build := none }

theorem startLane_eq (l : LaneId) (s : State) :
    startLane l s
      = let u := clearMarks l (s.withLane l (startedLane (s.lane l)))
        u.withLane l (begunLane s l .b0 (startedLane (s.lane l))) := by
  let u := clearMarks l (s.withLane l (startedLane (s.lane l)))
  have hlane : u.lane l = startedLane (s.lane l) := State.lane_withLane_self _ _ _
  have hbegun := beginBuild_of_due (s := u) (l := l) (i := .b0) (by rw [hlane]; rfl)
    (by rw [hlane]; rfl) (by rw [hlane]; rfl)
  rw [hlane] at hbegun
  exact hbegun

theorem clearMarks_keeps (s : State) (l : LaneId) : Keeps [.roster] s (clearMarks l s) :=
  roster_keeps _ _

theorem startLane_keeps (s : State) (l : LaneId) : Keeps [.lane l, .roster] s (startLane l s) := by
  rw [startLane_eq]
  exact (((withLane_keeps s l _).mono (by simp)).trans ((clearMarks_keeps _ l).mono (by simp))).trans
    ((withLane_keeps _ l _).mono (by simp))

theorem startLane_lane (s : State) (l : LaneId) :
    (startLane l s).lane l = begunLane s l .b0 (startedLane (s.lane l)) := by
  rw [startLane_eq]
  exact State.lane_withLane_self _ _ _

theorem startLane_roster (s : State) (l : LaneId) :
    (startLane l s).roster = s.roster.map fun r => { r with marks := r.marks.put l none } := by
  rw [startLane_eq]
  rfl

theorem actLaneStart_busy {l : LaneId} {s : State} (h : (s.lane l).state ≠ .stopped) :
    actLaneStart l s = .error .busy := if_pos h

theorem actLaneStart_notReady {l : LaneId} {s : State} (h : (s.lane l).state = .stopped)
    (hready : (s.lane l).rfReady = false) : actLaneStart l s = .error .laneNotReady :=
  (if_neg (not_not.2 h)).trans (if_pos hready)

theorem actLaneStart_starts {l : LaneId} {s : State} (h : (s.lane l).state = .stopped)
    (hready : (s.lane l).rfReady = true) :
    actLaneStart l s = accept (startLane l s)
      (be8 (laneCode l) ++ be8 1 ++ be32 (nextBoundary l s.clock.time).toNat
        ++ be8 (s.lane l).notices.length) := by
  have hstarts : actLaneStart l s = accept (startLane l s)
      (be8 (laneCode l) ++ be8 (laneStateCode ((startLane l s).lane l).state)
        ++ be32 (nextBoundary l (startLane l s).clock.time).toNat
        ++ be8 ((startLane l s).lane l).notices.length) :=
    (if_neg (not_not.2 h)).trans (if_neg (by simp [hready]))
  have hclock : (startLane l s).clock = s.clock := startLane_keeps s l .clock (by simp)
  rw [hstarts, hclock, startLane_lane]
  rfl

/-! ### LANE_STOP (R93) -/

theorem dropUnaired_eq (b : Buffer) : b.dropUnaired = if b.isUnaired then .empty else b := by
  cases b <;> rfl

theorem stopLane_keeps (s : State) (l : LaneId) :
    Keeps [.lane l, .cond .laneFault] s (stopLane l s) :=
  ((withLane_keeps s l _).mono (by simp)).trans ((judgeLaneFault_keeps _ l).mono (by simp))

theorem judgeLaneFault_lane (s : State) (l k : LaneId) : (s.judgeLaneFault l).lane k = s.lane k :=
  judgeLaneFault_keeps s l (.lane k) (by simp)

theorem stopLane_lane (s : State) (l : LaneId) :
    (stopLane l s).lane l = { s.lane l with
      state := .stopped, missed := 0, build := none, notices := [], repairs := []
      buf0 := if (s.lane l).buf0.isUnaired then .empty else (s.lane l).buf0
      buf1 := if (s.lane l).buf1.isUnaired then .empty else (s.lane l).buf1 } := by
  rw [stopLane, judgeLaneFault_lane, State.lane_withLane_self, ← dropUnaired_eq, ← dropUnaired_eq]
  rfl

theorem Lane.bufWhere_isSome (x : Lane) (p : Buffer → Bool) :
    (x.bufWhere p).isSome = true ↔ p x.buf0 = true ∨ p x.buf1 = true := by
  unfold Lane.bufWhere
  split
  · next h => simp [h]
  split
  · next h => simp [h]
  · next h0 h1 => simp [h0, h1]

/-- LANE_FAULT after a LANE_STOP follows the other lane (R91). -/
theorem stopLane_laneFault (s : State) (l : LaneId) :
    ((stopLane l s).cond .laneFault).on = true ↔ (s.lane l.other).state = .fault := by
  have hcond : LaneCond (stopLane l s) := laneCond_judgeLaneFault _ l
  have hother : (stopLane l s).lane l.other = s.lane l.other :=
    stopLane_keeps s l (.lane l.other) (by cases l <;> simp [LaneId.other])
  have hself := stopLane_lane s l
  refine hcond.trans ⟨fun ⟨k, hk⟩ => ?_, fun h => ⟨l.other, hother ▸ h⟩⟩
  by_cases hkl : k = l
  · rw [hkl, hself] at hk
    cases hk
  · have hko : k = l.other := by
      cases k <;> cases l <;> first | rfl | exact absurd rfl hkl
    rwa [hko, hother] at hk

/-- Settles O52. -/
theorem laneStartBeginsAndLaneStopEmpties : Obligations.LaneStartBeginsAndLaneStopEmpties := by
  intro m rest s l
  refine ⟨fun h hx => ⟨fun hstopped hready => ?_, fun hbusy => ?_, fun hstopped hready => ?_⟩,
    fun h hx => ?_⟩
  · obtain ⟨hexec, hframe, hresp⟩ := exec_accepted (exec_laneStart s) h hx
      (actLaneStart_starts (s := s.withInbox rest) hstopped hready) (startLane_keeps _ l)
    obtain ⟨n, hpos, hle, hair, hat, hbefore⟩ := nextBoundary_spec l s.clock.time
    exact ⟨_, nextBoundary l s.clock.time, hexec, startLane_lane (s.withInbox rest) l,
      ⟨n, hpos, hle, hair, hat, hbefore⟩, startLane_roster (s.withInbox rest) l, hresp, hframe⟩
  · exact exec_refused (exec_laneStart s) h hx (actLaneStart_busy (s := s.withInbox rest) hbusy)
  · exact exec_refused (exec_laneStart s) h hx
      (actLaneStart_notReady (s := s.withInbox rest) hstopped hready)
  · obtain ⟨hexec, hframe, hresp⟩ := exec_accepted
      (r := ⟨stopLane l (s.withInbox rest), be8 (laneStateCode (s.lane l).state)
        ++ be8 (flagBit ((s.lane l).bufWhere Buffer.isOnAir).isSome 0)
        ++ be8 (s.lane l).notices.length ++ be8 (s.lane l).repairs.length, false⟩)
      (exec_laneStop s) h hx rfl (stopLane_keeps (s.withInbox rest) l)
    refine ⟨_, hexec, stopLane_lane (s.withInbox rest) l, stopLane_laneFault (s.withInbox rest) l,
      ?_, hframe⟩
    have hair : flagBit ((s.lane l).bufWhere Buffer.isOnAir).isSome 0
        = if (s.lane l).buf0.isOnAir ∨ (s.lane l).buf1.isOnAir then 1 else 0 :=
      if_congr (Lane.bufWhere_isSome _ _) rfl rfl
    rw [← hair]
    exact hresp

/-! ### SENT (R98) -/

theorem exec_sent {l : LaneId} {s : State} {i : BufId} (hphase : s.phase ≠ .inReset)
    (hi : (s.lane l).bufWhere Buffer.isOnAir = some i) :
    exec (.sent l) s =
      done (((s.withLane l { (s.lane l).withBuf i .empty with missed := 0 }).countLane l
        .sent).beginBuild l) := by
  simp only [exec, execSent, if_neg hphase, hi]

theorem exec_sent_none {l : LaneId} {s : State} (hphase : s.phase ≠ .inReset)
    (hnone : (s.lane l).bufWhere Buffer.isOnAir = none) : exec (.sent l) s = .next s := by
  simp only [exec, execSent, if_neg hphase, hnone]
  rfl

theorem laneCount_countLane_self (s : State) (l : LaneId) (c : LaneCounter) :
    (s.countLane l c).laneCount l c = bump (s.laneCount l c) :=
  (State.laneCount_countLane s l l c c).trans (if_pos ⟨rfl, rfl⟩)

/-! ### RF_READY (R94) -/

theorem exec_rfReadyRelease {l : LaneId} {s : State} (hphase : s.phase ≠ .inReset)
    (h : (s.lane l).rfReady = true) :
    exec (.rfReadyRelease l) s =
      done (if (s.lane l).state = .running then
          (s.withLane l { s.lane l with rfReady := false }).faultLane l
        else s.withLane l { s.lane l with rfReady := false }) := by
  have hstate : ((s.withLane l { s.lane l with rfReady := false }).lane l).state = (s.lane l).state := by
    rw [State.lane_withLane_self]
  have hphase' : (s.withLane l { s.lane l with rfReady := false }).phase ≠ .inReset := hphase
  simp only [exec, execRfReadyRelease, h, Bool.true_eq_false, if_false, hstate, hphase', ne_eq,
    not_false_iff, true_and]

theorem exec_rfReadyAssert {l : LaneId} {s : State} (h : (s.lane l).rfReady = false) :
    exec (.rfReadyAssert l) s = done (s.withLane l { s.lane l with rfReady := true }) := by
  simp only [exec, execRfReadyAssert, h, Bool.false_eq_true, if_false]

theorem faultLane_keeps (s : State) (l : LaneId) :
    Keeps [.lane l, .cond .laneFault] s (s.faultLane l) :=
  ((withLane_keeps s l _).mono (by simp)).trans ((judgeLaneFault_keeps _ l).mono (by simp))

theorem faultLane_lane (s : State) (l : LaneId) :
    (s.faultLane l).lane l = { (s.lane l).abandon with state := .fault } := by
  rw [State.faultLane, judgeLaneFault_lane, State.lane_withLane_self]

/-- LANE_FAULT is set when a lane enters FAULT, its record kept while it was set already (R91, R174). -/
theorem faultLane_laneFault (s : State) (l : LaneId) :
    (s.faultLane l).cond .laneFault
      = ⟨true, if (s.cond .laneFault).on then (s.cond .laneFault).who else .lane l⟩ := by
  let u := s.withLane l { (s.lane l).abandon with state := .fault }
  have hself : (u.lane l).state = .fault := by rw [State.lane_withLane_self]
  have hholds : ((u.lane .A).state == .fault || (u.lane .B).state == .fault) = true := by
    cases l <;> simp [hself]
  show (State.judge u .laneFault _ _).cond .laneFault = _
  rw [hholds, State.judge, if_pos rfl]
  by_cases hon : (s.cond .laneFault).on = true
  · rw [if_pos (show (u.cond .laneFault).on = true from hon), if_pos hon, ← hon]
    rfl
  · rw [if_neg (show ¬(u.cond .laneFault).on = true from hon), if_neg hon]
    exact State.cond_withCond_self _ _ _

/-- Settles O57. -/
theorem transceiverLinesMoveTheLane : Obligations.TransceiverLinesMoveTheLane := by
  intro l s hphase x
  refine ⟨fun i j f hij hi hj => ?_, fun h0 h1 => ?_, fun hready => ?_, fun hready => ?_⟩
  · have hair : x.bufWhere Buffer.isOnAir = some i :=
      Lane.bufWhere_of_pair hij (by rw [hi]; rfl) hj
    let u := (s.withLane l { x.withBuf i .empty with missed := 0 }).countLane l .sent
    have hlane : u.lane l = { x.withBuf i .empty with missed := 0 } := State.lane_withLane_self _ _ _
    have hframe : Keeps [.lane l, .laneCounter l .sent] s (u.beginBuild l) :=
      (((withLane_keeps s l _).mono (by simp)).trans ((countLane_keeps _ l .sent).mono (by simp))).trans
        ((beginBuild_keeps u l).mono (by simp))
    have hcount : (u.beginBuild l).laneCount l .sent = bump (s.laneCount l .sent) := by
      have hkept : (u.beginBuild l).laneCount l .sent = u.laneCount l .sent :=
        beginBuild_keeps u l (.laneCounter l .sent) (by simp)
      exact hkept.trans (laneCount_countLane_self _ l .sent)
    refine ⟨_, exec_sent hphase hair, fun hrun hempty => ?_, fun hstay => ?_, hcount,
      hframe.changesOnly⟩
    · have hbufs : (u.lane l).buf0 = .empty ∧ (u.lane l).buf1 = .empty := by
        rw [hlane]
        cases i <;> cases j <;> first | exact absurd rfl hij | exact ⟨rfl, hempty⟩ | exact ⟨hempty, rfl⟩
      obtain ⟨h0, h1⟩ := hbufs
      have hrun' : (u.lane l).state = .running := by
        rw [hlane]
        cases i <;> exact hrun
      have hnone : (u.lane l).bufWhere (fun b => b.isBuilding || b.isReady) = none := by
        simp [Lane.bufWhere, h0, h1, Buffer.isBuilding, Buffer.isReady]
      have hb0 : (u.lane l).bufWhere Buffer.isEmpty = some .b0 := by
        simp [Lane.bufWhere, h0, Buffer.isEmpty]
      have hbegun : (u.beginBuild l).lane l = begunLane u l .b0 (u.lane l) := by
        rw [beginBuild_of_due hrun' hnone hb0, State.lane_withLane_self]
      refine Eq.trans hbegun ?_
      rw [hlane]
      cases i with
      | b0 =>
        cases j with
        | b0 => exact absurd rfl hij
        | b1 =>
          have hother : x.buf1 = .empty := hempty
          simp only [begunLane, Lane.withBuf, hother]
          rfl
      | b1 => rfl
    · have hsame : u.beginBuild l = u := by
        obtain hstop | hwait := hstay
        · refine beginBuild_of_notRunning ?_
          rw [hlane]
          cases i <;> exact hstop
        · refine beginBuild_of_unaired (i := j) ?_
          rw [hlane]
          cases i <;> cases j <;> first | exact absurd rfl hij | exact hwait
      exact (congrArg (State.lane · l) hsame).trans hlane
  · exact exec_sent_none hphase (Lane.bufWhere_none_of_pair (i := .b0) (j := .b1) nofun h0 h1)
  · refine ⟨_, exec_rfReadyRelease hphase hready, fun hrun => ?_, fun hstop => ?_⟩
    · rw [if_pos hrun]
      let u := s.withLane l { x with rfReady := false }
      have hlane : u.lane l = { x with rfReady := false } := State.lane_withLane_self _ _ _
      refine ⟨(faultLane_lane u l).trans ?_, faultLane_laneFault u l,
        (((withLane_keeps s l _).mono (by simp)).trans (faultLane_keeps u l)).changesOnly⟩
      rw [hlane, ← dropUnaired_eq, ← dropUnaired_eq]
      rfl
    · rw [if_neg hstop]
      exact ⟨State.lane_withLane_self _ _ _, (withLane_keeps s l _).changesOnly⟩
  · exact ⟨_, exec_rfReadyAssert hready, State.lane_withLane_self _ _ _,
      (withLane_keeps s l _).changesOnly⟩

end Sys2Proof.Machine
end


section
/-! PROOFS. The boundary of a RUNNING lane short of the third miss (O53). -/

namespace Sys2Proof.Machine

theorem exec_laneBoundary {l : LaneId} {s : State} (hphase : s.phase ≠ .inReset)
    (hat : isBoundary l s.clock.time = true) (hdue : s.clock.due.get l = true) :
    exec (.laneBoundary l) s =
      done (if (s.lane l).state = .running then runningBoundary l (boundaryTaken l s)
        else stoppedPass l s.clock.time (boundaryTaken l s)) := by
  have hdef : exec (.laneBoundary l) s = execLaneBoundary l s := rfl
  have hlane : (boundaryTaken l s).lane l = s.lane l := rfl
  rw [hdef, execLaneBoundary, if_pos ⟨hphase, hat, hdue⟩]
  dsimp only
  rw [hlane]
  cases (s.lane l).state <;> rfl

theorem boundaryTaken_keeps (s : State) (l : LaneId) : Keeps [.clock] s (boundaryTaken l s) := by
  intro p hp
  cases p with
  | clock => exact absurd (List.mem_singleton.2 rfl) hp
  | txn | forced => exact ⟨rfl, rfl⟩
  | _ => rfl

theorem countBoundary_keeps (s : State) (l : LaneId) : Keeps [.lane l] s (countBoundary l s) :=
  withLane_keeps _ _ _

theorem countBoundary_lane (s : State) (l : LaneId) :
    (countBoundary l s).lane l = { s.lane l with
      frameNo := (s.lane l).frameNo + 1
      missed := if (s.lane l).airing then (s.lane l).missed + 1 else (s.lane l).missed } :=
  State.lane_withLane_self _ _ _

/-! ### The buffer that goes on the air, or waits (R97) -/

theorem airBuffer_of_ready {l : LaneId} {i : BufId} {s : State} {f : Frame}
    (h : (s.lane l).buf i = .ready f) :
    airBuffer l i s = s.withLane l ((s.lane l).putOnAir i f) := by
  simp only [airBuffer, h]

theorem cutBuild_of_building {l : LaneId} {i : BufId} {s : State} {f : Frame}
    (h : (s.lane l).buf i = .building f) :
    cutBuild l i s =
      ((s.withLane l { (s.lane l).withBuf i (.ready { f with cut := true }) with
        build := none }).latch .buildCut (.lane l)).countLane l .cut := by
  simp only [cutBuild, h]

theorem cutBuild_lane_of_building {l : LaneId} {i : BufId} {s : State} {f : Frame}
    (h : (s.lane l).buf i = .building f) :
    (cutBuild l i s).lane l
      = { (s.lane l).withBuf i (.ready { f with cut := true }) with build := none } := by
  rw [cutBuild_of_building h]
  exact State.lane_withLane_self _ _ _

theorem cutBuild_keeps (s : State) (l : LaneId) (i : BufId) :
    Keeps [.lane l, .cond .buildCut, .laneCounter l .cut] s (cutBuild l i s) := by
  unfold cutBuild
  dsimp only
  exact (((withLane_keeps s l _).mono (by simp)).trans ((latch_keeps _ _ _).mono (by simp))).trans
    ((countLane_keeps _ l .cut).mono (by simp))

theorem cutBuild_told (s : State) (l : LaneId) (i : BufId) :
    (cutBuild l i s).cond .buildCut = ⟨true, .lane l⟩
      ∧ (cutBuild l i s).laneCount l .cut = bump (s.laneCount l .cut) := by
  unfold cutBuild
  dsimp only
  exact ⟨State.cond_withCond_self _ _ _, laneCount_countLane_self _ l .cut⟩

theorem airAtBoundary_ready {l : LaneId} {i : BufId} {s : State}
    (hb : (s.lane l).bufWhere Buffer.isBuilding = none)
    (hr : (s.lane l).bufWhere Buffer.isReady = some i)
    (ha : (s.lane l).bufWhere Buffer.isOnAir = none) : airAtBoundary l s = airBuffer l i s := by
  simp only [airAtBoundary, hb, hr, ha]

theorem airAtBoundary_cut {l : LaneId} {i : BufId} {s : State}
    (hb : (s.lane l).bufWhere Buffer.isBuilding = some i)
    (ha : (s.lane l).bufWhere Buffer.isOnAir = none) :
    airAtBoundary l s = airBuffer l i (cutBuild l i s) := by
  simp only [airAtBoundary, hb, ha]

theorem airAtBoundary_cutSkip {l : LaneId} {i k : BufId} {s : State}
    (hb : (s.lane l).bufWhere Buffer.isBuilding = some i)
    (ha : (s.lane l).bufWhere Buffer.isOnAir = some k) :
    airAtBoundary l s = (cutBuild l i s).countLane l .skipped := by
  simp only [airAtBoundary, hb, ha]

theorem airAtBoundary_skip {l : LaneId} {k : BufId} {s : State}
    (hb : (s.lane l).bufWhere Buffer.isBuilding = none)
    (ha : (s.lane l).bufWhere Buffer.isOnAir = some k) :
    airAtBoundary l s = s.countLane l .skipped := by
  simp only [airAtBoundary, hb, ha]
  cases (s.lane l).bufWhere Buffer.isReady <;> rfl

/-- A boundary short of the third miss: the count, the frame that goes on the air, the next build (R97). -/
theorem exec_runningBoundary {l : LaneId} {s : State} (hphase : s.phase ≠ .inReset)
    (hat : isBoundary l s.clock.time = true) (hdue : s.clock.due.get l = true)
    (hrun : (s.lane l).state = .running)
    (hshort : ¬((s.lane l).airing = true ∧ 3 ≤ (s.lane l).missed + 1)) :
    exec (.laneBoundary l) s =
      done ((airAtBoundary l (countBoundary l (boundaryTaken l s))).beginBuild l) := by
  rw [exec_laneBoundary hphase hat hdue, if_pos hrun, runningBoundary_eq]
  exact congrArg done (if_neg hshort)

/-- The boundary of a lane with no buffer ON_AIR: a frame goes on the air, and the next build begins. -/
theorem airs_of_ready {l : LaneId} {i j : BufId} {w : State} {f : Frame} (hij : i ≠ j)
    (hrun : (w.lane l).state = .running) (hi : (w.lane l).buf i = .ready f)
    (hj : (w.lane l).buf j = .empty) :
    ((airBuffer l i w).beginBuild l).lane l = begunLane w l j ((w.lane l).putOnAir i f)
      ∧ Keeps [.lane l] w ((airBuffer l i w).beginBuild l) := by
  have hair := airBuffer_of_ready hi
  have hlane : (airBuffer l i w).lane l = (w.lane l).putOnAir i f := by
    rw [hair, State.lane_withLane_self]
  have honair : (((w.lane l).putOnAir i f).buf i).isOnAir = true := by
    have hbuf : ((w.lane l).putOnAir i f).buf i = .onAir f := by cases i <;> rfl
    rw [hbuf]
    rfl
  have hempty : ((w.lane l).putOnAir i f).buf j = .empty := by
    rw [← hj, ← Lane.buf_withBuf_of_ne (w.lane l) hij (.onAir f)]
    cases i <;> cases j <;> rfl
  have hstate : ((w.lane l).putOnAir i f).state = .running := by
    cases i <;> exact hrun
  constructor
  · rw [beginBuild_lane hij (by rw [hlane]; exact hstate) (by rw [hlane]; exact honair)
      (by rw [hlane]; exact hempty), hlane, hair]
    rfl
  · rw [hair]
    exact (withLane_keeps _ _ _).trans (beginBuild_keeps _ _)

/-- What a boundary leaves of a lane before its buffers are seen to (R97, steps 1 and 2). -/
def countedLane (x : Lane) (missed : Nat) : Lane := { x with frameNo := x.frameNo + 1, missed := missed }

/-- A lane that counts its boundary and begins the next build in buffer `j`. -/
theorem begunLane_counted (s : State) (l : LaneId) (j : BufId) (x : Lane) (n : Nat) :
    begunLane s l j (countedLane x n) =
      { x.withBuf j (.building ⟨l, x.frameNo + 2, nextBoundary l s.clock.time, false, []⟩) with
        frameNo := x.frameNo + 1, missed := n
        build := some ⟨j, nextBoundary l s.clock.time, x.frameNo + 2, [], [],
          .stamps (allAuds.filter fun a => s.openOn a l)⟩ } := by
  have hnumber : x.frameNo + 1 + 1 = x.frameNo + 2 := by rw [BitVec.add_assoc]; rfl
  cases j <;> simp only [begunLane, countedLane, Lane.withBuf, hnumber]

/-- A boundary's frame number, missed count and buffers commute with what goes on the air. -/
theorem putOnAir_counted (x : Lane) (n : Nat) (i : BufId) (f : Frame) :
    (countedLane x n).putOnAir i f = countedLane (x.putOnAir i f) n := by
  cases i <;> rfl

/-- Settles O53. -/
theorem boundaryAirsAFrameOrSkips : Obligations.BoundaryAirsAFrameOrSkips := by
  intro l s i j f g hphase hat hdue hrun hij x taken air started blank
  let v := countBoundary l (boundaryTaken l s)
  have hv : v.lane l = countedLane x (if x.airing then x.missed + 1 else x.missed) :=
    countBoundary_lane (boundaryTaken l s) l
  have hbuf (k : BufId) : (v.lane l).buf k = x.buf k := by rw [hv]; cases k <;> rfl
  have hwhere (p : Buffer → Bool) : (v.lane l).bufWhere p = x.bufWhere p := by rw [hv]; rfl
  have hrun' : (v.lane l).state = .running := by rw [hv]; exact hrun
  have hcount : Keeps [.clock, .lane l] s v :=
    ((boundaryTaken_keeps s l).mono (by simp)).trans ((countBoundary_keeps _ l).mono (by simp))
  have hairs (hair : x.airing = false) :
      exec (.laneBoundary l) s = done ((airAtBoundary l v).beginBuild l) :=
    exec_runningBoundary hphase hat hdue hrun fun ⟨h, _⟩ => Bool.noConfusion (hair.symm.trans h)
  have hskips (hmiss : x.missed + 1 < 3) :
      exec (.laneBoundary l) s = done ((airAtBoundary l v).beginBuild l) :=
    exec_runningBoundary hphase hat hdue hrun fun ⟨_, h⟩ => absurd hmiss (not_lt.2 h)
  have hpair {p : Buffer → Bool} (hi : p (x.buf i) = true) (hj : p (x.buf j) = false) :
      (v.lane l).bufWhere p = some i := (hwhere p).trans (Lane.bufWhere_of_pair hij hi hj)
  have hpair' {p : Buffer → Bool} (hi : p (x.buf i) = false) (hj : p (x.buf j) = true) :
      (v.lane l).bufWhere p = some j := (hwhere p).trans (Lane.bufWhere_of_pair hij.symm hj hi)
  have hnone {p : Buffer → Bool} (hi : p (x.buf i) = false) (hj : p (x.buf j) = false) :
      (v.lane l).bufWhere p = none := (hwhere p).trans (Lane.bufWhere_none_of_pair hij hi hj)
  refine ⟨fun hi hj => ?_, fun hi hj => ?_, fun hi hmiss hj => ?_, fun hi hmiss hj => ?_,
    fun hi hmiss hj => ?_⟩
  · have hquiet : x.airing = false := by
      rw [Lane.airing, Lane.bufWhere_none_of_pair hij (by rw [hi]; rfl) (by rw [hj]; rfl)]
      rfl
    have hexec := hairs hquiet
    rw [airAtBoundary_ready (i := i) (hnone (by rw [hi]; rfl) (by rw [hj]; rfl))
      (hpair (by rw [hi]; rfl) (by rw [hj]; rfl)) (hnone (by rw [hi]; rfl) (by rw [hj]; rfl))] at hexec
    obtain ⟨hlane, hkeep⟩ := airs_of_ready hij hrun' ((hbuf i).trans hi) ((hbuf j).trans hj)
    refine ⟨_, hexec, hkeep .clock (by simp), Eq.trans hlane ?_,
      (hcount.trans (hkeep.mono (by simp))).changesOnly⟩
    rw [hv, hquiet, putOnAir_counted, begunLane_counted]
    cases i <;> cases j <;> rfl
  · have hquiet : x.airing = false := by
      rw [Lane.airing, Lane.bufWhere_none_of_pair hij (by rw [hi]; rfl) (by rw [hj]; rfl)]
      rfl
    have hexec := hairs hquiet
    rw [airAtBoundary_cut (i := i) (hpair (by rw [hi]; rfl) (by rw [hj]; rfl))
      (hnone (by rw [hi]; rfl) (by rw [hj]; rfl))] at hexec
    let c := cutBuild l i v
    have hc : c.lane l
        = { (v.lane l).withBuf i (.ready { f with cut := true }) with build := none } :=
      cutBuild_lane_of_building ((hbuf i).trans hi)
    have hci : (c.lane l).buf i = .ready { f with cut := true } := by rw [hc]; cases i <;> rfl
    have hcj : (c.lane l).buf j = .empty := by
      rw [hc, ← hj, ← hbuf j]
      cases i <;> cases j <;> first | exact absurd rfl hij | rfl
    have hcrun : (c.lane l).state = .running := by rw [hc]; cases i <;> exact hrun'
    obtain ⟨hlane, hkeep⟩ := airs_of_ready hij hcrun hci hcj
    obtain ⟨hcut, hcuts⟩ := cutBuild_told v l i
    have hframe : Keeps [.clock, .lane l, .cond .buildCut, .laneCounter l .cut] s
        ((airBuffer l i c).beginBuild l) :=
      ((hcount.mono (by simp)).trans ((cutBuild_keeps v l i).mono (by simp))).trans
        (hkeep.mono (by simp))
    have htaken : c.clock = v.clock := cutBuild_keeps v l i .clock (by simp)
    refine ⟨_, hexec, Eq.trans (hkeep .clock (by simp)) htaken, Eq.trans hlane ?_,
      Eq.trans (hkeep (.cond .buildCut) (by simp)) hcut,
      Eq.trans (hkeep (.laneCounter l .cut) (by simp)) hcuts, hframe.changesOnly⟩
    have hbegun : begunLane c l j ((c.lane l).putOnAir i { f with cut := true })
        = begunLane v l j (countedLane (x.putOnAir i { f with cut := true }) x.missed) := by
      rw [hc, hv, hquiet]
      cases i <;> cases j <;> rfl
    rw [hbegun, begunLane_counted]
    cases i <;> cases j <;> rfl
  · have hair : x.airing = true := by
      rw [Lane.airing, Lane.bufWhere_of_pair hij (by rw [hi]; rfl) (by rw [hj]; rfl)]
      rfl
    have hexec := hskips hmiss
    rw [airAtBoundary_skip (k := i) (hnone (by rw [hi]; rfl) (by rw [hj]; rfl))
      (hpair (by rw [hi]; rfl) (by rw [hj]; rfl)), beginBuild_of_unaired (i := j)
        (by rw [show (((v.countLane l .skipped).lane l).buf j) = _ from hbuf j, hj]; rfl)] at hexec
    refine ⟨_, hexec, rfl, Eq.trans hv (by rw [hair]; rfl), laneCount_countLane_self v l .skipped,
      ((hcount.mono (by simp)).trans ((countLane_keeps v l .skipped).mono (by simp))).changesOnly⟩
  · have hair : x.airing = true := by
      rw [Lane.airing, Lane.bufWhere_of_pair hij (by rw [hi]; rfl) (by rw [hj]; rfl)]
      rfl
    have hexec := hskips hmiss
    let c := cutBuild l j v
    have hc : c.lane l
        = { (v.lane l).withBuf j (.ready { f with cut := true }) with build := none } :=
      cutBuild_lane_of_building ((hbuf j).trans hj)
    have hready : ((c.countLane l .skipped).lane l).buf j = .ready { f with cut := true } := by
      refine (congrArg (Lane.buf · j) hc).trans ?_
      cases j <;> rfl
    rw [airAtBoundary_cutSkip (i := j) (k := i) (hpair' (by rw [hi]; rfl) (by rw [hj]; rfl))
      (hpair (by rw [hi]; rfl) (by rw [hj]; rfl)), beginBuild_of_unaired (i := j)
        (by rw [hready]; rfl)] at hexec
    obtain ⟨hcut, hcuts⟩ := cutBuild_told v l j
    have hskip : (c.countLane l .skipped).laneCount l .skipped = bump (s.laneCount l .skipped) :=
      (laneCount_countLane_self c l .skipped).trans
        (congrArg bump (cutBuild_keeps v l j (.laneCounter l .skipped) (by simp)))
    have hcuts' : (c.countLane l .skipped).laneCount l .cut = bump (s.laneCount l .cut) :=
      Eq.trans (countLane_keeps c l .skipped (.laneCounter l .cut) (by simp)) hcuts
    refine ⟨_, hexec, cutBuild_keeps v l j .clock (by simp), Eq.trans hc ?_, hcut, hcuts', hskip,
      (((hcount.mono (by simp)).trans ((cutBuild_keeps v l j).mono (by simp))).trans
        ((countLane_keeps c l .skipped).mono (by simp))).changesOnly⟩
    rw [hv, hair]
    cases j <;> rfl
  · have hair : x.airing = true := by
      rw [Lane.airing, Lane.bufWhere_of_pair hij (by rw [hi]; rfl) (by rw [hj]; rfl)]
      rfl
    have hexec := hskips hmiss
    rw [airAtBoundary_skip (k := i) (hnone (by rw [hi]; rfl) (by rw [hj]; rfl))
      (hpair (by rw [hi]; rfl) (by rw [hj]; rfl))] at hexec
    let w := v.countLane l .skipped
    have hlane : (w.beginBuild l).lane l = begunLane w l j (w.lane l) :=
      beginBuild_lane hij hrun' (by rw [show (w.lane l).buf i = _ from hbuf i, hi]; rfl)
        ((hbuf j).trans hj)
    have hbegun : begunLane w l j (w.lane l) = begunLane v l j (countedLane x (x.missed + 1)) := by
      rw [show w.lane l = _ from hv, hair]
      rfl
    have hskip : (w.beginBuild l).laneCount l .skipped = bump (s.laneCount l .skipped) :=
      Eq.trans (beginBuild_keeps w l (.laneCounter l .skipped) (by simp))
        (laneCount_countLane_self v l .skipped)
    exact ⟨_, hexec, beginBuild_keeps w l .clock (by simp),
      (hlane.trans hbegun).trans (begunLane_counted v l j x (x.missed + 1)), hskip,
      (((hcount.mono (by simp)).trans ((countLane_keeps v l .skipped).mono (by simp))).trans
        ((beginBuild_keeps w l).mono (by simp))).changesOnly⟩

end Sys2Proof.Machine
end


section
/-! SUPPORT. A freed cue, a retired cue and a pass through the cues of an auditorium: what each changes, and what
is left of its lane's build and Repair Queue. -/

namespace Sys2Proof.Machine

/-! ### A build loses cues -/

theorem stageKeeps_stageKeeps (walks walks' : Aud × Track → Bool) (reaches reaches' : Nat → Bool)
    (offers offers' : Offer → Bool) (st : Stage) :
    stageKeeps walks' reaches' offers' (stageKeeps walks reaches offers st)
      = stageKeeps (fun w => walks w && walks' w) (fun k => reaches k && reaches' k)
          (fun o => offers o && offers' o) st := by
  cases st <;> simp [stageKeeps, List.filter_filter, Bool.and_comm]

theorem stageKeeps_all (st : Stage) :
    stageKeeps (fun _ => true) (fun _ => true) (fun _ => true) st = st := by
  cases st <;> simp [stageKeeps]

theorem Build.forgetSlot_eq (k : Nat) (b : Build) :
    b.forgetSlot k =
      { b with stage := stageKeeps (fun _ => true) (fun j => j != k) (fun o => o.slot != k) b.stage } := by
  obtain ⟨buf, air, number, readings, jumped, st⟩ := b
  cases st <;> simp [Build.forgetSlot, stageKeeps]

/-- A lane whose build neither walks nor offers the slots that have gone (R69). -/
def Lane.lessSlots (gone : Nat → Bool) (x : Lane) : Lane :=
  x.modBuild fun b => { b with
    stage := stageKeeps (fun _ => true) (fun k => !gone k) (fun o => !gone o.slot) b.stage }

theorem Lane.lessSlots_none (x : Lane) : x.lessSlots (fun _ => false) = x := by
  simp [Lane.lessSlots, Lane.modBuild, stageKeeps_all]

theorem Lane.lessSlots_lessSlots (g h : Nat → Bool) (x : Lane) :
    (x.lessSlots g).lessSlots h = x.lessSlots fun k => g k || h k := by
  simp [Lane.lessSlots, Lane.modBuild, Function.comp_def, stageKeeps_stageKeeps, Bool.not_or]

theorem Lane.modBuild_forgetSlot (x : Lane) (k : Nat) :
    x.modBuild (Build.forgetSlot k) = x.lessSlots fun j => j == k := by
  unfold Lane.lessSlots
  congr 1
  funext b
  exact Build.forgetSlot_eq k b

/-! ### A cue is freed or retired -/

theorem outOfTable_keeps (s : State) (c : Cue) :
    Keeps [.show_ c.aud, .cues, .freeBlocks] s (outOfTable c s) := by
  have hcues (u : State) : Keeps [.show_ c.aud, .cues, .freeBlocks] u
      { u with
        table := { u.table with
          cues := u.table.cues.filter fun x => x.slot != c.slot
          free := u.table.free ++ c.blocks } } := by
    intro p hp
    by_cases hpay : p = .payload
    · rw [hpay]
      rfl
    · exact table_keeps u _ p (by
        simp only [List.mem_cons, not_or, List.not_mem_nil, or_false] at hp ⊢
        exact ⟨hp.2.1, hp.2.2, hpay⟩)
  unfold outOfTable
  dsimp only
  exact ((modTrack_keeps s c.aud c.track _).mono (by simp)).trans
    ((hcues _).trans ((modCueCount_keeps _ c.aud _).mono (by simp)))

theorem forgetInLane_of_open {s : State} {c : Cue} {l : LaneId} (h : s.laneOf? c.aud = some l) :
    forgetInLane c s = s.withLane l ((s.lane l).lessSlots fun k => k == c.slot) := by
  unfold forgetInLane
  rw [h]
  dsimp only
  rw [Lane.modBuild_forgetSlot]

theorem outOfTable_laneOf? (s : State) (c : Cue) (a : Aud) :
    (outOfTable c s).laneOf? a = s.laneOf? a := by
  unfold outOfTable State.dropFromLineup
  dsimp only
  rw [State.laneOf?, State.theShow?_modCueCount]
  have hshow : (s.modTrack c.aud c.track fun r =>
      { r with lineup := r.lineup.filter fun x => x != c.slot }).laneOf? a = s.laneOf? a :=
    State.laneOf?_modTrack ..
  split
  · next h =>
    subst h
    exact (Option.map_map ..).trans hshow
  · exact hshow

theorem lane_freeCue {s : State} {c : Cue} {l : LaneId} (h : s.laneOf? c.aud = some l) :
    (s.freeCue c).lane l = (s.lane l).lessSlots fun k => k == c.slot := by
  rw [State.freeCue_eq, forgetInLane_of_open ((outOfTable_laneOf? s c c.aud).trans h)]
  refine Eq.trans (judgePool_keeps _ _ (.lane l) (by simp)) ?_
  rw [State.lane_withLane_self]
  exact congrArg _ (outOfTable_keeps s c (.lane l) (by simp))

theorem freeCue_changes {s : State} {c : Cue} {l : LaneId} (h : s.laneOf? c.aud = some l) :
    Keeps [.show_ c.aud, .cues, .freeBlocks, .lane l, .cond .poolLow] s (s.freeCue c) := by
  rw [State.freeCue_eq, forgetInLane_of_open ((outOfTable_laneOf? s c c.aud).trans h)]
  exact ((outOfTable_keeps s c).mono (by simp)).trans
    (((withLane_keeps _ _ _).mono (by simp)).trans ((judgePool_keeps _ _).mono (by simp)))

theorem freeCue_laneOf? (s : State) (c : Cue) (a : Aud) : (s.freeCue c).laneOf? a = s.laneOf? a := by
  rw [State.laneOf?, State.theShow?, State.freeCue_directory]
  exact outOfTable_laneOf? s c a

theorem turnRepairsGone_of_open {s : State} {a : Aud} {l : LaneId} (h : s.laneOf? a = some l)
    (t : Track) (n : Nat) :
    s.turnRepairsGone a t n = s.withLane l { s.lane l with
      repairs := (s.lane l).repairs.map fun e => if e.names a t n then e.turnGone else e } := by
  unfold State.turnRepairsGone
  rw [h]

theorem retire_laneOf? (s : State) (c : Cue) (a : Aud) : (s.retire c).laneOf? a = s.laneOf? a := by
  have hdir : (s.retire c).directory = (s.freeCue c).directory := by simp [State.retire]
  rw [State.laneOf?, State.theShow?, hdir]
  exact freeCue_laneOf? s c a

theorem retire_changes {s : State} {c : Cue} {l : LaneId} (h : s.laneOf? c.aud = some l) :
    Keeps [.show_ c.aud, .cues, .freeBlocks, .lane l, .cond .poolLow] s (s.retire c) := by
  rw [State.retire, turnRepairsGone_of_open ((freeCue_laneOf? s c c.aud).trans h)]
  exact (freeCue_changes h).trans ((withLane_keeps _ _ _).mono (by simp))

theorem lane_retire {s : State} {c : Cue} {l : LaneId} (h : s.laneOf? c.aud = some l) :
    (s.retire c).lane l = { (s.lane l).lessSlots fun k => k == c.slot with
      repairs := (s.lane l).repairs.map fun e =>
        if e.names c.aud c.track c.num then e.turnGone else e } := by
  rw [State.retire, turnRepairsGone_of_open ((freeCue_laneOf? s c c.aud).trans h),
    State.lane_withLane_self, lane_freeCue h]
  rfl

/-! ### A pass through a list of slots -/

/-- What holds before a pass and is kept at each cue it finds holds after it. -/
theorem forCues_induction {f : Cue → State → State} {P : State → Prop} {ks : List Nat}
    (hstep : ∀ u c, c.slot ∈ ks → P u → u.cueAt c.slot = some c → P (f c u)) {s : State} (hs : P s) :
    P (State.forCues f ks s) := by
  induction ks generalizing s with
  | nil => exact hs
  | cons k ks ih =>
    have hrest : ∀ u c, c.slot ∈ ks → P u → u.cueAt c.slot = some c → P (f c u) :=
      fun u c hmem => hstep u c (List.mem_cons_of_mem k hmem)
    unfold State.forCues
    cases hc : s.cueAt k with
    | none => exact ih hrest hs
    | some c =>
      refine ih hrest (hstep s c ?_ hs (cueAt_self hc))
      rw [slot_of_cueAt hc]
      exact List.mem_cons_self

/-- A slot that held a cue in one state and is free in another. -/
def slotGone (s t : State) (k : Nat) : Bool := (s.cueAt k).isSome && (t.cueAt k).isNone

/-- A lane after cues of an auditorium have been retired: their slots are gone from its build, entries of the
auditorium may have turned GONE, every other entry stands as it did. -/
def LessRetired (a : Aud) (gone : Nat → Bool) (x y : Lane) : Prop :=
  ∃ g : Repair → Repair, (∀ e, (g e).aud = e.aud ∧ (e.aud ≠ a → g e = e)) ∧
    y = { x.lessSlots gone with repairs := x.repairs.map g }

/-- A state in the course of a pass of a jump through the cues of an auditorium open on a lane (R83, R84). -/
structure Jumping (a : Aud) (l : LaneId) (s u : State) : Prop where
  keeps : Keeps [.show_ a, .cues, .freeBlocks, .lane l, .cond .poolLow] s u
  opens : ∀ b, u.laneOf? b = s.laneOf? b
  cues : ∀ k c, u.cueAt k = some c → ∃ d, s.cueAt k = some d ∧ d.aud = c.aud
  lane : LessRetired a (slotGone s u) (s.lane l) (u.lane l)

theorem Jumping.refl (a : Aud) (l : LaneId) (s : State) : Jumping a l s s where
  keeps := .refl _ _
  opens _ := rfl
  cues _ c hc := ⟨c, hc, rfl⟩
  lane := by
    have hnone : slotGone s s = fun _ => false := by
      funext k
      cases hk : s.cueAt k <;> simp [slotGone, hk]
    refine ⟨id, fun _ => ⟨rfl, fun _ => rfl⟩, ?_⟩
    rw [hnone, Lane.lessSlots_none, List.map_id]

theorem Jumping.putCue {a : Aud} {l : LaneId} {s u : State} {c c' : Cue} (h : Jumping a l s u)
    (hc : u.cueAt c.slot = some c) (hslot : c'.slot = c.slot) (haud : c'.aud = c.aud) :
    Jumping a l s (u.putCue c') where
  keeps := h.keeps.trans ((putCue_keeps _ _).mono (by simp))
  opens := h.opens
  cues k d hd := by
    rw [cueAt_putCue hc hslot] at hd
    split at hd
    · next hk =>
      cases hd
      rw [hk, haud]
      exact h.cues _ _ hc
    · exact h.cues k d hd
  lane := by
    have hgone : slotGone s (u.putCue c') = slotGone s u := by
      funext k
      rw [slotGone, slotGone, cueAt_putCue hc hslot]
      split
      · next hk => simp [hk, hc]
      · rfl
    rw [hgone]
    exact h.lane

theorem Jumping.retire {l : LaneId} {s u : State} {c : Cue} (h : Jumping c.aud l s u)
    (hc : u.cueAt c.slot = some c) (hopen : s.laneOf? c.aud = some l) :
    Jumping c.aud l s (u.retire c) where
  keeps := h.keeps.trans (retire_changes ((h.opens _).trans hopen))
  opens b := (retire_laneOf? u c b).trans (h.opens b)
  cues k d hd := by
    rw [cueAt_retire] at hd
    split at hd
    · cases hd
    · exact h.cues k d hd
  lane := by
    obtain ⟨g, hg, hlane⟩ := h.lane
    have hgone : slotGone s (u.retire c) = fun k => slotGone s u k || k == c.slot := by
      funext k
      rw [slotGone, slotGone, cueAt_retire]
      by_cases hk : k = c.slot
      · obtain ⟨d, hd, -⟩ := h.cues _ _ hc
        simp [hk, hd]
      · simp [hk]
    let turn (e : Repair) : Repair := if e.names c.aud c.track c.num then e.turnGone else e
    refine ⟨fun e => turn (g e), fun e => ⟨?_, fun hne => ?_⟩, ?_⟩
    · refine Eq.trans ?_ (hg e).1
      simp only [turn]
      split <;> rfl
    · have hnames : (g e).names c.aud c.track c.num = false := by
        rw [(hg e).2 hne]
        simp [Repair.names, hne]
      simp only [turn, hnames, Bool.false_eq_true, if_false]
      exact (hg e).2 hne
    · rw [lane_retire ((h.opens _).trans hopen), hlane, hgone, ← Lane.lessSlots_lessSlots]
      simp [Lane.lessSlots, Lane.modBuild, turn, Function.comp_def]

/-- The pass of a jump (R83, R84). -/
theorem jumping_jumpCues {s : State} (hs : CueTableOk s) {a : Aud} {l : LaneId}
    (hopen : s.laneOf? a = some l) (p : Nat) : Jumping a l s (jumpCues a p s) := by
  refine forCues_induction (P := Jumping a l s) (fun u c hmem hu hc => ?_) (.refl a l s)
  obtain ⟨d, hd, haud⟩ := hu.cues _ _ hc
  have hca : c.aud = a := by
    rw [← slot_of_cueAt hd] at hmem
    exact haud ▸ (hs.mem_slotsOf_iff (mem_of_cueAt hd)).1 hmem
  rw [jumpCue_eq]
  split
  · subst hca
    exact hu.retire hc hopen
  · refine hu.putCue hc (jumpedCue_slot p c) ?_
    unfold jumpedCue
    split <;> rfl

end Sys2Proof.Machine
end


section
/-! SUPPORT. What a jump does outside its Timeline (R33, R69, R83, R84, R88, R131). -/

namespace Sys2Proof.Machine

theorem Build.forgetAud_eq (slotAud : Nat → Option Aud) (a : Aud) (b : Build) :
    b.forgetAud slotAud a =
      { b with
        stage := stageKeeps (fun w => w.1 != a) (fun k => slotAud k != some a) (fun o => o.aud != a)
          b.stage } := by
  obtain ⟨buf, air, number, readings, jumped, st⟩ := b
  cases st <;> simp [Build.forgetAud, stageKeeps]

theorem Lane.removeRepairs_eq (x : Lane) (p : Repair → Bool) : x.removeRepairs p = lessRepairs p x := by
  obtain ⟨state, no, b0, b1, missed, rf, build, notices, repairs, rotation, out⟩ := x
  cases build with
  | none => rfl
  | some b =>
    obtain ⟨buf, air, number, readings, jumped, st⟩ := b
    cases st <;> rfl

/-- A build that has read a Timeline which jumps bars its auditorium from the rest of its steps (R88). -/
def Build.barred (slotAud : Nat → Option Aud) (a : Aud) (b : Build) : Build :=
  if (b.readings.any fun r => r.1 == a) then
    { b.forgetAud slotAud a with jumped := a :: b.jumped }
  else b

theorem forgetInBuild_of_open {s : State} {a : Aud} {l : LaneId} (h : s.laneOf? a = some l) :
    forgetInBuild a s =
      s.withLane l ((s.lane l).modBuild (Build.barred (fun k => (s.cueAt k).map Cue.aud) a)) := by
  unfold forgetInBuild
  rw [h]
  rfl

theorem purgeRepairs_of_open {s : State} {a : Aud} {l : LaneId} (h : s.laneOf? a = some l) :
    purgeRepairs a s = s.withLane l (lessRepairs (fun e => e.aud == a) (s.lane l)) := by
  unfold purgeRepairs
  rw [h]
  dsimp only
  rw [Lane.removeRepairs_eq]

/-- A state of a jump before its cues are passed through: latched, counted, told to the build. -/
def jumpToldToBuild (a : Aud) (s : State) : State :=
  forgetInBuild a ((s.latch .tlJump (.aud a)).countAud a .jumps)

theorem jumpToldToBuild_of_open {s : State} {a : Aud} {l : LaneId} (h : s.laneOf? a = some l) :
    jumpToldToBuild a s = ((s.latch .tlJump (.aud a)).countAud a .jumps).withLane l
      ((s.lane l).modBuild (Build.barred (fun k => (s.cueAt k).map Cue.aud) a)) :=
  forgetInBuild_of_open (s := (s.latch .tlJump (.aud a)).countAud a .jumps) h

theorem jumpEffects_of_open {s : State} (hs : CueTableOk s) {a : Aud} {l : LaneId}
    (h : s.laneOf? a = some l) (p : Nat) :
    Jumping a l (jumpToldToBuild a s) (jumpCues a p (jumpToldToBuild a s))
      ∧ jumpEffects a p s = (jumpCues a p (jumpToldToBuild a s)).withLane l
          (lessRepairs (fun e => e.aud == a) ((jumpCues a p (jumpToldToBuild a s)).lane l)) := by
  have hdir : (jumpToldToBuild a s).laneOf? a = some l := by
    rw [jumpToldToBuild_of_open h]
    exact h
  have hcues : CueTableOk (jumpToldToBuild a s) :=
    cueTableOk_of_stocks hs (.of_directory (by simp [jumpToldToBuild]))
      (by rw [jumpToldToBuild_of_open h]; rfl) (by rw [jumpToldToBuild_of_open h]; rfl)
  have hjump := jumping_jumpCues hcues hdir p
  exact ⟨hjump, (jumpEffects_eq a p s).trans (purgeRepairs_of_open ((hjump.opens a).trans hdir))⟩

theorem jumpEffects_changes {s : State} (hs : CueTableOk s) {a : Aud} {l : LaneId}
    (h : s.laneOf? a = some l) (p : Nat) :
    Keeps [.show_ a, .cues, .freeBlocks, .lane l, .audCounter a .jumps, .cond .tlJump, .cond .poolLow]
      s (jumpEffects a p s) := by
  obtain ⟨hjump, heq⟩ := jumpEffects_of_open hs h p
  have htold : Keeps [.lane l, .audCounter a .jumps, .cond .tlJump] s (jumpToldToBuild a s) := by
    rw [jumpToldToBuild_of_open h]
    exact ((latch_keeps _ _ _).mono (by simp)).trans (((countAud_keeps _ _ _).mono (by simp)).trans
      ((withLane_keeps _ _ _).mono (by simp)))
  rw [heq]
  exact (htold.mono (by simp)).trans ((hjump.keeps.mono (by simp)).trans
    ((withLane_keeps _ _ _).mono (by simp)))

/-- A lane whose entries of an auditorium have been turned or kept, without that auditorium's entries. -/
theorem lessRepairs_of_turned {a : Aud} {g : Repair → Repair}
    (hg : ∀ e, (g e).aud = e.aud ∧ (e.aud ≠ a → g e = e)) (rs : List Repair) :
    (rs.map g).filter (fun e => !(e.aud == a)) = rs.filter fun e => !(e.aud == a) := by
  induction rs with
  | nil => rfl
  | cons e rs ih =>
    obtain ⟨haud, hother⟩ := hg e
    by_cases he : e.aud = a
    · simpa [haud, he] using ih
    · simpa [haud, he, hother he] using ih

/-- What is left of the lane of a jump: no entry of the auditorium, and of a build that has read its Timeline
nothing to walk or offer for it (R88, R131). -/
theorem lane_of_jump {a : Aud} {x : Lane} {y : Lane} {s t : State}
    (h : LessRetired a (slotGone s t) (x.modBuild (Build.barred (fun k => (s.cueAt k).map Cue.aud) a)) y) :
    lessRepairs (fun e => e.aud == a) y =
      { lessRepairs (fun e => e.aud == a) x with
        build := (lessRepairs (fun e => e.aud == a) x).build.map fun b =>
          let read : Bool := b.readings.any fun y => y.1 == a
          { b with
            jumped := if read then a :: b.jumped else b.jumped
            stage := stageLeft a read s t b.stage } } := by
  obtain ⟨g, hg, rfl⟩ := h
  have hless := lessRepairs_of_turned hg
  obtain ⟨st, no, b0, b1, missed, rf, build, notices, repairs, rotation, out⟩ := x
  cases build with
  | none => simp [lessRepairs, Lane.lessSlots, Lane.modBuild, hless]
  | some b =>
    obtain ⟨buf, air, number, readings, jumped, stage⟩ := b
    by_cases hread : (readings.any fun r => r.1 == a) = true
    · cases stage <;>
        simp [lessRepairs, Lane.lessSlots, Lane.modBuild, hless, Build.barred, hread,
          Build.forgetAud_eq, stageLeft, stageKeeps, slotGone, List.filter_filter, ← List.map_take,
          bne, Bool.and_comm]
    · cases stage <;>
        simp [lessRepairs, Lane.lessSlots, Lane.modBuild, hless, Build.barred, hread,
          stageLeft, stageKeeps, slotGone, ← List.map_take]

theorem stageLeft_congr {s s' t t' : State} (hs : ∀ k, s'.cueAt k = s.cueAt k)
    (ht : ∀ k, t'.cueAt k = t.cueAt k) (a : Aud) (out : Bool) (st : Stage) :
    stageLeft a out s' t' st = stageLeft a out s t st := by
  unfold stageLeft
  simp only [hs, ht]

theorem jumpTold_jumpEffects {s : State} (hs : CueTableOk s) {a : Aud} {l : LaneId}
    (h : s.laneOf? a = some l) (p : Nat) : JumpTold a l p s (jumpEffects a p s) := by
  obtain ⟨hjump, heq⟩ := jumpEffects_of_open hs h p
  have htold : (jumpToldToBuild a s).table = s.table := by
    rw [jumpToldToBuild_of_open h]
    rfl
  have hcues : CueTableOk (jumpToldToBuild a s) :=
    cueTableOk_of_stocks hs (.of_directory (by simp [jumpToldToBuild])) (by rw [htold]) (by rw [htold])
  have hsettings : (jumpToldToBuild a s).settings = s.settings := by simp [jumpToldToBuild]
  have hat {c : Cue} (hc : c ∈ s.table.cues) : (jumpEffects a p s).cueAt c.slot =
      if c.aud = a then if jumpRetires s p c = true then none else some (jumpedCue p c)
      else some c := by
    rw [heq, ← jumpRetires_congr hsettings]
    exact cueAt_jumpCues hcues a p (by rwa [htold])
  have hjumps : (jumpToldToBuild a s).audCount a .jumps = bump (s.audCount a .jumps)
      ∧ (jumpToldToBuild a s).cond .tlJump = ⟨true, .aud a⟩ := by
    rw [jumpToldToBuild_of_open h]
    refine ⟨(State.audCount_countAud _ a a .jumps .jumps).trans (if_pos ⟨rfl, rfl⟩), ?_⟩
    exact Eq.trans (countAud_keeps _ a .jumps (.cond .tlJump) (by simp))
      (State.cond_withCond_self _ _ _)
  refine ⟨?_, ?_, fun c hc => ⟨fun hne => ?_, fun haud hahead => ?_, fun haud hbehind hmark => ?_,
    fun haud hbehind hmark => ?_⟩, ?_⟩
  · rw [heq]
    exact Eq.trans (hjump.keeps (.cond .tlJump) (by simp)) hjumps.2
  · rw [heq]
    exact Eq.trans (hjump.keeps (.audCounter a .jumps) (by simp)) hjumps.1
  · rw [hat hc, if_neg hne]
  · have hstays : jumpRetires s p c = false := by simp [jumpRetires, Nat.not_le.2 hahead]
    simp [hat hc, haud, hstays, jumpedCue, hahead]
  · rw [hat hc, if_pos haud, if_pos (by simp [jumpRetires, hbehind, hmark])]
  · have hstays : jumpRetires s p c = false := by simp [jumpRetires, Nat.not_le.2 hmark]
    simp [hat hc, haud, hstays, jumpedCue, Nat.not_lt.2 hbehind]
  · have hlane : (jumpToldToBuild a s).lane l
        = (s.lane l).modBuild (Build.barred (fun k => (s.cueAt k).map Cue.aud) a) := by
      rw [jumpToldToBuild_of_open h, State.lane_withLane_self]
    have hat' : (fun k => ((jumpToldToBuild a s).cueAt k).map Cue.aud)
        = fun k => (s.cueAt k).map Cue.aud := by
      funext k
      rw [cueAt_congr htold]
    have hless := hjump.lane
    rw [hlane, ← hat'] at hless
    rw [heq, State.lane_withLane_self, lane_of_jump hless]
    simp only [stageLeft_congr (cueAt_congr htold) fun _ => rfl]
    rfl

end Sys2Proof.Machine
end


section
/-! SUPPORT. A report: its pairing, its effect by the Timeline's state, and what an accepted one changes. -/

namespace Sys2Proof.Machine

/-! ### Pairing (R29) -/

/-- A capture that a report taken now pairs with (R29). -/
def PairsWith (s : State) (a : Aud) (c : SiteTime) : Prop :=
  ((s.syncIn a).sens = .rise ∨ (s.syncIn a).sens = .fall) ∧ (s.syncIn a).capture = some c
    ∧ sdiff s.clock.time c ≤ (s.setting .pairWindow : Int)

theorem Sens.isEdge_iff (m : Sens) : m.isEdge = true ↔ m = .rise ∨ m = .fall := by
  cases m <;> simp [Sens.isEdge]

theorem pairReport_of_pairsWith {s : State} {a : Aud} {c : SiteTime} (h : PairsWith s a c) :
    pairReport (s.syncIn a) s.clock.time (s.setting .pairWindow) = ⟨c, true, false⟩ := by
  obtain ⟨hsens, hcapture, hfresh⟩ := h
  simp [pairReport, (Sens.isEdge_iff _).2 hsens, hcapture, hfresh]

theorem pairReport_of_unpaired {s : State} {a : Aud} (h : ∀ c, ¬PairsWith s a c) :
    pairReport (s.syncIn a) s.clock.time (s.setting .pairWindow)
      = ⟨s.clock.time, false, (s.syncIn a).sens != .noneMode⟩ := by
  unfold pairReport
  by_cases hedge : (s.syncIn a).sens.isEdge = true
  · cases hcapture : (s.syncIn a).capture with
    | none => simp [hedge]
    | some c =>
      have hold : ¬sdiff s.clock.time c ≤ (s.setting .pairWindow : Int) := fun hfresh =>
        h c ⟨(Sens.isEdge_iff _).1 hedge, hcapture, hfresh⟩
      simp [hedge, hold]
  · simp [hedge]

theorem pairingOf_eq {q : ReportReq} (s : State) (h : q.kind ≠ .stopped) :
    pairingOf q s = pairReport (s.syncIn q.aud) s.clock.time (s.setting .pairWindow) := if_neg h

theorem pairingOf_paired_iff (q : ReportReq) (s : State) :
    (pairingOf q s).paired = true ↔ q.kind ≠ .stopped ∧ ∃ c, PairsWith s q.aud c := by
  by_cases hstop : q.kind = .stopped
  · simp [pairingOf, hstop]
  · rw [pairingOf_eq s hstop]
    by_cases hpair : ∃ c, PairsWith s q.aud c
    · obtain ⟨c, hc⟩ := id hpair
      simp [pairReport_of_pairsWith hc, hstop, hpair]
    · simp [pairReport_of_unpaired (not_exists.1 hpair), hpair]

theorem pairingOf_counts {q : ReportReq} (s : State) (h : q.kind ≠ .stopped) :
    (pairingOf q s).counts = true ↔
      ¬((∃ c, PairsWith s q.aud c) ∨ (s.syncIn q.aud).sens = .noneMode) := by
  rw [pairingOf_eq s h]
  by_cases hpair : ∃ c, PairsWith s q.aud c
  · obtain ⟨c, hc⟩ := id hpair
    simp [pairReport_of_pairsWith hc, hpair]
  · simp [pairReport_of_unpaired (not_exists.1 hpair), hpair]

theorem pairingOf_tRef {q : ReportReq} {s : State} {tRef : SiteTime} (h : q.kind ≠ .stopped)
    (hr : PairsWith s q.aud tRef ∨ ((∀ c, ¬PairsWith s q.aud c) ∧ tRef = s.clock.time)) :
    (pairingOf q s).tRef = tRef := by
  rw [pairingOf_eq s h]
  obtain hpair | ⟨hnone, rfl⟩ := hr
  · rw [pairReport_of_pairsWith hpair]
  · rw [pairReport_of_unpaired hnone]

/-! ### The effect by the Timeline's state (R30 to R38) -/

/-- The rate after a report: the one carried, clamped, else the one in effect (R26). -/
def reportRate (q : ReportReq) (s : State) : Nat := (q.rate.map clampRate).getD (s.timeline q.aud).rate

theorem effectOf_eq (q : ReportReq) (s : State) :
    effectOf q s = reportEffect (s.setting .tLock) (s.setting .jumpConfirm) q.kind (pairingOf q s).tRef
      q.pos (reportRate q s) { s.timeline q.aud with lastKind := some q.kind } := by
  unfold effectOf reportRate
  cases q.rate <;> rfl

theorem reportEffect_gated (tLock confirm : Nat) (kind : ReportKind) (tRef : SiteTime) (pos rate : Nat)
    (x : Timeline) : (reportEffect tLock confirm kind tRef pos rate x).tl.gated = x.gated := by
  have hjump (far : Bool) (y : Timeline) : (jumpIf far y).gated = y.gated := by
    unfold jumpIf
    split <;> rfl
  have hacquire (playing : Bool) : (acquire playing tRef pos rate x).tl.gated = x.gated := by
    unfold acquire
    dsimp only
    split <;> rfl
  have hmotion : (playingInMotion tLock confirm tRef pos rate x).tl.gated = x.gated := by
    unfold playingInMotion
    dsimp only
    split
    · rfl
    · simp only [apply_ite ReportEffect.tl, apply_ite Timeline.gated, hjump, ite_self]
  have hheld : (playingInHeld tLock tRef pos rate x).tl.gated = x.gated := by
    unfold playingInHeld
    dsimp only
    split <;> exact hjump _ _
  cases kind with
  | stopped => rfl
  | playing => cases hx : x.state <;> simp only [reportEffect, hx, hacquire, hmotion, hheld]
  | paused =>
    cases hx : x.state <;>
      simp only [reportEffect, hx, hacquire, pausedInMotion, pausedInHeld, hjump]

theorem acceptReport_gated (q : ReportReq) (s : State) :
    (acceptReport s.clock.time (effectOf q s)).gated = (s.timeline q.aud).gated := by
  have hgated : (effectOf q s).tl.gated = (s.timeline q.aud).gated := reportEffect_gated ..
  unfold acceptReport
  split <;> exact hgated

theorem effectOf_stopped {q : ReportReq} (s : State) (h : q.kind = .stopped) :
    effectOf q s = ⟨{ s.timeline q.aud with
      state := .stopped, anchor := none, frozen := none, strikes := 0, candidate := none
      rate := reportRate q s, lastKind := some q.kind }, .stopped, none, false⟩ := by
  rw [effectOf_eq, h]
  rfl

/-- An acquisition (R30). -/
theorem effectOf_acquires {q : ReportReq} {s : State} (hkind : q.kind ≠ .stopped)
    (h : (s.timeline q.aud).state = .acquiring ∨ (s.timeline q.aud).state = .stopped
      ∨ (s.timeline q.aud).state = .lost) :
    effectOf q s = acquire (q.kind == .playing) (pairingOf q s).tRef q.pos (reportRate q s)
      { s.timeline q.aud with lastKind := some q.kind } := by
  rw [effectOf_eq]
  cases hk : q.kind with
  | stopped => exact absurd hk hkind
  | playing => obtain hx | hx | hx := h <;> simp only [reportEffect, hx] <;> rfl
  | paused => obtain hx | hx | hx := h <;> simp only [reportEffect, hx] <;> rfl

theorem Timeline.project_moving {x : Timeline} {p : Anchor} (h : x.state = .running ∨ x.state = .coasting)
    (hp : x.anchor = some p) (t : SiteTime) : x.project t = some (projectFrom p x.rate t) := by
  obtain hx | hx := h <;> simp [Timeline.project, hx, hp]

theorem effectOf_playingInMotion {q : ReportReq} {s : State} (hkind : q.kind = .playing)
    (h : (s.timeline q.aud).state = .running ∨ (s.timeline q.aud).state = .coasting) :
    effectOf q s = playingInMotion (s.setting .tLock) (s.setting .jumpConfirm) (pairingOf q s).tRef q.pos
      (reportRate q s) { s.timeline q.aud with lastKind := some q.kind } := by
  rw [effectOf_eq, hkind]
  obtain hx | hx := h <;> simp only [reportEffect, hx]

/-- Whether a strike agrees with the candidate offset (R32). -/
def Agrees (x : Timeline) (tLock : Nat) (e : Int) : Prop :=
  x.strikes ≠ 0 ∧ ∃ c, x.candidate = some c ∧ (e - c).natAbs ≤ tLock

/-- A strike that brings the count to `n`: a jump when that confirms it (R32, R33). -/
def strikeOr (confirm n : Nat) (cand e : Int) (moved x : Timeline) : ReportEffect :=
  if confirm ≤ n then ⟨jumpIf true moved, .jump, some e, true⟩
  else ⟨{ x with strikes := n, candidate := some cand }, .strike, some e, true⟩

section

variable {q : ReportReq} {s : State} {p : Anchor} {tRef : SiteTime}

/-- The Timeline of a PLAYING report in motion that is taken as true (R31, R33). -/
def movedTo (q : ReportReq) (tRef : SiteTime) (s : State) : Timeline :=
  { s.timeline q.aud with
    state := .running, anchor := some ⟨tRef, q.pos⟩, rate := reportRate q s, lastKind := some q.kind }

theorem effectOf_snaps (hkind : q.kind = .playing)
    (h : (s.timeline q.aud).state = .running ∨ (s.timeline q.aud).state = .coasting)
    (hp : (s.timeline q.aud).anchor = some p) (htRef : (pairingOf q s).tRef = tRef) :
    let e : Int := (q.pos : Int) - (projectFrom p (s.timeline q.aud).rate tRef : Int)
    e.natAbs ≤ s.setting .tLock →
    effectOf q s = ⟨{ movedTo q tRef s with strikes := 0, candidate := none }, .snapped, some e, false⟩ := by
  intro e hnear
  have hproj : Timeline.project { s.timeline q.aud with lastKind := some q.kind } tRef
      = some (projectFrom p (s.timeline q.aud).rate tRef) := Timeline.project_moving h hp tRef
  rw [effectOf_playingInMotion hkind h, htRef]
  unfold playingInMotion
  dsimp only
  rw [hproj]
  exact if_pos (decide_eq_true hnear)

theorem effectOf_strikesFresh (hkind : q.kind = .playing)
    (h : (s.timeline q.aud).state = .running ∨ (s.timeline q.aud).state = .coasting)
    (hp : (s.timeline q.aud).anchor = some p) (htRef : (pairingOf q s).tRef = tRef) :
    let e : Int := (q.pos : Int) - (projectFrom p (s.timeline q.aud).rate tRef : Int)
    s.setting .tLock < e.natAbs → ¬Agrees (s.timeline q.aud) (s.setting .tLock) e →
    effectOf q s = strikeOr (s.setting .jumpConfirm) 1 e e (movedTo q tRef s)
      { s.timeline q.aud with lastKind := some q.kind } := by
  intro e hfar hfresh
  have hproj : Timeline.project { s.timeline q.aud with lastKind := some q.kind } tRef
      = some (projectFrom p (s.timeline q.aud).rate tRef) := Timeline.project_moving h hp tRef
  have hout : within e (s.setting .tLock) = false := decide_eq_false (Nat.not_le.2 hfar)
  rw [effectOf_playingInMotion hkind h, htRef]
  unfold playingInMotion
  dsimp only
  rw [hproj]
  refine (if_neg (by simpa using hout)).trans ?_
  by_cases hz : (s.timeline q.aud).strikes = 0
  · simp [hz, strikeOr, movedTo, e]
  · cases hc : (s.timeline q.aud).candidate with
    | none => simp [hc, strikeOr, movedTo, e]
    | some c =>
      have hdiffers : within (e - c) (s.setting .tLock) = false :=
        decide_eq_false fun hnear => hfresh ⟨hz, c, hc, hnear⟩
      simp only [e] at hdiffers
      simp [hc, hdiffers, strikeOr, movedTo, e]

theorem effectOf_strikesAgain (hkind : q.kind = .playing)
    (h : (s.timeline q.aud).state = .running ∨ (s.timeline q.aud).state = .coasting)
    (hp : (s.timeline q.aud).anchor = some p) (htRef : (pairingOf q s).tRef = tRef) {c : Int}
    (hc : (s.timeline q.aud).candidate = some c) :
    let e : Int := (q.pos : Int) - (projectFrom p (s.timeline q.aud).rate tRef : Int)
    s.setting .tLock < e.natAbs → Agrees (s.timeline q.aud) (s.setting .tLock) e →
    effectOf q s = strikeOr (s.setting .jumpConfirm) ((s.timeline q.aud).strikes + 1) c e
      (movedTo q tRef s) { s.timeline q.aud with lastKind := some q.kind } := by
  intro e hfar ⟨hz, d, hd, hnear⟩
  have hproj : Timeline.project { s.timeline q.aud with lastKind := some q.kind } tRef
      = some (projectFrom p (s.timeline q.aud).rate tRef) := Timeline.project_moving h hp tRef
  have hout : within e (s.setting .tLock) = false := decide_eq_false (Nat.not_le.2 hfar)
  have hagrees : within (e - c) (s.setting .tLock) = true := by
    rw [hc] at hd
    cases hd
    exact decide_eq_true hnear
  rw [effectOf_playingInMotion hkind h, htRef]
  unfold playingInMotion
  dsimp only
  rw [hproj]
  refine (if_neg (by simpa using hout)).trans ?_
  simp only [e] at hagrees
  simp [hz, hc, hagrees, strikeOr, movedTo, e]

end

/-- An effect that is a jump when the report lies further off than T_LOCK (R34, R35, R38). -/
def jumpOr (far : Bool) (z : Timeline) (o : ReportOutcome) (e : Int) : ReportEffect :=
  ⟨jumpIf far z, if far then .jump else o, some e, false⟩

/-- A PAUSED report in motion (R34). -/
theorem effectOf_pausedInMotion {q : ReportReq} {s : State} {p : Anchor} {tRef : SiteTime}
    (hkind : q.kind = .paused)
    (h : (s.timeline q.aud).state = .running ∨ (s.timeline q.aud).state = .coasting)
    (hp : (s.timeline q.aud).anchor = some p) (htRef : (pairingOf q s).tRef = tRef) :
    let e : Int := (q.pos : Int) - (projectFrom p (s.timeline q.aud).rate tRef : Int)
    effectOf q s = jumpOr (!within e (s.setting .tLock)) { s.timeline q.aud with
      state := .held, frozen := some q.pos, anchor := none, strikes := 0
      rate := reportRate q s, lastKind := some q.kind } .held e := by
  rw [effectOf_eq, htRef]
  obtain hx | hx := h <;>
    simp [reportEffect, hkind, hx, hp, pausedInMotion, Timeline.project, jumpOr]

/-- A PLAYING report in HELD, ungated (R35). -/
theorem effectOf_resumes {q : ReportReq} {s : State} {p : Nat} {tRef : SiteTime}
    (hkind : q.kind = .playing) (h : (s.timeline q.aud).state = .held)
    (hp : (s.timeline q.aud).frozen = some p) (hgated : (s.timeline q.aud).gated = false)
    (htRef : (pairingOf q s).tRef = tRef) :
    let e : Int := (q.pos : Int) - (p : Int)
    effectOf q s = jumpOr (!within e (s.setting .tLock)) { s.timeline q.aud with
      state := .running, anchor := some ⟨tRef, q.pos⟩, frozen := none, strikes := 0
      rate := reportRate q s, lastKind := some q.kind } .snapped e := by
  rw [effectOf_eq, htRef]
  simp [reportEffect, hkind, h, playingInHeld, hgated, hp, jumpOr]

/-- A PLAYING report in HELD, gated (R38). -/
theorem effectOf_refinesGated {q : ReportReq} {s : State} {p : Nat}
    (hkind : q.kind = .playing) (h : (s.timeline q.aud).state = .held)
    (hp : (s.timeline q.aud).frozen = some p) (hgated : (s.timeline q.aud).gated = true) :
    let e : Int := (q.pos : Int) - (p : Int)
    effectOf q s = jumpOr (!within e (s.setting .tLock)) { s.timeline q.aud with
      frozen := some q.pos, rate := reportRate q s, lastKind := some q.kind } .gated e := by
  rw [effectOf_eq]
  simp [reportEffect, hkind, h, playingInHeld, hgated, hp, jumpOr]

/-- A PAUSED report in HELD (R35, R38). -/
theorem effectOf_pausedInHeld {q : ReportReq} {s : State} {p : Nat}
    (hkind : q.kind = .paused) (h : (s.timeline q.aud).state = .held)
    (hp : (s.timeline q.aud).frozen = some p) :
    let e : Int := (q.pos : Int) - (p : Int)
    effectOf q s = jumpOr (!within e (s.setting .tLock)) { s.timeline q.aud with
      frozen := some q.pos, rate := reportRate q s, lastKind := some q.kind } .held e := by
  rw [effectOf_eq]
  simp [reportEffect, hkind, h, pausedInHeld, hp, jumpOr]

/-! ### What an accepted report changes (R28, R29, R33) -/

/-- The parts that a report changes outside a jump's effects and the judging of conditions. -/
def reportParts (q : ReportReq) (s : State) : List Part :=
  [.sync q.aud, .timeline q.aud]
    ++ (if (pairingOf q s).counts then [.audCounter q.aud .unpaired] else [])
    ++ (if (effectOf q s).struck then [.audCounter q.aud .strikes] else [])
    ++ (if (effectOf q s).outcome = .strike then [.cond .tlGlitch] else [])

/-- The parts that a jump changes outside its Timeline (R33). -/
def jumpParts (a : Aud) (l : LaneId) : List Part :=
  [.show_ a, .cues, .freeBlocks, .lane l, .audCounter a .jumps, .cond .tlJump, .cond .poolLow]

theorem keeps_ite_parts {ps : List Part} {c : Prop} [Decidable c] {s t : State} {qs : List Part}
    (h : Keeps qs s t) (hsub : c → qs ⊆ ps) : Keeps ps s (if c then t else s) :=
  keeps_ite (fun hc => h.mono (hsub hc)) fun _ => .refl _ _

theorem reportWritten_keeps (q : ReportReq) (s : State) :
    Keeps (reportParts q s) s (reportWritten q s) := by
  have hsync := (withSync_keeps s q.aud { s.syncIn q.aud with capture := none }).mono
    (qs := reportParts q s) (by simp [reportParts])
  refine (hsync.trans ?_).trans ((withTimeline_keeps _ q.aud _).mono (by simp [reportParts]))
  exact keeps_ite_parts (countAud_keeps _ _ _) fun h => by simp [reportParts, h]

theorem reportActed_keeps (q : ReportReq) (s : State) :
    Keeps (reportParts q s) s (reportActed q s) := by
  have hstruck : Keeps (reportParts q s) (reportWritten q s)
      (if (effectOf q s).struck then (reportWritten q s).countAud q.aud .strikes
        else reportWritten q s) :=
    keeps_ite_parts (countAud_keeps _ _ _) fun h => by simp [reportParts, h]
  exact ((reportWritten_keeps q s).trans hstruck).trans
    (keeps_ite_parts (latch_keeps _ _ _) fun h => by simp [reportParts, h])

theorem reportTaken_keeps_noJump {q : ReportReq} {s : State} (h : (effectOf q s).outcome ≠ .jump) :
    Keeps (reportParts q s ++ [.cond .tlCoast, .cond .tlLost]) s (reportTaken q s) := by
  rw [reportTaken_of_noJump h]
  exact ((reportActed_keeps q s).mono (by simp)).trans ((judgeTimelines_keeps _ _).mono (by simp))

theorem reportActed_cueTableOk {s : State} (hs : CueTableOk s) (q : ReportReq) :
    CueTableOk (reportActed q s) :=
  cueTableOk_of_stocks hs (.of_directory (by simp [reportActed])) (by simp [reportActed])
    (by simp [reportActed])

theorem reportActed_laneOf? (q : ReportReq) (s : State) (a : Aud) :
    (reportActed q s).laneOf? a = s.laneOf? a := by
  have hdir : (reportActed q s).directory = s.directory := by simp [reportActed]
  rw [State.laneOf?, State.theShow?, hdir]
  rfl

theorem reportTaken_keeps_jump {q : ReportReq} {s : State} {l : LaneId} (hs : CueTableOk s)
    (hopen : s.laneOf? q.aud = some l) (h : (effectOf q s).outcome = .jump) :
    Keeps (reportParts q s ++ jumpParts q.aud l ++ [.cond .tlCoast, .cond .tlLost]) s
      (reportTaken q s) := by
  rw [reportTaken_of_jump h]
  exact ((reportActed_keeps q s).mono (by simp)).trans
    (((jumpEffects_changes (reportActed_cueTableOk hs q) ((reportActed_laneOf? q s _).trans hopen)
      q.pos).mono (by simp [jumpParts])).trans ((judgeTimelines_keeps _ _).mono (by simp)))

theorem JumpTold.of_before {a : Aud} {l : LaneId} {p : Nat} {s s' t : State} (h : JumpTold a l p s' t)
    (htable : s'.table = s.table) (hlane : s'.lane l = s.lane l) (hset : s'.settings = s.settings)
    (hjumps : s'.audCount a .jumps = s.audCount a .jumps) : JumpTold a l p s t := by
  unfold JumpTold at h ⊢
  simpa only [htable, hlane, retireMark_congr hset, hjumps,
    stageLeft_congr (cueAt_congr htable) fun _ => rfl] using h

theorem jumpTold_reportTaken {q : ReportReq} {s : State} {l : LaneId} (hs : CueTableOk s)
    (hopen : s.laneOf? q.aud = some l) (h : (effectOf q s).outcome = .jump) :
    JumpTold q.aud l q.pos s (reportTaken q s) := by
  have htold := jumpTold_jumpEffects (reportActed_cueTableOk hs q)
    ((reportActed_laneOf? q s _).trans hopen) q.pos
  have hcount : (reportActed q s).audCount q.aud .jumps = s.audCount q.aud .jumps :=
    reportActed_keeps q s (.audCounter q.aud .jumps) (by
      unfold reportParts
      split_ifs <;> simp)
  have hbefore := htold.of_before (by simp [reportActed]) (State.lane_congr (by simp [reportActed]) l)
    (by simp [reportActed]) hcount
  rw [reportTaken_of_jump h]
  obtain ⟨hcond, hjumps, hcues, hlane⟩ := hbefore
  have hkeep := judgeTimelines_keeps (jumpEffects q.aud q.pos (reportActed q s)) q.aud
  have htable : ((jumpEffects q.aud q.pos (reportActed q s)).judgeTimelines q.aud).table
      = (jumpEffects q.aud q.pos (reportActed q s)).table := by simp
  refine ⟨Eq.trans (hkeep (.cond .tlJump) (by simp)) hcond,
    Eq.trans (hkeep (.audCounter q.aud .jumps) (by simp)) hjumps, ?_, ?_⟩
  · simpa only [cueAt_congr htable] using hcues
  · simp only [stageLeft_congr (fun _ => rfl) (cueAt_congr htable)]
    exact Eq.trans (hkeep (.lane l) (by simp)) hlane

/-- What an accepted report leaves of its own auditorium's input and counters. -/
theorem reportTaken_syncIn (q : ReportReq) (s : State) :
    (reportTaken q s).syncIn q.aud = { s.syncIn q.aud with capture := none } := by
  have hsync : (reportTaken q s).sync = (s.withSync q.aud { s.syncIn q.aud with capture := none }).sync := by
    have hwritten : (reportWritten q s).sync
        = (s.withSync q.aud { s.syncIn q.aud with capture := none }).sync := by
      unfold reportWritten
      dsimp only
      split <;> simp
    rw [← hwritten]
    unfold reportTaken
    dsimp only
    split <;> simp
  rw [State.syncIn, hsync]
  exact vput_get_self ..

end Sys2Proof.Machine
end


section
/-! PROOFS. Position reports (O37, O38, O39). -/

namespace Sys2Proof.Machine

theorem exec_timelineReport (s : State) :
    exec .timelineReport s = takeRequest .timelineReport (withForm timelineReport? actTimelineReport) s :=
  rfl

theorem actTimelineReport_open {q : ReportReq} {s : State} (h : s.isOpen q.aud = true) :
    actTimelineReport q s = .ok ⟨reportTaken q s,
      reportBody (effectOf q s) (pairingOf q s).paired ((reportTaken q s).timeline q.aud),
      rateClamped q.rate⟩ := by
  unfold actTimelineReport
  rw [if_pos h]
  rfl

theorem actTimelineReport_closed {q : ReportReq} {s : State} (h : s.isOpen q.aud = false) :
    actTimelineReport q s = .error .notOpen := by
  unfold actTimelineReport
  rw [h]
  rfl

/-! ### The counters of a report -/

theorem jumpCues_audCount (a : Aud) (p : Nat) (s : State) (b : Aud) (k : AudCounter) :
    (jumpCues a p s).audCount b k = s.audCount b k :=
  forCues_induction (P := fun u => u.audCount b k = s.audCount b k)
    (fun u c _ hu _ => by
      rw [jumpCue_eq]
      split
      · exact Eq.trans (by simp [State.audCount]) hu
      · exact hu) rfl

theorem jumpEffects_audCount {a : Aud} {k : AudCounter} (p : Nat) (s : State) (h : k ≠ .jumps) :
    (jumpEffects a p s).audCount a k = s.audCount a k := by
  have hforgot (u : State) : (forgetInBuild a u).audCount a k = u.audCount a k := by
    simp [State.audCount]
  have hpurged (u : State) : (purgeRepairs a u).audCount a k = u.audCount a k := by
    simp [State.audCount]
  rw [jumpEffects_eq, hpurged, jumpCues_audCount, hforgot]
  exact countAud_keeps _ a .jumps (.audCounter a k) (by simpa using h)

theorem reportTaken_audCount (q : ReportReq) (s : State) {k : AudCounter} (h : k ≠ .jumps) :
    (reportTaken q s).audCount q.aud k = (reportActed q s).audCount q.aud k := by
  have hjudge (u : State) : (u.judgeTimelines q.aud).audCount q.aud k = u.audCount q.aud k :=
    judgeTimelines_keeps u q.aud (.audCounter q.aud k) (by simp)
  by_cases hjump : (effectOf q s).outcome = .jump
  · rw [reportTaken_of_jump hjump, hjudge, jumpEffects_audCount _ _ h]
  · rw [reportTaken_of_noJump hjump, hjudge]

theorem reportTaken_unpaired (q : ReportReq) (s : State) :
    (reportTaken q s).audCount q.aud .unpaired =
      if (pairingOf q s).counts = true then bump (s.audCount q.aud .unpaired)
      else s.audCount q.aud .unpaired := by
  have hnoted : (reportActed q s).audCount q.aud .unpaired
      = (reportWritten q s).audCount q.aud .unpaired := by
    unfold reportActed strikeNoted
    dsimp only
    have hstruck : (if (effectOf q s).struck then (reportWritten q s).countAud q.aud .strikes
        else reportWritten q s).audCount q.aud .unpaired = (reportWritten q s).audCount q.aud .unpaired := by
      split
      · exact countAud_keeps _ q.aud .strikes (.audCounter q.aud .unpaired) (by simp)
      · rfl
    refine Eq.trans ?_ hstruck
    split <;> rfl
  rw [reportTaken_audCount q s (by simp), hnoted]
  unfold reportWritten
  dsimp only
  split
  · exact (State.audCount_countAud _ q.aud q.aud .unpaired .unpaired).trans (if_pos ⟨rfl, rfl⟩)
  · rfl

theorem reportTaken_strikes {q : ReportReq} {s : State} (h : (effectOf q s).struck = true) :
    (reportTaken q s).audCount q.aud .strikes = bump (s.audCount q.aud .strikes) := by
  have hwritten : (reportWritten q s).audCount q.aud .strikes = s.audCount q.aud .strikes := by
    unfold reportWritten
    dsimp only
    split
    · exact countAud_keeps _ q.aud .unpaired (.audCounter q.aud .strikes) (by simp)
    · rfl
  rw [reportTaken_audCount q s (by simp), reportActed, strikeNoted, if_pos h, ← hwritten]
  have hcount := (State.audCount_countAud (reportWritten q s) q.aud q.aud .strikes .strikes).trans
    (if_pos ⟨rfl, rfl⟩)
  split <;> exact hcount

theorem reportTaken_glitch {q : ReportReq} {s : State} (h : (effectOf q s).outcome = .strike) :
    (reportTaken q s).cond .tlGlitch = ⟨true, .aud q.aud⟩ := by
  rw [reportTaken_of_noJump (by simp [h])]
  refine Eq.trans (judgeTimelines_keeps _ _ (.cond .tlGlitch) (by simp)) ?_
  unfold reportActed strikeNoted
  dsimp only
  rw [if_pos h]
  exact State.cond_withCond_self _ _ _

/-! ### An accepted report -/

/-- What an accepted report does, whatever its effect. -/
structure ReportDone (q : ReportReq) (m : Msg) (rest : List Msg) (s t : State) : Prop where
  runs : exec .timelineReport s = .next t
  timeline : t.timeline q.aud = acceptReport s.clock.time (effectOf q s)
  syncIn : t.syncIn q.aud = { s.syncIn q.aud with capture := none }
  responded : Responded m rest .ok (rateClamped q.rate)
    (reportBody (effectOf q s) (pairingOf q s).paired (t.timeline q.aud)) s t
  unpaired : t.audCount q.aud .unpaired =
    if (pairingOf q s).counts = true then bump (s.audCount q.aud .unpaired)
    else s.audCount q.aud .unpaired
  strikes : (effectOf q s).struck = true →
    t.audCount q.aud .strikes = bump (s.audCount q.aud .strikes)
  glitch : (effectOf q s).outcome = .strike → t.cond .tlGlitch = ⟨true, .aud q.aud⟩
  quiet : (effectOf q s).outcome ≠ .jump →
    ChangesOnly (reportParts q s ++ [.cond .tlCoast, .cond .tlLost] ++ [.inbox, .outbox]) s t
  jumped : (effectOf q s).outcome = .jump → CueTableOk s → ∀ l, s.laneOf? q.aud = some l →
    JumpTold q.aud l q.pos s t ∧
      ChangesOnly (reportParts q s ++ jumpParts q.aud l ++ [.cond .tlCoast, .cond .tlLost]
        ++ [.inbox, .outbox]) s t

theorem not_mem_reportParts {q : ReportReq} {s : State} {p : Part} (h : p = .inbox ∨ p = .outbox) :
    p ∉ reportParts q s := by
  unfold reportParts
  obtain rfl | rfl := h <;> split_ifs <;> simp

/-- Taking the message out of the inbox changes nothing that a report reads. -/
theorem effectOf_withInbox (q : ReportReq) (s : State) (rest : List Msg) :
    effectOf q (s.withInbox rest) = effectOf q s := rfl

theorem pairingOf_withInbox (q : ReportReq) (s : State) (rest : List Msg) :
    pairingOf q (s.withInbox rest) = pairingOf q s := rfl

theorem reportParts_withInbox (q : ReportReq) (s : State) (rest : List Msg) :
    reportParts q (s.withInbox rest) = reportParts q s := by
  unfold reportParts
  rw [effectOf_withInbox, pairingOf_withInbox]

theorem JumpTold.of_inbox {a : Aud} {l : LaneId} {p : Nat} {s t : State} {rest : List Msg}
    (h : JumpTold a l p (s.withInbox rest) t) : JumpTold a l p s t := h.of_before rfl rfl rfl rfl

theorem JumpTold.answered {a : Aud} {l : LaneId} {p : Nat} {s t : State} (h : JumpTold a l p s t)
    (m : Msg) (res : Result) (c : Bool) (b : List Byte) :
    JumpTold a l p s (settle (placeResponse m res c b t)) := h

theorem reportDone_of_open {q : ReportReq} {m : Msg} {rest : List Msg} {s : State}
    (h : Taken .timelineReport m rest s) (hq : timelineReport? m.body = some q)
    (hopen : s.isOpen q.aud = true) : ∃ t, ReportDone q m rest s t := by
  have hact := actTimelineReport_open (q := q) (s := s.withInbox rest) hopen
  have htimeline := (reportTaken_timeline (s.withInbox rest) q q.aud).trans (if_pos rfl)
  have hsync := reportTaken_syncIn q (s.withInbox rest)
  have hlink : (reportTaken q (s.withInbox rest)).link = (s.withInbox rest).link := by simp
  have hunpaired := reportTaken_unpaired q (s.withInbox rest)
  have hstrikes := reportTaken_strikes (q := q) (s := s.withInbox rest)
  have hglitch := reportTaken_glitch (q := q) (s := s.withInbox rest)
  have hquiet := reportTaken_keeps_noJump (q := q) (s := s.withInbox rest)
  have htold {l : LaneId} := jumpTold_reportTaken (q := q) (s := s.withInbox rest) (l := l)
  have hjumped {l : LaneId} := reportTaken_keeps_jump (q := q) (s := s.withInbox rest) (l := l)
  rw [effectOf_withInbox] at hact htimeline hstrikes hglitch hquiet htold hjumped
  rw [pairingOf_withInbox] at hact hunpaired
  rw [reportParts_withInbox] at hquiet hjumped
  generalize reportTaken q (s.withInbox rest) = v at *
  refine ⟨settle (placeResponse m .ok (rateClamped q.rate)
    (reportBody (effectOf q s) (pairingOf q s).paired (v.timeline q.aud)) v), ?_⟩
  constructor
  case runs => exact (takeRequest_of_taken h _).trans (by rw [withForm_some hq, hact]; rfl)
  case timeline => exact htimeline
  case syncIn => exact hsync
  case responded =>
    exact responded_settle (congrArg Link.inbox hlink) (Eq.trans (congrArg Link.outbox hlink) rfl)
  case unpaired => exact hunpaired
  case strikes => exact hstrikes
  case glitch => exact hglitch
  case quiet =>
    exact fun hjump => (exec_accepted (exec_timelineReport s) h hq hact (hquiet hjump)
      (by simp [not_mem_reportParts]) (by simp [not_mem_reportParts])).2.1
  case jumped =>
    exact fun hjump hs l hl => ⟨(htold hs hl hjump).of_inbox.answered _ _ _ _,
      (exec_accepted (exec_timelineReport s) h hq hact (hjumped hs hl hjump)
        (by simp [not_mem_reportParts, jumpParts]) (by simp [not_mem_reportParts, jumpParts])).2.1⟩

theorem ChangesOnly.mono {ps qs : List Part} {s t : State} (h : ChangesOnly ps s t) (hsub : ps ⊆ qs) :
    ChangesOnly qs s t := ⟨fun p hp => h.1 p fun hmem => hp (hsub hmem), h.2⟩

/-! ### The response of a report (R184) -/

/-- The bytes of an offset that was compared, or of none. -/
def offsetBytes (e : Option Int) : List Byte :=
  optField 4 (e.map fun d => be32 (BitVec.ofInt 32 d).toNat)

/-- What an accepted report answers: its outcome, its pairing and its offset, and the Timeline after it. -/
theorem ReportDone.body {q : ReportReq} {m : Msg} {rest : List Msg} {s t : State}
    (h : ReportDone q m rest s t) :
    Responded m rest .ok (rateClamped q.rate)
      (be8 (outcomeCode (effectOf q s).outcome)
        ++ be8 ((if (pairingOf q s).paired then 1 else 0) + (if (s.timeline q.aud).gated then 2 else 0))
        ++ offsetBytes (effectOf q s).offset
        ++ be8 (t.timeline q.aud).strikes ++ be8 (tlStateCode (t.timeline q.aud).state)
        ++ [(t.timeline q.aud).epoch]) s t := by
  have hgated : (t.timeline q.aud).gated = (s.timeline q.aud).gated := by
    rw [h.timeline, acceptReport_gated]
  have hresp := h.responded
  unfold reportBody at hresp
  rw [hgated] at hresp
  exact hresp

/-! ### Reports by the Timeline's state (R30 to R38) -/

/-- An acquisition that lets the Timeline run (R30). -/
theorem effectOf_acquiresRunning {q : ReportReq} {s : State} (hkind : q.kind = .playing)
    (hgated : (s.timeline q.aud).gated = false)
    (h : (s.timeline q.aud).state = .acquiring ∨ (s.timeline q.aud).state = .stopped
      ∨ (s.timeline q.aud).state = .lost) :
    effectOf q s = ⟨{ s.timeline q.aud with
      state := .running, anchor := some ⟨(pairingOf q s).tRef, q.pos⟩, rate := reportRate q s
      strikes := 0, candidate := none, epoch := (s.timeline q.aud).epoch + 1
      lastKind := some .playing }, .acquired, none, false⟩ := by
  rw [effectOf_acquires (by simp [hkind]) h, acquire, if_pos (by simp [hkind, hgated]), hkind]

/-- An acquisition that holds the Timeline (R30). -/
theorem effectOf_acquiresHeld {q : ReportReq} {s : State} (hkind : q.kind ≠ .stopped)
    (hheld : q.kind = .paused ∨ (s.timeline q.aud).gated = true)
    (h : (s.timeline q.aud).state = .acquiring ∨ (s.timeline q.aud).state = .stopped
      ∨ (s.timeline q.aud).state = .lost) :
    effectOf q s = ⟨{ s.timeline q.aud with
      state := .held, frozen := some q.pos, rate := reportRate q s
      strikes := 0, candidate := none, epoch := (s.timeline q.aud).epoch + 1
      lastKind := some q.kind }, if q.kind = .paused then .held else .gated, none, false⟩ := by
  have hno : ¬((q.kind == .playing) = true ∧ (s.timeline q.aud).gated = false) := by
    obtain hk | hg := hheld
    · simp [hk]
    · simp [hg]
  rw [effectOf_acquires hkind h, acquire, if_neg hno]
  cases hk : q.kind with
  | stopped => exact absurd hk hkind
  | playing => rfl
  | paused => rfl

/-- The parts of a report that is neither a strike nor a jump. -/
def plainParts (a : Aud) : List Part :=
  [.sync a, .timeline a, .audCounter a .unpaired, .cond .tlCoast, .cond .tlLost, .inbox, .outbox]

/-- A report that is neither a strike nor a jump. -/
theorem ReportDone.plain {q : ReportReq} {m : Msg} {rest : List Msg} {s t : State}
    (h : ReportDone q m rest s t) {z : Timeline} {o : ReportOutcome} {e : Option Int}
    (heff : effectOf q s = ⟨z, o, e, false⟩) (hstrike : o ≠ .strike) (hjump : o ≠ .jump) :
    t.timeline q.aud = { z with lastAccepted := some s.clock.time }
      ∧ ChangesOnly (plainParts q.aud) s t := by
  refine ⟨?_, (h.quiet (by rw [heff]; exact hjump)).mono ?_⟩
  · rw [h.timeline, acceptReport, heff, if_neg hstrike]
  · unfold reportParts plainParts
    rw [heff, if_neg hstrike, if_neg Bool.false_ne_true]
    split_ifs <;> simp

/-- Settles O37. -/
theorem reportAcquiresTheTimeline : Obligations.ReportAcquiresTheTimeline := by
  intro m rest s q h hq hopen hkind hstate
  obtain ⟨t, hdone⟩ := reportDone_of_open h hq hopen
  have hbody := hdone.body
  rw [← pairingOf_eq s hkind]
  by_cases hrun : q.kind = .playing ∧ (s.timeline q.aud).gated = false
  · obtain ⟨hplaying, hfree⟩ := hrun
    have heff := effectOf_acquiresRunning hplaying hfree hstate
    obtain ⟨htl, hframe⟩ := hdone.plain heff (by simp) (by simp)
    refine ⟨t, hdone.runs, fun _ _ => htl, fun hheld => ?_, hdone.syncIn, ?_, hframe⟩
    · simp [hplaying, hfree] at hheld
    · rw [heff] at hbody
      rw [htl] at hbody ⊢
      have hcode : (if q.kind = .paused then 4 else if (s.timeline q.aud).gated = true then 6 else 0)
          = outcomeCode .acquired := by simp [hplaying, hfree, outcomeCode]
      rw [hcode]
      exact hbody
  · have hheld : q.kind = .paused ∨ (s.timeline q.aud).gated = true := by
      cases hk : q.kind <;> simp_all
    have heff := effectOf_acquiresHeld hkind hheld hstate
    obtain ⟨htl, hframe⟩ := hdone.plain heff (by split <;> simp) (by split <;> simp)
    refine ⟨t, hdone.runs, fun hplaying hfree => absurd ⟨hplaying, hfree⟩ hrun, fun _ => htl,
      hdone.syncIn, ?_, hframe⟩
    rw [heff] at hbody
    rw [htl] at hbody ⊢
    have hcode : outcomeCode (if q.kind = .paused then ReportOutcome.held else .gated)
        = if q.kind = .paused then 4 else if (s.timeline q.aud).gated = true then 6 else 0 := by
      by_cases hp : q.kind = .paused
      · simp [hp, outcomeCode]
      · simp [hp, outcomeCode, hheld.resolve_left hp]
    rw [hcode] at hbody
    exact hbody

end Sys2Proof.Machine
end


section
/-! PROOFS. Reports by the Timeline's state, and confirmed jumps (O38, O39). -/

namespace Sys2Proof.Machine

/-- A Timeline after an accepted report: its rate, the time and the kind of the report (R26, R28). -/
def reportAccepted (q : ReportReq) (s : State) (z : Timeline) : Timeline :=
  { z with rate := reportRate q s, lastAccepted := some s.clock.time, lastKind := some q.kind }

/-- An accepted report's answer and the emptied slot (R28, R29, R184). -/
def ReportAnswers (q : ReportReq) (m : Msg) (rest : List Msg) (s t : State) (code : Nat)
    (offset : List Byte) : Prop :=
  exec .timelineReport s = .next t ∧ t.syncIn q.aud = { s.syncIn q.aud with capture := none }
    ∧ ∃ pair : Bool, (pair = true ↔ q.kind ≠ .stopped ∧ ∃ c, PairsWith s q.aud c)
      ∧ Responded m rest .ok (rateClamped q.rate)
          (be8 code ++ be8 ((if pair then 1 else 0) + (if (s.timeline q.aud).gated then 2 else 0))
            ++ offset ++ be8 (t.timeline q.aud).strikes ++ be8 (tlStateCode (t.timeline q.aud).state)
            ++ [(t.timeline q.aud).epoch]) s t

theorem ReportDone.answers {q : ReportReq} {m : Msg} {rest : List Msg} {s t : State}
    (h : ReportDone q m rest s t) :
    ReportAnswers q m rest s t (outcomeCode (effectOf q s).outcome) (offsetBytes (effectOf q s).offset) :=
  ⟨h.runs, h.syncIn, (pairingOf q s).paired, pairingOf_paired_iff q s, h.body⟩

/-- A report within T_LOCK of where the Timeline stands (R31, R34, R35, R38). -/
def ReportNear (q : ReportReq) (m : Msg) (rest : List Msg) (s : State) (e : Int) (z : Timeline)
    (code : Nat) : Prop :=
  e.natAbs ≤ s.setting .tLock →
    ∃ t, ReportAnswers q m rest s t code (offsetBytes (some e))
      ∧ t.timeline q.aud = reportAccepted q s z ∧ ChangesOnly (plainParts q.aud) s t

/-- A report that is a jump because it lies further off than T_LOCK (R33 to R35, R38). -/
def ReportFar (q : ReportReq) (m : Msg) (rest : List Msg) (s : State) (e : Int) (z : Timeline) : Prop :=
  s.setting .tLock < e.natAbs → CueTableOk s → ∀ l, s.laneOf? q.aud = some l →
    ∃ t, ReportAnswers q m rest s t 3 (offsetBytes (some e)) ∧ JumpTold q.aud l q.pos s t
      ∧ t.timeline q.aud = reportAccepted q s { z with
          epoch := (s.timeline q.aud).epoch + 1, strikes := 0, candidate := none }
      ∧ ChangesOnly (plainParts q.aud ++ jumpParts q.aud l) s t

/-- A held strike (R32). -/
def ReportStrike (q : ReportReq) (m : Msg) (rest : List Msg) (s : State) (e : Int) (n : Nat)
    (cand : Int) : Prop :=
  ∃ t, ReportAnswers q m rest s t 2 (offsetBytes (some e))
    ∧ t.timeline q.aud =
        { s.timeline q.aud with strikes := n, candidate := some cand, lastKind := some .playing }
    ∧ t.cond .tlGlitch = ⟨true, .aud q.aud⟩
    ∧ t.audCount q.aud .strikes = bump (s.audCount q.aud .strikes)
    ∧ ChangesOnly (plainParts q.aud ++ [.audCounter q.aud .strikes, .cond .tlGlitch]) s t

/-- The parts of a jump that was no strike. -/
theorem jump_parts_subset {q : ReportReq} {s : State} {l : LaneId} {ps : List Part}
    (hstrike : (effectOf q s).outcome ≠ .strike)
    (hstruck : (effectOf q s).struck = true → .audCounter q.aud .strikes ∈ ps)
    (hplain : plainParts q.aud ++ jumpParts q.aud l ⊆ ps) :
    reportParts q s ++ jumpParts q.aud l ++ [.cond .tlCoast, .cond .tlLost] ++ [.inbox, .outbox]
      ⊆ ps := by
  intro p hp
  by_cases hps : p = .audCounter q.aud .strikes ∧ (effectOf q s).struck = true
  · rw [hps.1]
    exact hstruck hps.2
  · refine hplain ?_
    simp only [reportParts, if_neg hstrike, plainParts] at hp ⊢
    by_cases hst : (effectOf q s).struck = true
    · rw [if_pos hst] at hp
      split_ifs at hp <;> simp at hp ⊢ <;> tauto
    · rw [if_neg hst] at hp
      split_ifs at hp <;> simp at hp ⊢ <;> tauto

section

variable {q : ReportReq} {m : Msg} {rest : List Msg} {s : State}

theorem within_eq_true {e : Int} {n : Nat} (h : e.natAbs ≤ n) : within e n = true := decide_eq_true h

theorem within_eq_false {e : Int} {n : Nat} (h : n < e.natAbs) : within e n = false :=
  decide_eq_false (Nat.not_le.2 h)

/-- A report whose effect is a jump just when it lies further off than T_LOCK (R34, R35, R38). -/
theorem reportNear_far (h : Taken .timelineReport m rest s) (hq : timelineReport? m.body = some q)
    (hopen : s.isOpen q.aud = true) {z : Timeline} {o : ReportOutcome} {e : Int}
    (heff : effectOf q s = jumpOr (!within e (s.setting .tLock))
      { z with rate := reportRate q s, lastKind := some q.kind } o e)
    (hepoch : z.epoch = (s.timeline q.aud).epoch) (hstrike : o ≠ .strike) (hjump : o ≠ .jump) :
    ReportNear q m rest s e z (outcomeCode o) ∧ ReportFar q m rest s e z := by
  obtain ⟨t, hdone⟩ := reportDone_of_open h hq hopen
  have hanswers := hdone.answers
  refine ⟨fun hnear => ?_, fun hfar hcues l hl => ?_⟩
  · rw [within_eq_true hnear] at heff
    obtain ⟨htl, hframe⟩ := hdone.plain heff hstrike hjump
    rw [heff] at hanswers
    exact ⟨t, hanswers, htl, hframe⟩
  · rw [within_eq_false hfar] at heff
    have houtcome : (effectOf q s).outcome = .jump := by rw [heff]; rfl
    obtain ⟨htold, hframe⟩ := hdone.jumped houtcome hcues l hl
    have htl := hdone.timeline
    rw [heff] at hanswers htl
    refine ⟨t, hanswers, htold, ?_, hframe.mono (jump_parts_subset (by simp [houtcome]) ?_ (by simp))⟩
    · rw [htl, ← hepoch]
      rfl
    · rw [heff]
      exact fun hstruck => absurd hstruck Bool.false_ne_true

theorem reportNear_snaps (h : Taken .timelineReport m rest s) (hq : timelineReport? m.body = some q)
    (hopen : s.isOpen q.aud = true) {p : Anchor} {tRef : SiteTime} (hkind : q.kind = .playing)
    (hmoves : (s.timeline q.aud).state = .running ∨ (s.timeline q.aud).state = .coasting)
    (hp : (s.timeline q.aud).anchor = some p) (htRef : (pairingOf q s).tRef = tRef) :
    ReportNear q m rest s ((q.pos : Int) - (projectFrom p (s.timeline q.aud).rate tRef : Int))
      { s.timeline q.aud with
        state := .running, anchor := some ⟨tRef, q.pos⟩, strikes := 0, candidate := none } 1 := by
  intro hnear
  obtain ⟨t, hdone⟩ := reportDone_of_open h hq hopen
  have heff := effectOf_snaps hkind hmoves hp htRef hnear
  obtain ⟨htl, hframe⟩ := hdone.plain heff (by simp) (by simp)
  have hanswers := hdone.answers
  rw [heff] at hanswers
  exact ⟨t, hanswers, htl, hframe⟩

/-- A strike that confirms no jump is held (R32). -/
theorem reportStrike_of_effect (h : Taken .timelineReport m rest s)
    (hq : timelineReport? m.body = some q) (hopen : s.isOpen q.aud = true) (hkind : q.kind = .playing)
    {n : Nat} {e cand : Int} {moved : Timeline}
    (heff : effectOf q s = strikeOr (s.setting .jumpConfirm) n cand e moved
      { s.timeline q.aud with lastKind := some q.kind })
    (hn : n < s.setting .jumpConfirm) : ReportStrike q m rest s e n cand := by
  obtain ⟨t, hdone⟩ := reportDone_of_open h hq hopen
  rw [strikeOr, if_neg (Nat.not_le.2 hn)] at heff
  have hanswers := hdone.answers
  have hquiet := hdone.quiet
  have htl := hdone.timeline
  have hglitch := hdone.glitch
  have hcount := hdone.strikes
  rw [heff] at hanswers hquiet htl hglitch hcount
  refine ⟨t, hanswers, ?_, hglitch rfl, hcount rfl, (hquiet (by simp)).mono ?_⟩
  · rw [htl, hkind]
    rfl
  · unfold reportParts plainParts
    rw [heff]
    split_ifs <;> simp

/-- Reports in RUNNING and COASTING (R31, R32, R34). -/
theorem report_inMotion (h : Taken .timelineReport m rest s) (hq : timelineReport? m.body = some q)
    (hopen : s.isOpen q.aud = true) {tRef : SiteTime} (htRef : (pairingOf q s).tRef = tRef) (p : Anchor)
    (hmoves : (s.timeline q.aud).state = .running ∨ (s.timeline q.aud).state = .coasting)
    (hp : (s.timeline q.aud).anchor = some p) :
    let x := s.timeline q.aud
    let e : Int := (q.pos : Int) - (projectFrom p x.rate tRef : Int)
    (q.kind = .playing →
      ReportNear q m rest s e { x with
        state := .running, anchor := some ⟨tRef, q.pos⟩, strikes := 0, candidate := none } 1
      ∧ (s.setting .tLock < e.natAbs → ¬Agrees x (s.setting .tLock) e → 1 < s.setting .jumpConfirm →
          ReportStrike q m rest s e 1 e)
      ∧ ∀ c, s.setting .tLock < e.natAbs → Agrees x (s.setting .tLock) e → x.candidate = some c →
          x.strikes + 1 < s.setting .jumpConfirm → ReportStrike q m rest s e (x.strikes + 1) c)
    ∧ (q.kind = .paused →
      ReportNear q m rest s e
        { x with state := .held, frozen := some q.pos, anchor := none, strikes := 0 } 4
      ∧ ReportFar q m rest s e
        { x with state := .held, frozen := some q.pos, anchor := none, strikes := 0 }) := by
  intro x e
  refine ⟨fun hplay => ⟨reportNear_snaps h hq hopen hplay hmoves hp htRef,
      fun hfar hfresh => reportStrike_of_effect h hq hopen hplay
        (effectOf_strikesFresh hplay hmoves hp htRef hfar hfresh),
      fun c hfar hagrees hc => reportStrike_of_effect h hq hopen hplay
        (effectOf_strikesAgain hplay hmoves hp htRef hc hfar hagrees)⟩, fun hpause => ?_⟩
  exact reportNear_far (o := .held)
    (z := { x with state := .held, frozen := some q.pos, anchor := none, strikes := 0 }) h hq hopen
    (effectOf_pausedInMotion hpause hmoves hp htRef) rfl (by simp) (by simp)

/-- Reports in HELD (R35, R38). -/
theorem report_inHeld (h : Taken .timelineReport m rest s) (hq : timelineReport? m.body = some q)
    (hopen : s.isOpen q.aud = true) {tRef : SiteTime} (htRef : (pairingOf q s).tRef = tRef) (p : Nat)
    (hheld : (s.timeline q.aud).state = .held) (hp : (s.timeline q.aud).frozen = some p) :
    let x := s.timeline q.aud
    let e : Int := (q.pos : Int) - (p : Int)
    let resumed : Timeline :=
      { x with state := .running, anchor := some ⟨tRef, q.pos⟩, frozen := none, strikes := 0 }
    let refined : Timeline := { x with frozen := some q.pos }
    (q.kind = .playing → x.gated = false →
      ReportNear q m rest s e resumed 1 ∧ ReportFar q m rest s e resumed)
    ∧ (q.kind = .playing → x.gated = true →
      ReportNear q m rest s e refined 6 ∧ ReportFar q m rest s e refined)
    ∧ (q.kind = .paused →
      ReportNear q m rest s e refined 4 ∧ ReportFar q m rest s e refined) := by
  intro x e resumed refined
  refine ⟨fun hplay hfree => ?_, fun hplay hgated => ?_, fun hpause => ?_⟩
  · exact reportNear_far (o := .snapped) (z := resumed) h hq hopen
      (effectOf_resumes hplay hheld hp hfree htRef) rfl (by simp) (by simp)
  · exact reportNear_far (o := .gated) (z := refined) h hq hopen
      (effectOf_refinesGated hplay hheld hp hgated) rfl (by simp) (by simp)
  · exact reportNear_far (o := .held) (z := refined) h hq hopen
      (effectOf_pausedInHeld hpause hheld hp) rfl (by simp) (by simp)

end

/-- Settles O38. -/
theorem reportActsByTheState : Obligations.ReportActsByTheState := by
  intro m rest s h
  refine ⟨fun hbad => exec_badForm (exec_timelineReport s) h hbad, fun q hq =>
    ⟨fun hclosed => exec_refused (exec_timelineReport s) h hq (actTimelineReport_closed hclosed),
      fun hopen => ?_⟩⟩
  intro a x y rate tLock paired accepted answers off plain near far strike
  have hnear : near = ReportNear q m rest s := rfl
  have hfar : far = ReportFar q m rest s := rfl
  have hstrike : strike = ReportStrike q m rest s := rfl
  clear_value near far strike
  subst hnear hfar hstrike
  refine ⟨fun hstop _ => ?_, fun hkind => ⟨fun t ht => ?_, fun tRef hr => ?_⟩⟩
  · obtain ⟨t, hdone⟩ := reportDone_of_open h hq hopen
    have heff := effectOf_stopped s hstop
    obtain ⟨htl, -⟩ := hdone.plain heff (by simp) (by simp)
    have hanswers := hdone.answers
    have hquiet := hdone.quiet
    rw [heff] at hanswers hquiet
    refine ⟨t, hanswers, htl, (hquiet (by simp)).mono ?_⟩
    have hcounts : (pairingOf q s).counts = false := by simp [pairingOf, hstop]
    unfold reportParts
    rw [heff, hcounts]
    simp [a]
  · obtain ⟨u, hdone⟩ := reportDone_of_open h hq hopen
    have htu : t = u := Host.Outcome.next.inj (ht.symm.trans hdone.runs)
    rw [htu, hdone.unpaired]
    by_cases hcounts : (pairingOf q s).counts = true
    · exact (if_pos hcounts).trans (if_neg ((pairingOf_counts s hkind).1 hcounts)).symm
    · exact (if_neg hcounts).trans
        (if_pos (not_not.1 (mt (pairingOf_counts s hkind).2 hcounts))).symm
  · have htRef := pairingOf_tRef hkind hr
    exact ⟨report_inMotion h hq hopen htRef, report_inHeld h hq hopen htRef⟩

/-- A strike that brings the strike count to JUMP_CONFIRM is a jump (R32, R33). -/
theorem effectOf_confirms {q : ReportReq} {s : State} {p : Anchor} (hkind : q.kind = .playing)
    (hmoves : (s.timeline q.aud).state = .running ∨ (s.timeline q.aud).state = .coasting)
    (hp : (s.timeline q.aud).anchor = some p) :
    let tRef := (pairingOf q s).tRef
    let e : Int := (q.pos : Int) - (projectFrom p (s.timeline q.aud).rate tRef : Int)
    s.setting .tLock < e.natAbs →
    (s.setting .jumpConfirm ≤ 1 ∨
      (s.timeline q.aud).strikes ≠ 0 ∧ s.setting .jumpConfirm ≤ (s.timeline q.aud).strikes + 1 ∧
        ∃ c, (s.timeline q.aud).candidate = some c ∧ (e - c).natAbs ≤ s.setting .tLock) →
    effectOf q s = ⟨jumpIf true (movedTo q tRef s), .jump, some e, true⟩ := by
  intro tRef e hfar hconfirm
  by_cases hagrees : Agrees (s.timeline q.aud) (s.setting .tLock) e
  · obtain ⟨-, c, hc, -⟩ := id hagrees
    rw [effectOf_strikesAgain hkind hmoves hp rfl hc hfar hagrees]
    refine if_pos ?_
    obtain hone | ⟨-, hmore, -⟩ := hconfirm
    · omega
    · exact hmore
  · rw [effectOf_strikesFresh hkind hmoves hp rfl hfar hagrees]
    refine if_pos (hconfirm.resolve_right fun ⟨hz, _, hc⟩ => hagrees (And.intro hz hc))

/-- Settles O39. -/
theorem confirmedJumpRelaunchesTheCues : Obligations.ConfirmedJumpRelaunchesTheCues := by
  intro m rest s q p l h hq hl hkind hcues hmoves hp
  have hmoving : q.kind ≠ .stopped := by simp [hkind]
  rw [← pairingOf_eq s hmoving]
  intro x tRef e hfar hconfirm
  obtain ⟨t, hdone⟩ := reportDone_of_open h hq (by simp [State.isOpen_eq_laneOf?, hl])
  have heff := effectOf_confirms hkind hmoves hp hfar hconfirm
  have houtcome : (effectOf q s).outcome = .jump := by rw [heff]
  obtain ⟨htold, hframe⟩ := hdone.jumped houtcome hcues l hl
  have htl := hdone.timeline
  have hbody := hdone.body
  have hcount := hdone.strikes
  rw [heff] at htl hbody hcount
  have htimeline : t.timeline q.aud = { x with
      state := .running, anchor := some ⟨tRef, q.pos⟩
      rate := (q.rate.map clampRate).getD x.rate, strikes := 0, candidate := none
      epoch := x.epoch + 1, lastAccepted := some s.clock.time, lastKind := some .playing } := by
    rw [htl, ← hkind]
    rfl
  rw [htimeline] at hbody
  exact ⟨t, hdone.runs, hbody, htimeline, htold, hcount rfl,
    hframe.mono (jump_parts_subset (by simp [houtcome]) (fun _ => by simp)
      (by simp [plainParts, jumpParts]))⟩

end Sys2Proof.Machine
end


section
/-! PROOFS. The ASK (O59). -/

namespace Sys2Proof.Machine

/-! ### The validation (R118) -/

theorem mayAsk_iff (x : RxState) : mayAsk x = true ↔ x = .joined ∨ x = .silent ∨ x = .moving := by
  cases x <;> simp [mayAsk]

theorem askValid_iff (l : LaneId) (m : AskMsg) (s : State) :
    askValid l m s = true ↔ ∃ r, s.rx? m.addr = some r
      ∧ (r.state = .joined ∨ r.state = .silent ∨ r.state = .moving)
      ∧ m.check = BitVec.ofNat 8 r.serial ∧ m.aud = r.aud ∧ m.track = r.track
      ∧ (s.track? m.aud m.track).isSome = true ∧ s.laneOf? m.aud = some l
      ∧ m.epoch = (s.timeline m.aud).epoch := by
  unfold askValid
  cases s.rx? m.addr with
  | none => simp
  | some r => simp [mayAsk_iff, serialCheck, openOn_iff, and_assoc]

theorem exec_ask {l : LaneId} {msg : List Byte} {m : AskMsg} {s : State} (hphase : s.phase = .ready)
    (hm : ask? msg = some m) :
    exec (.ask l msg) s =
      done (if askValid l m s then takeAsk l m.aud m.track m.num (s.lane l).frameNo s
        else s.countLane l .asksIgnored) := by
  simp [exec, execAsk, hm, hphase]

/-! ### The rows of R122's table -/

section

variable {l : LaneId} {a : Aud} {t : Track} {n : Nat} {f : FrameNo} {s : State} {e : Repair}

theorem takeAsk_crossed (h : (s.lane l).repairs.find? (fun e => e.names a t n) = some e)
    (hstate : e.state = .holding) : takeAsk l a t n f s = s.countLane l .asksCrossed := by
  unfold takeAsk
  dsimp only
  rw [h]
  exact if_pos hstate

theorem takeAsk_merged (h : (s.lane l).repairs.find? (fun e => e.names a t n) = some e)
    (hstate : e.state ≠ .holding) :
    takeAsk l a t n f s = s.withLane l { s.lane l with
      repairs := (s.lane l).repairs.map fun e =>
        if e.names a t n then { e with asks := bumpAsks e.asks } else e } := by
  unfold takeAsk
  dsimp only
  rw [h]
  exact if_neg hstate

/-- A CONTENT entry for the cue, or a GONE entry when it is absent, joins the queue (R123). -/
def askJoins (s : State) (l : LaneId) (k : RepairKind) (rev : Option (BitVec 8)) (a : Aud) (t : Track)
    (n : Nat) : State :=
  if Config.repairSlots ≤ (s.lane l).repairs.length then
    (s.latch .repairDropped (.lane l)).countLane l .asksDropped
  else s.appendRepair l (newRepair k rev a t n (s.lane l).frameNo)

theorem takeAsk_new (h : ∀ e ∈ (s.lane l).repairs, ¬e.names a t n = true) :
    takeAsk l a t n (s.lane l).frameNo s =
      match s.findCue a t n with
      | some c =>
        if c.delivery = .sent then askJoins s l .content (some c.rev) a t n
        else s.countLane l .asksIgnored
      | none => askJoins s l .gone none a t n := by
  have hfind : (s.lane l).repairs.find? (fun e => e.names a t n) = none := List.find?_eq_none.2 h
  unfold takeAsk
  dsimp only
  rw [hfind]
  cases s.findCue a t n <;> rfl

theorem takeAsk_sent {c : Cue} (h : ∀ e ∈ (s.lane l).repairs, ¬e.names a t n = true)
    (hc : s.findCue a t n = some c) (hsent : c.delivery = .sent) :
    takeAsk l a t n (s.lane l).frameNo s = askJoins s l .content (some c.rev) a t n := by
  rw [takeAsk_new h, hc]
  exact if_pos hsent

theorem takeAsk_absent (h : ∀ e ∈ (s.lane l).repairs, ¬e.names a t n = true)
    (hc : s.findCue a t n = none) :
    takeAsk l a t n (s.lane l).frameNo s = askJoins s l .gone none a t n := by
  rw [takeAsk_new h, hc]

theorem askJoins_dropped {k : RepairKind} {rev : Option (BitVec 8)}
    (h : 32 ≤ (s.lane l).repairs.length) :
    askJoins s l k rev a t n = (s.latch .repairDropped (.lane l)).countLane l .asksDropped := if_pos h

theorem askJoins_created {k : RepairKind} {rev : Option (BitVec 8)}
    (h : (s.lane l).repairs.length < 32) :
    askJoins s l k rev a t n = s.appendRepair l (newRepair k rev a t n (s.lane l).frameNo) :=
  if_neg (Nat.not_le.2 h)

/-- An ASK that the full queue drops is latched and counted (R123). -/
theorem askDropped_spec (l : LaneId) (s : State) :
    (settle ((s.latch .repairDropped (.lane l)).countLane l .asksDropped)).cond .repairDropped
        = ⟨true, .lane l⟩
      ∧ (settle ((s.latch .repairDropped (.lane l)).countLane l .asksDropped)).laneCount l .asksDropped
          = bump (s.laneCount l .asksDropped)
      ∧ ChangesOnly [.cond .repairDropped, .laneCounter l .asksDropped] s
          (settle ((s.latch .repairDropped (.lane l)).countLane l .asksDropped)) := by
  refine ⟨?_, laneCount_countLane_self _ l .asksDropped, ?_⟩
  · exact Eq.trans (countLane_keeps _ l .asksDropped (.cond .repairDropped) (by simp))
      (State.cond_withCond_self _ _ _)
  · exact (((latch_keeps _ _ _).mono (by simp)).trans
      ((countLane_keeps _ _ _).mono (by simp))).changesOnly

/-- An ASK that makes an entry puts it at the tail of the queue (R123). -/
theorem askCreated_spec (l : LaneId) (s : State) (e : Repair) :
    (settle (s.appendRepair l e)).lane l = { s.lane l with repairs := (s.lane l).repairs ++ [e] }
      ∧ ChangesOnly [.lane l] s (settle (s.appendRepair l e)) :=
  ⟨State.lane_withLane_self _ _ _, (withLane_keeps _ _ _).changesOnly⟩

/-- Of entries that stand once for each cue, the one found is the one that stands (R120). -/
theorem find?_names (hnodup : ((s.lane l).repairs.map Repair.key).Nodup) (he : e ∈ (s.lane l).repairs)
    (hnames : e.key = (a, t, n)) :
    (s.lane l).repairs.find? (fun e => e.names a t n) = some e := by
  cases hfind : (s.lane l).repairs.find? (fun e => e.names a t n) with
  | none => exact absurd ((e.names_iff a t n).2 hnames) (List.find?_eq_none.1 hfind e he)
  | some d =>
    have hd : d.key = (a, t, n) := (d.names_iff a t n).1 (List.find?_some (p := fun e : Repair => e.names a t n) hfind)
    rw [List.inj_on_of_nodup_map hnodup (List.mem_of_find?_eq_some hfind) he (hd.trans hnames.symm)]

end

/-- Settles O59. -/
theorem askReachesTheRepairQueue : Obligations.AskReachesTheRepairQueue := by
  intro l s msg m hphase hm x names valid ignored
  have hexec := exec_ask (l := l) hphase hm
  have hvalid : valid ↔ askValid l m s = true := (askValid_iff l m s).symm
  have hignored : ignored (settle (s.countLane l .asksIgnored)) :=
    ⟨laneCount_countLane_self s l .asksIgnored, (countLane_keeps s l .asksIgnored).changesOnly⟩
  by_cases hok : askValid l m s = true
  · rw [if_pos hok] at hexec
    refine ⟨_, hexec, fun hno => absurd (hvalid.2 hok) hno, fun _ hnodup e he hnames => ?_,
      fun _ hnew => ?_⟩
    · have hkey : e.key = (m.aud, m.track, m.num) := by
        obtain ⟨ha, ht, hn⟩ := hnames
        simp [Repair.key, ha, ht, hn]
      have hfind := find?_names hnodup he hkey
      refine ⟨fun hholding => ?_, fun hholding => ?_⟩
      · rw [takeAsk_crossed hfind hholding]
        exact ⟨laneCount_countLane_self s l .asksCrossed, (countLane_keeps s l .asksCrossed).changesOnly⟩
      · rw [takeAsk_merged hfind hholding]
        refine ⟨(withLane_keeps _ _ _).changesOnly, (State.lane_withLane_self _ _ _).trans ?_⟩
        refine congrArg (fun rs => ({ x with repairs := rs } : Lane)) (List.map_congr_left fun d hd => ?_)
        by_cases hde : d = e
        · rw [if_pos hde, hde, if_pos ((e.names_iff ..).2 hkey)]
          rfl
        · rw [if_neg hde, if_neg fun h => hde ?_]
          exact List.inj_on_of_nodup_map hnodup hd he (((d.names_iff ..).1 h).trans hkey.symm)
    · have hnone : ∀ e ∈ (s.lane l).repairs, ¬e.names m.aud m.track m.num = true := by
        intro e he hnames
        refine hnew e he ?_
        simpa [Repair.key, names, Prod.ext_iff] using (e.names_iff ..).1 hnames
      intro dropped created
      refine ⟨fun c hc => ⟨fun hunsent => ?_, fun hsent hfull => ?_, fun hsent hroom => ?_⟩,
        fun hc => ⟨fun hfull => ?_, fun hroom => ?_⟩⟩
      · have hjoins : takeAsk l m.aud m.track m.num (s.lane l).frameNo s = s.countLane l .asksIgnored := by
          rw [takeAsk_new hnone, hc]
          exact if_neg hunsent
        rw [hjoins]
        exact hignored
      · simp only [dropped, takeAsk_sent hnone hc hsent, askJoins_dropped hfull]
        exact askDropped_spec l s
      · simp only [created, takeAsk_sent hnone hc hsent, askJoins_created hroom]
        exact askCreated_spec l s _
      · simp only [dropped, takeAsk_absent hnone hc, askJoins_dropped hfull]
        exact askDropped_spec l s
      · simp only [created, takeAsk_absent hnone hc, askJoins_created hroom]
        exact askCreated_spec l s _
  · rw [if_neg hok] at hexec
    exact ⟨_, hexec, fun _ => hignored, fun hyes => absurd (hvalid.1 hyes) hok,
      fun hyes => absurd (hvalid.1 hyes) hok⟩

end Sys2Proof.Machine
end


section
/-! SUPPORT. A notice is placed, renewed or dropped; a change of one track's lineup. -/

namespace Sys2Proof.Machine

/-! ### Notices (R108) -/

/-- A notice for an item stands in a lane's list (R108). -/
def NoticeStands (x : Lane) (i : NoticeItem) : Prop := ∃ n ∈ x.notices, n.item = i

/-- A lane whose notice for an item has its airings renewed in place (R108). -/
def Lane.renewed (x : Lane) (i : NoticeItem) (left : Nat) : Lane :=
  { x with notices := x.notices.map fun n => if n.item = i then { n with left := left } else n }

theorem any_item_iff (x : Lane) (i : NoticeItem) :
    (x.notices.any fun n => n.item == i) = true ↔ NoticeStands x i := by
  simp [NoticeStands]

theorem addNotice_renewed {s : State} {l : LaneId} {i : NoticeItem} (h : NoticeStands (s.lane l) i) :
    s.addNotice l i
      = (s.withLane l ((s.lane l).renewed i (s.setting .noticeRepeat)), .placed) := by
  have hlane : (s.lane l).renewed i (s.setting .noticeRepeat) = { s.lane l with
      notices := (s.lane l).notices.map fun n =>
        if n.item == i then { n with left := s.setting .noticeRepeat } else n } := by
    simp [Lane.renewed]
  rw [hlane]
  exact if_pos ((any_item_iff _ _).2 h)

theorem addNotice_dropped {s : State} {l : LaneId} {i : NoticeItem} (h : ¬NoticeStands (s.lane l) i)
    (hfull : 32 ≤ (s.lane l).notices.length) :
    s.addNotice l i = (s.latch .noticeDropped (.lane l), .dropped) :=
  (if_neg (mt (any_item_iff _ _).1 h)).trans (if_pos hfull)

theorem addNotice_appended {s : State} {l : LaneId} {i : NoticeItem} (h : ¬NoticeStands (s.lane l) i)
    (hroom : (s.lane l).notices.length < 32) :
    s.addNotice l i = (s.withLane l { s.lane l with
      notices := (s.lane l).notices ++ [⟨i, s.setting .noticeRepeat⟩] }, .placed) :=
  (if_neg (mt (any_item_iff _ _).1 h)).trans (if_neg (Nat.not_le.2 hroom))

/-- What placing a notice does to its lane and to NOTICE_DROPPED, by its outcome (R108). -/
structure NoticeAdded (s t : State) (l : LaneId) (i : NoticeItem) (out : NoticeOutcome) : Prop where
  needed : out ≠ .notNeeded
  dropped : out = .dropped ↔ 32 ≤ (s.lane l).notices.length ∧ ∀ n ∈ (s.lane l).notices, n.item ≠ i
  lane : t.lane l = { s.lane l with notices := (t.lane l).notices }
  renewed : NoticeStands (s.lane l) i → t.lane l = (s.lane l).renewed i (s.setting .noticeRepeat)
  appended : ¬NoticeStands (s.lane l) i → (s.lane l).notices.length < 32 →
    t.lane l = { s.lane l with notices := (s.lane l).notices ++ [⟨i, s.setting .noticeRepeat⟩] }
  stays : out = .dropped → t.lane l = s.lane l
  latched : out = .dropped → t.cond .noticeDropped = ⟨true, .lane l⟩
  unlatched : out ≠ .dropped → t.cond .noticeDropped = s.cond .noticeDropped
  keeps : Keeps [.lane l, .cond .noticeDropped] s t

theorem noticeAdded (s : State) (l : LaneId) (i : NoticeItem) :
    NoticeAdded s (s.addNotice l i).1 l i (s.addNotice l i).2 := by
  by_cases hstands : NoticeStands (s.lane l) i
  · have hnone : ¬(32 ≤ (s.lane l).notices.length ∧ ∀ n ∈ (s.lane l).notices, n.item ≠ i) := by
      obtain ⟨n, hn, hitem⟩ := id hstands
      exact fun ⟨_, hall⟩ => hall n hn hitem
    rw [addNotice_renewed hstands]
    exact {
      needed := by simp
      dropped := ⟨fun h => by simp at h, fun h => absurd h hnone⟩
      lane := by rw [State.lane_withLane_self]; rfl
      renewed := fun _ => State.lane_withLane_self _ _ _
      appended := fun h => absurd hstands h
      stays := fun h => by simp at h
      latched := fun h => by simp at h
      unlatched := fun _ => rfl
      keeps := (withLane_keeps _ _ _).mono (by simp) }
  · have hall : ∀ n ∈ (s.lane l).notices, n.item ≠ i := fun n hn hitem => hstands ⟨n, hn, hitem⟩
    by_cases hfull : 32 ≤ (s.lane l).notices.length
    · rw [addNotice_dropped hstands hfull]
      exact {
        needed := by simp
        dropped := ⟨fun _ => ⟨hfull, hall⟩, fun _ => rfl⟩
        lane := rfl
        renewed := fun h => absurd h hstands
        appended := fun _ h => absurd hfull (Nat.not_le.2 h)
        stays := fun _ => rfl
        latched := fun _ => State.cond_withCond_self _ _ _
        unlatched := fun h => absurd rfl h
        keeps := (latch_keeps _ _ _).mono (by simp) }
    · rw [addNotice_appended hstands (Nat.lt_of_not_le hfull)]
      exact {
        needed := by simp
        dropped := ⟨fun h => by simp at h, fun h => absurd h.1 hfull⟩
        lane := by rw [State.lane_withLane_self]
        renewed := fun h => absurd h hstands
        appended := fun _ _ => State.lane_withLane_self _ _ _
        stays := fun h => by simp at h
        latched := fun h => by simp at h
        unlatched := fun _ => rfl
        keeps := (withLane_keeps _ _ _).mono (by simp) }

/-! ### One track's lineup (R12, R48) -/

theorem State.track?_modCueCount (s : State) (a b : Aud) (u : Track) (f : Nat → Nat) :
    (s.modCueCount a f).track? b u = s.track? b u := by
  simp only [State.track?, State.theShow?_modCueCount]
  split
  · next h =>
    subst h
    cases s.theShow? b <;> rfl
  · rfl

theorem State.laneOf?_congr {s t : State} (h : t.directory = s.directory) (a : Aud) :
    t.laneOf? a = s.laneOf? a := by
  rw [State.laneOf?, State.theShow?, h, State.laneOf?, State.theShow?]

theorem State.cueCount_congr {s t : State} (h : t.directory = s.directory) (a : Aud) :
    t.cueCount a = s.cueCount a := by
  rw [State.cueCount, State.theShow?, h, State.cueCount, State.theShow?]

theorem State.isOpen_congr {s t : State} (h : t.directory = s.directory) (a : Aud) :
    t.isOpen a = s.isOpen a := by
  rw [State.isOpen_eq_laneOf?, State.laneOf?_congr h, State.isOpen_eq_laneOf?]

theorem State.laneOf?_modCueCount (s : State) (a b : Aud) (f : Nat → Nat) :
    (s.modCueCount a f).laneOf? b = s.laneOf? b := by
  simp only [State.laneOf?, State.theShow?_modCueCount]
  split
  · next h =>
    subst h
    cases s.theShow? b <;> rfl
  · rfl

theorem State.cueCount_modCueCount {s : State} {a : Aud} (h : s.isOpen a = true) (f : Nat → Nat) :
    (s.modCueCount a f).cueCount a = f (s.cueCount a) := by
  rw [State.isOpen] at h
  obtain ⟨w, hw⟩ := Option.isSome_iff_exists.1 h
  simp [State.cueCount, State.theShow?_modCueCount, hw]

/-- A change of one track's lineup alone (R48). -/
theorem lineupOnly_of_track? {s t : State} {a : Aud} {u : Track} {g : List Nat → List Nat}
    (hlane : t.laneOf? a = s.laneOf? a)
    (htrack : ∀ v, t.track? a v = (s.track? a v).map fun w =>
      if v = u then { w with lineup := g w.lineup } else w) :
    LineupOnly a u s t := by
  refine ⟨hlane, fun v => ?_⟩
  rw [htrack v]
  cases hv : s.track? a v with
  | none => rfl
  | some w =>
    by_cases hvu : v = u
    · subst hvu
      have hlineup : t.lineup a v = g w.lineup := by
        simp [State.lineup, htrack v, hv]
      simp [hlineup]
    · simp [hvu]

theorem LineupOnly.of_directory {a : Aud} {u : Track} {s s' t : State} (h : LineupOnly a u s' t)
    (hdir : s'.directory = s.directory) : LineupOnly a u s t := by
  obtain ⟨hlane, htrack⟩ := h
  refine ⟨hlane.trans (State.laneOf?_congr hdir a), fun v => (htrack v).trans ?_⟩
  rw [State.track?, State.theShow?, hdir, State.track?, State.theShow?]

/-- A lineup change of a track, as `LineupOnly` puts it. -/
theorem State.track?_modTrack_lineup (s : State) (a : Aud) (u v : Track) (g : List Nat → List Nat) :
    (s.modTrack a u fun r => { r with lineup := g r.lineup }).track? a v
      = (s.track? a v).map fun w => if v = u then { w with lineup := g w.lineup } else w := by
  rw [State.track?_modTrack]
  by_cases hv : v = u
  · subst hv
    simp
  · simp [hv]

theorem poolLow_judgePool (s : State) (w : CondRec) :
    ((s.judgePool w).cond .poolLow).on = decide (s.table.free.length < s.setting .poolLowMark) := by
  unfold State.judgePool
  rw [State.cond_judge_self]

/-- The lineup of a freed cue's track loses its slot (R48). -/
theorem outOfTable_track? (s : State) (c : Cue) (v : Track) :
    (outOfTable c s).track? c.aud v = (s.track? c.aud v).map fun w =>
      if v = c.track then { w with lineup := w.lineup.filter fun x => x != c.slot } else w := by
  unfold outOfTable State.dropFromLineup
  dsimp only
  rw [State.track?_modCueCount]
  exact State.track?_modTrack_lineup s c.aud c.track v fun ks => ks.filter fun x => x != c.slot

theorem outOfTable_lineup (s : State) (c : Cue) :
    (outOfTable c s).lineup c.aud c.track
      = (s.lineup c.aud c.track).filter fun x => x != c.slot := by
  unfold State.lineup
  rw [outOfTable_track?]
  cases s.track? c.aud c.track <;> simp

theorem outOfTable_cueCount {s : State} {c : Cue} (h : s.isOpen c.aud = true) :
    (outOfTable c s).cueCount c.aud = s.cueCount c.aud - 1 := by
  unfold outOfTable State.dropFromLineup
  dsimp only
  rw [State.cueCount_modCueCount]
  · exact congrArg (· - 1) (State.cueCount_modTrack s c.aud c.aud c.track _)
  · rw [State.isOpen_eq_laneOf?] at h ⊢
    exact (congrArg Option.isSome (State.laneOf?_modTrack s c.aud c.aud c.track _)).trans h

/-- A freed cue's show: its track's lineup loses the slot and its cue count falls by 1 (R12, R48). -/
theorem freeCue_show {s : State} {c : Cue} (h : s.isOpen c.aud = true) :
    (s.freeCue c).cueCount c.aud = s.cueCount c.aud - 1
      ∧ (s.freeCue c).lineup c.aud c.track
          = (s.lineup c.aud c.track).filter (fun x => x != c.slot)
      ∧ LineupOnly c.aud c.track s (s.freeCue c) := by
  have hdir := State.freeCue_directory s c
  have hshow : (s.freeCue c).theShow? c.aud = (outOfTable c s).theShow? c.aud := by
    rw [State.theShow?, hdir, State.theShow?]
  have htrack (v : Track) : (s.freeCue c).track? c.aud v = (outOfTable c s).track? c.aud v := by
    rw [State.track?, hshow, State.track?]
  refine ⟨?_, (State.lineup_congr hdir c.aud c.track).trans (outOfTable_lineup s c),
    lineupOnly_of_track? (freeCue_laneOf? s c c.aud)
      fun v => (htrack v).trans (outOfTable_track? s c v)⟩
  rw [← outOfTable_cueCount h, State.cueCount, hshow, State.cueCount]

end Sys2Proof.Machine
end


section
/-! PROOFS. CUE_WITHDRAW (O46). -/

namespace Sys2Proof.Machine

theorem exec_cueWithdraw (s : State) :
    exec .cueWithdraw s = takeRequest .cueWithdraw (withForm cueWithdraw? actCueWithdraw) s := rfl

theorem withdrawNotice_notNeeded {s : State} {c : Cue}
    (h : c.delivery = .waiting ∨ c.phase = .retained) : withdrawNotice c s = (s, .notNeeded) := by
  unfold withdrawNotice
  rw [if_neg]
  rintro ⟨hdelivery, hphase⟩
  exact h.elim hdelivery hphase

theorem withdrawNotice_needed {s : State} {c : Cue} {l : LaneId} (hl : s.laneOf? c.aud = some l)
    (hdelivery : c.delivery ≠ .waiting) (hphase : c.phase ≠ .retained) :
    withdrawNotice c s = s.addNotice l (.withdraw c.aud c.track c.num) := by
  unfold withdrawNotice
  rw [if_pos ⟨hdelivery, hphase⟩, hl]

/-- A withdrawal's notice: not needed, or placed as any notice is (R62, R108). -/
theorem withdrawNotice_cases {s : State} {c : Cue} {l : LaneId} (hl : s.laneOf? c.aud = some l) :
    (c.delivery = .waiting ∨ c.phase = .retained) ∧ withdrawNotice c s = (s, .notNeeded)
      ∨ (c.delivery ≠ .waiting ∧ c.phase ≠ .retained)
        ∧ NoticeAdded s (withdrawNotice c s).1 l (.withdraw c.aud c.track c.num)
            (withdrawNotice c s).2 := by
  by_cases h : c.delivery = .waiting ∨ c.phase = .retained
  · exact .inl ⟨h, withdrawNotice_notNeeded h⟩
  · obtain ⟨hdelivery, hphase⟩ := not_or.1 h
    refine .inr ⟨⟨hdelivery, hphase⟩, ?_⟩
    rw [withdrawNotice_needed hl hdelivery hphase]
    exact noticeAdded s l _

theorem withdrawNotice_keeps {s : State} {c : Cue} {l : LaneId} (hl : s.laneOf? c.aud = some l) :
    Keeps [.lane l, .cond .noticeDropped] s (withdrawNotice c s).1
      ∧ ((withdrawNotice c s).1.lane l)
          = { s.lane l with notices := ((withdrawNotice c s).1.lane l).notices } := by
  obtain ⟨-, h⟩ | ⟨-, h⟩ := withdrawNotice_cases hl
  · rw [h]
    exact ⟨.refl _ _, rfl⟩
  · exact ⟨h.keeps, h.lane⟩

section

variable {s : State} {c : Cue} {l : LaneId}

theorem withdrawNotice_directory (s : State) (c : Cue) :
    (withdrawNotice c s).1.directory = s.directory ∧ (withdrawNotice c s).1.table = s.table := by
  simp

/-- The state of a withdrawal before the cue is freed. -/
theorem withdrawCue_eq (hl : s.laneOf? c.aud = some l) :
    withdrawCue c s = ((withdrawNotice c s).1.withLane l { (withdrawNotice c s).1.lane l with
      repairs := (s.lane l).repairs.map fun e =>
        if e.names c.aud c.track c.num then e.turnGone else e }).freeCue c := by
  obtain ⟨hdir, -⟩ := withdrawNotice_directory s c
  have hl' : (withdrawNotice c s).1.laneOf? c.aud = some l := by
    rw [State.laneOf?, State.theShow?, hdir]
    exact hl
  have hrepairs : ((withdrawNotice c s).1.lane l).repairs = (s.lane l).repairs := by
    rw [(withdrawNotice_keeps hl).2]
  unfold withdrawCue
  rw [turnRepairsGone_of_open hl', hrepairs]

theorem withdrawCue_changes (hl : s.laneOf? c.aud = some l) :
    Keeps [.show_ c.aud, .cues, .freeBlocks, .lane l, .cond .noticeDropped, .cond .poolLow] s
      (withdrawCue c s) := by
  rw [withdrawCue_eq hl]
  refine ((withdrawNotice_keeps hl).1.mono (by simp)).trans
    (((withLane_keeps _ l _).mono (by simp)).trans ((freeCue_changes (l := l) ?_).mono (by simp)))
  exact (State.laneOf?_congr (withdrawNotice_directory s c).1 c.aud).trans hl

theorem lane_withdrawCue (hl : s.laneOf? c.aud = some l) :
    (withdrawCue c s).lane l = { (s.lane l).lessSlots fun k => k == c.slot with
      repairs := (s.lane l).repairs.map fun e =>
        if e.names c.aud c.track c.num then e.turnGone else e
      notices := ((withdrawNotice c s).1.lane l).notices } := by
  rw [withdrawCue_eq hl, lane_freeCue, State.lane_withLane_self, (withdrawNotice_keeps hl).2]
  · rfl
  · exact (State.laneOf?_congr (withdrawNotice_directory s c).1 c.aud).trans hl

theorem withdrawCue_table (hl : s.laneOf? c.aud = some l) :
    (withdrawCue c s).table = { s.table with
      cues := s.table.cues.filter fun x => x.slot != c.slot
      free := s.table.free ++ c.blocks } := by
  have htable : (((withdrawNotice c s).1).withLane l { (withdrawNotice c s).1.lane l with
      repairs := (s.lane l).repairs.map fun e =>
        if e.names c.aud c.track c.num then e.turnGone else e }).table = s.table :=
    (withdrawNotice_directory s c).2
  rw [withdrawCue_eq hl, State.freeCue_table, htable]

theorem withdrawCue_show (hl : s.laneOf? c.aud = some l) :
    (withdrawCue c s).cueCount c.aud = s.cueCount c.aud - 1
      ∧ (withdrawCue c s).lineup c.aud c.track
          = (s.lineup c.aud c.track).filter (fun x => x != c.slot)
      ∧ LineupOnly c.aud c.track s (withdrawCue c s) := by
  have hdir : ((withdrawNotice c s).1.withLane l { (withdrawNotice c s).1.lane l with
      repairs := (s.lane l).repairs.map fun e =>
        if e.names c.aud c.track c.num then e.turnGone else e }).directory = s.directory :=
    (withdrawNotice_directory s c).1
  have hopen := (State.isOpen_congr hdir c.aud).trans
    (show s.isOpen c.aud = true by simp [State.isOpen_eq_laneOf?, hl])
  obtain ⟨hcount, hlineup, honly⟩ := freeCue_show hopen
  rw [withdrawCue_eq hl]
  refine ⟨?_, ?_, honly.of_directory hdir⟩
  · rw [hcount, State.cueCount_congr hdir]
  · rw [hlineup, State.lineup_congr hdir]

theorem withdrawCue_poolLow (c : Cue) (s : State) :
    ((withdrawCue c s).cond .poolLow).on
      = decide ((withdrawCue c s).table.free.length < (withdrawCue c s).setting .poolLowMark) := by
  unfold withdrawCue
  rw [State.freeCue_eq, poolLow_judgePool]
  simp [State.setting]

theorem actCueWithdraw_some {q : CueRef} (htrack : (s.track? q.aud q.track).isSome = true)
    (hc : s.findCue q.aud q.track q.num = some c) :
    actCueWithdraw q s = accept (withdrawCue c s)
      (be8 (noticeOutcomeCode (withdrawNotice c s).2) ++ be8 c.blocks.length
        ++ be16 (withdrawCue c s).table.free.length) := by
  unfold actCueWithdraw
  rw [withCue_some _ htrack hc]
  rfl

/-- What a withdrawal of a cue of an auditorium open on lane `l` leaves, by the outcome of its notice (R61,
R62, R69, R108, R132). -/
structure Withdrawn (c : Cue) (l : LaneId) (out : NoticeOutcome) (s t : State) : Prop where
  cues : t.table.cues = s.table.cues.filter (fun d => d.slot != c.slot)
  free : t.table.free = s.table.free ++ c.blocks
  cueCount : t.cueCount c.aud = s.cueCount c.aud - 1
  lineup : t.lineup c.aud c.track = (s.lineup c.aud c.track).filter (fun k => k != c.slot)
  show_ : LineupOnly c.aud c.track s t
  lane : t.lane l = { s.lane l with
    repairs := (s.lane l).repairs.map fun e =>
      if e.names c.aud c.track c.num then e.turnGone else e
    notices := (t.lane l).notices
    build := ((s.lane l).lessSlots fun k => k == c.slot).build }
  poolLow : (t.cond .poolLow).on = decide (t.table.free.length < s.setting .poolLowMark)
  notice : (c.delivery = .waiting ∨ c.phase = .retained) ∧ out = .notNeeded
      ∧ (t.lane l).notices = (s.lane l).notices ∧ t.cond .noticeDropped = s.cond .noticeDropped
    ∨ (c.delivery ≠ .waiting ∧ c.phase ≠ .retained) ∧ ∃ u,
      NoticeAdded s u l (.withdraw c.aud c.track c.num) out
        ∧ (t.lane l).notices = (u.lane l).notices ∧ t.cond .noticeDropped = u.cond .noticeDropped

theorem withdrawn_withdrawCue (hl : s.laneOf? c.aud = some l) :
    Withdrawn c l (withdrawNotice c s).2 s (withdrawCue c s) := by
  obtain ⟨hcount, hlineup, honly⟩ := withdrawCue_show hl
  have htable := withdrawCue_table hl
  have hlane := lane_withdrawCue hl
  have hnotices : ((withdrawCue c s).lane l).notices = ((withdrawNotice c s).1.lane l).notices := by
    rw [hlane]
  have hmark : (withdrawCue c s).setting .poolLowMark = s.setting .poolLowMark :=
    withdrawCue_changes hl (.setting .poolLowMark) (by simp)
  have hdropped : (withdrawCue c s).cond .noticeDropped = (withdrawNotice c s).1.cond .noticeDropped := by
    unfold withdrawCue
    rw [State.freeCue_eq]
    refine Eq.trans (judgePool_keeps _ _ (.cond .noticeDropped) (by simp)) ?_
    have hout (u : State) : (outOfTable c u).cond .noticeDropped = u.cond .noticeDropped :=
      outOfTable_keeps u c (.cond .noticeDropped) (by simp)
    have hforgot (u : State) : (forgetInLane c u).cond .noticeDropped = u.cond .noticeDropped := by
      simp [State.cond]
    rw [hforgot, hout]
    simp [State.cond]
  refine ⟨by rw [htable], by rw [htable], hcount, hlineup, honly, ?_, ?_, ?_⟩
  · rw [hnotices, hlane]
    rfl
  · rw [withdrawCue_poolLow, hmark]
  · obtain ⟨hno, heq⟩ | ⟨hyes, hadded⟩ := withdrawNotice_cases hl
    · rw [heq] at hnotices hdropped ⊢
      exact .inl ⟨hno, rfl, hnotices, hdropped⟩
    · exact .inr ⟨hyes, _, hadded, hnotices, hdropped⟩

end

/-- The outcome of a withdrawal's notice and the notices it leaves (R62, R108). -/
theorem Withdrawn.notice_spec {s t : State} {c : Cue} {l : LaneId} {out : NoticeOutcome}
    (h : Withdrawn c l out s t) :
    let item : NoticeItem := .withdraw c.aud c.track c.num
    (out = .notNeeded ↔ c.delivery = .waiting ∨ c.phase = .retained)
    ∧ (out = .dropped ↔ c.delivery ≠ .waiting ∧ c.phase ≠ .retained
        ∧ 32 ≤ (s.lane l).notices.length ∧ ∀ n ∈ (s.lane l).notices, n.item ≠ item)
    ∧ (out = .placed → (NoticeStands (s.lane l) item →
          (t.lane l).notices = ((s.lane l).renewed item (s.setting .noticeRepeat)).notices)
        ∧ (¬NoticeStands (s.lane l) item →
          (t.lane l).notices = (s.lane l).notices ++ [⟨item, s.setting .noticeRepeat⟩]))
    ∧ (out ≠ .placed → (t.lane l).notices = (s.lane l).notices)
    ∧ (out = .dropped → t.cond .noticeDropped = ⟨true, .lane l⟩)
    ∧ (out ≠ .dropped → t.cond .noticeDropped = s.cond .noticeDropped) := by
  intro item
  obtain ⟨hno, rfl, hnotices, hcond⟩ | ⟨⟨hdelivery, hphase⟩, u, hadded, hnotices, hcond⟩ := h.notice
  · refine ⟨iff_of_true rfl hno, iff_of_false (by simp) ?_, fun h => by simp at h, fun _ => hnotices,
      fun h => by simp at h, fun _ => hcond⟩
    rintro ⟨hdelivery, hphase, -⟩
    exact hno.elim hdelivery hphase
  · refine ⟨iff_of_false hadded.needed (not_or.2 ⟨hdelivery, hphase⟩), ?_, fun hplaced => ⟨fun hst => ?_,
      fun hst => ?_⟩, fun hplaced => ?_, fun hdrop => hcond.trans (hadded.latched hdrop),
      fun hdrop => hcond.trans (hadded.unlatched hdrop)⟩
    · rw [hadded.dropped]
      exact ⟨fun h => ⟨hdelivery, hphase, h⟩, fun ⟨_, _, h⟩ => h⟩
    · rw [hnotices, hadded.renewed hst]
    · have hroom : (s.lane l).notices.length < 32 := by
        refine Nat.lt_of_not_le fun hfull => ?_
        have hdrop := hadded.dropped.2 ⟨hfull, fun n hn hitem => hst ⟨n, hn, hitem⟩⟩
        rw [hplaced] at hdrop
        cases hdrop
      rw [hnotices, hadded.appended hst hroom]
    · have hdrop : out = .dropped := by
        cases out with
        | placed => exact absurd rfl hplaced
        | dropped => rfl
        | notNeeded => exact absurd rfl hadded.needed
      rw [hnotices, hadded.stays hdrop]

theorem Withdrawn.answered {s t : State} {c : Cue} {l : LaneId} {out : NoticeOutcome} {rest : List Msg}
    (h : Withdrawn c l out (s.withInbox rest) t) (m : Msg) (r : Result) (cl : Bool) (b : List Byte) :
    Withdrawn c l out s (settle (placeResponse m r cl b t)) := by
  obtain ⟨hcues, hfree, hcount, hlineup, honly, hlane, hpool, hnotice⟩ := h
  refine ⟨hcues, hfree, hcount, hlineup, honly, hlane, hpool, ?_⟩
  obtain h | ⟨hyes, u, hadded, hrest⟩ := hnotice
  · exact .inl h
  · obtain ⟨h1, h2, h3, h4, h5, h6, h7, h8, h9⟩ := hadded
    refine .inr ⟨hyes, u.withInbox s.link.inbox, ⟨h1, h2, h3, h4, h5, h6, h7, h8, fun p hp => ?_⟩, hrest⟩
    by_cases hin : p = .inbox
    · rw [hin]
      rfl
    · exact ((same_withInbox p hin rest s).trans (h9 p hp)).trans (same_withInbox p hin _ u)

/-- Settles O46. -/
theorem cueWithdrawFreesTheCue : Obligations.CueWithdrawFreesTheCue := by
  intro m rest s h
  refine ⟨fun hbad => exec_badForm (exec_cueWithdraw s) h hbad, fun q hq =>
    ⟨refusedOffTrack_of_withTrack (exec_cueWithdraw s) h (withForm_some hq _ _),
      fun htrack hnone => exec_refused (exec_cueWithdraw s) h hq (withCue_noSuch _ htrack hnone),
      fun c l htrack hc hl _ => ?_⟩⟩
  have hact := actCueWithdraw_some (s := s.withInbox rest) htrack hc
  obtain ⟨a, u, n⟩ := q
  obtain ⟨rfl, rfl, rfl⟩ := named_of_findCue hc
  have hchanges := withdrawCue_changes (s := s.withInbox rest) (c := c) hl
  have hdone := withdrawn_withdrawCue (s := s.withInbox rest) (c := c) hl
  generalize withdrawCue c (s.withInbox rest) = v at hact hchanges hdone
  generalize (withdrawNotice c (s.withInbox rest)).2 = out at hact hdone
  obtain ⟨hexec, hframe, hresp⟩ := exec_accepted (exec_cueWithdraw s) h hq hact hchanges
  have hdone := hdone.answered m .ok false
    (be8 (noticeOutcomeCode out) ++ be8 c.blocks.length ++ be16 v.table.free.length)
  obtain ⟨hneeded, hdropped, hplaced, hstays, hlatched, hunlatched⟩ := hdone.notice_spec
  intro item
  refine ⟨_, out, hexec, hdone.cues, hdone.free, hdone.cueCount, hdone.lineup, hdone.show_, ?_,
    hdone.poolLow, hneeded, hdropped, fun hout => ?_, hstays, hlatched, hunlatched, hresp, hframe⟩
  · have hturn : (fun e : Repair => if e.names c.aud c.track c.num then e.turnGone else e)
        = fun e => if e.aud = c.aud ∧ e.track = c.track ∧ e.num = c.num
            then { e with kind := .gone, state := .waiting, off := 0, hold := 0 } else e := by
      funext e
      simp [Repair.names, Repair.turnGone, and_assoc]
    refine hdone.lane.trans ?_
    rw [hturn]
    rfl
  · split
    · next hst => exact (hplaced hout).1 hst
    · next hst => exact (hplaced hout).2 hst

end Sys2Proof.Machine
end


section
/-! SUPPORT. The checks of a cue's body, a slot's place in a lineup, and the removal of a cue's repair entries. -/

namespace Sys2Proof.Machine

/-! ### Checks (R46, R53, R58) -/

/-- A body of the form that a cue's kind asks for (R53, check 7; R58, check 5). -/
theorem bodyOk_iff (k : CueKind) (x : CueBody) :
    bodyOk k x = true ↔ x.inP < x.outP
      ∧ (k = .caption → 1 ≤ x.declared ∧ x.declared ≤ 512)
      ∧ (k = .clip → 1 ≤ x.declared ∧ x.declared ≤ 16384 ∧ x.attrs = none)
      ∧ x.inline.length ≤ x.declared := by
  cases k with
  | caption => simp [bodyOk, lengthInRange, and_assoc]
  | clip =>
    simp only [bodyOk, lengthInRange, Bool.and_eq_true, decide_eq_true_eq, Option.isNone_iff_eq_none,
      reduceCtorEq, false_implies, true_implies, true_and, and_assoc]
    tauto

theorem aheadOfFilm_iff (s : State) (a : Aud) (outP : Nat) :
    aheadOfFilm s a outP = true ↔
      ∀ p, (s.timeline a).project s.clock.time = some p → p < outP := by
  unfold aheadOfFilm
  cases (s.timeline a).project s.clock.time <;> simp

theorem attrsFor_eq (k : CueKind) (given : Option Attrs) :
    attrsFor k given = if k = .caption then some (given.getD ⟨0, .centre, false, false⟩) else none := by
  cases k <;> rfl

/-! ### A place in a lineup (R48) -/

/-- A slot is put before the first entry whose key is greater (R48). -/
theorem insertLineup_split {f g : Nat → Nat × Nat} (k : Nat × Nat) (slot : Nat) {xs : List Nat}
    (h : ∀ x ∈ xs, f x = g x) :
    ∃ l1 l2, xs = l1 ++ l2 ∧ insertLineup f k slot xs = l1 ++ slot :: l2
      ∧ (∀ x ∈ l1, keyLt k (g x) = false) ∧ ∀ x, l2.head? = some x → keyLt k (g x) = true := by
  induction xs with
  | nil => exact ⟨[], [], rfl, rfl, by simp, by simp⟩
  | cons x xs ih =>
    have hx := h x List.mem_cons_self
    unfold insertLineup
    by_cases hlt : keyLt k (f x) = true
    · refine ⟨[], x :: xs, rfl, if_pos hlt, by simp, fun y hy => ?_⟩
      rw [List.head?_cons] at hy
      rw [← Option.some.inj hy, ← hx, hlt]
    · obtain ⟨l1, l2, hsplit, hins, hbefore, hafter⟩ := ih fun y hy => h y (List.mem_cons_of_mem x hy)
      refine ⟨x :: l1, l2, by rw [hsplit]; rfl, by rw [if_neg hlt, hins]; rfl, fun y hy => ?_, hafter⟩
      obtain rfl | hy := List.mem_cons.1 hy
      · rw [← hx]
        exact Bool.eq_false_iff.2 hlt
      · exact hbefore y hy

theorem addToLineup_track? (s : State) (c : Cue) (v : Track) :
    (s.addToLineup c).track? c.aud v = (s.track? c.aud v).map fun w =>
      if v = c.track then { w with lineup := insertLineup s.lineupKey (c.inP, c.num) c.slot w.lineup }
      else w :=
  State.track?_modTrack_lineup s c.aud c.track v (insertLineup s.lineupKey (c.inP, c.num) c.slot)

theorem lineupKey_of_cueAt {s t : State} {k : Nat} (h : t.cueAt k = s.cueAt k) :
    t.lineupKey k = s.lineupKey k := by
  rw [State.lineupKey, h, State.lineupKey]

/-! ### Repair entries of a cue (R120, R130) -/

theorem removeRepairsOf_of_open {s : State} {a : Aud} {l : LaneId} (h : s.laneOf? a = some l)
    (t : Track) (n : Nat) :
    s.removeRepairsOf a t n = s.withLane l (lessRepairs (fun e => e.names a t n) (s.lane l)) := by
  unfold State.removeRepairsOf
  rw [h]
  dsimp only
  rw [Lane.removeRepairs_eq]

end Sys2Proof.Machine
end

section
/-! PROOFS. CUE_POST (O43). -/

namespace Sys2Proof.Machine

theorem exec_cuePost (s : State) :
    exec .cuePost s = takeRequest .cuePost (withForm cuePost? actCuePost) s := rfl

/-! ### The effect (R54, R55) -/

section

variable {q : CuePostReq} {k : Nat} {s : State} {l : LaneId}

/-- The cue that a CUE_POST writes into slot `k` (R54). -/
def newCue (q : CuePostReq) (k : Nat) (s : State) : Cue := postedCue q k (postBlocks q s)

/-- A CUE_POST before its repair entries are removed. -/
def postPlaced (q : CuePostReq) (k : Nat) (s : State) : State :=
  (postLineup (newCue q k s) (postTable q k s)).judgePool (.aud q.aud)

theorem postPlaced_keeps (q : CuePostReq) (k : Nat) (s : State) :
    Keeps [.show_ q.aud, .cues, .freeBlocks, .payload, .cond .poolLow] s (postPlaced q k s) :=
  ((table_keeps s _).mono (by simp)).trans
    (((modTrack_keeps _ q.aud q.track _).mono (by simp)).trans
      (((modCueCount_keeps _ q.aud _).mono (by simp)).trans ((judgePool_keeps _ _).mono (by simp))))

theorem postPlaced_directory (q : CuePostReq) (k : Nat) (s : State) :
    (postPlaced q k s).directory = (postLineup (newCue q k s) (postTable q k s)).directory := by
  simp [postPlaced]

theorem postLineup_track? (c : Cue) (s : State) (v : Track) :
    (postLineup c s).track? c.aud v = (s.track? c.aud v).map fun w =>
      if v = c.track then { w with lineup := insertLineup s.lineupKey (c.inP, c.num) c.slot w.lineup }
      else w := by
  unfold postLineup
  rw [State.track?_modCueCount]
  exact addToLineup_track? s c v

theorem postLineup_laneOf? (c : Cue) (s : State) (a : Aud) :
    (postLineup c s).laneOf? a = s.laneOf? a := by
  unfold postLineup State.addToLineup
  rw [State.laneOf?_modCueCount]
  exact State.laneOf?_modTrack ..

theorem doPost_of_open (hl : s.laneOf? q.aud = some l) :
    doPost q k s = ((postPlaced q k s).withLane l
      (lessRepairs (fun e => e.names q.aud q.track q.num) (s.lane l)), newCue q k s) := by
  have hopen : (postPlaced q k s).laneOf? q.aud = some l :=
    (State.laneOf?_congr (postPlaced_directory q k s) q.aud).trans
      ((postLineup_laneOf? (newCue q k s) (postTable q k s) q.aud).trans hl)
  have hlane : (postPlaced q k s).lane l = s.lane l := postPlaced_keeps q k s (.lane l) (by simp)
  rw [doPost_eq, ← hlane, ← removeRepairsOf_of_open hopen]
  rfl

/-- What an accepted CUE_POST leaves of the show, the lane and the pool (R51, R54, R130). -/
structure Posted (q : CuePostReq) (k : Nat) (l : LaneId) (s t : State) : Prop where
  cues : ∀ d, d ∈ t.table.cues ↔ d = newCue q k s ∨ d ∈ s.table.cues
  free : t.table.free = s.table.free.drop (blocksFor q.body.declared)
  stored : ∀ (i : Nat) (v : Byte), q.body.inline[i]? = some v →
    payloadByte (newCue q k s).blocks t.table.payload i = v
  others : ∀ j, (∀ i, i < q.body.inline.length → payloadAddr (newCue q k s).blocks i ≠ some j) →
    memRead t.table.payload j = memRead s.table.payload j
  place : ∃ l1 l2, s.lineup q.aud q.track = l1 ++ l2 ∧ t.lineup q.aud q.track = l1 ++ k :: l2
    ∧ (∀ x ∈ l1, keyLt (q.body.inP, q.num) (s.lineupKey x) = false)
    ∧ (∀ x, l2.head? = some x → keyLt (q.body.inP, q.num) (s.lineupKey x) = true)
  cueCount : t.cueCount q.aud = s.cueCount q.aud + 1
  show_ : LineupOnly q.aud q.track s t
  lane : t.lane l = lessRepairs (fun e => e.names q.aud q.track q.num) (s.lane l)
  poolLow : (t.cond .poolLow).on = decide (t.table.free.length < s.setting .poolLowMark)
  keeps : Keeps [.show_ q.aud, .cues, .freeBlocks, .payload, .lane l, .cond .poolLow] s t

/-- A record that joins the table is passed over by a search that it does not meet. -/
theorem find?_insertCue {p : Cue → Bool} {c : Cue} (h : p c = false) (xs : List Cue) :
    (insertCue c xs).find? p = xs.find? p := by
  induction xs with
  | nil => simp [insertCue, h]
  | cons x xs ih =>
    unfold insertCue
    split
    · rw [List.find?_cons_of_neg (by simp [h])]
    · rw [List.find?_cons, List.find?_cons, ih]

theorem lineupKey_postTable {x : Nat} (hx : x ≠ k) : (postTable q k s).lineupKey x = s.lineupKey x :=
  lineupKey_of_cueAt (find?_insertCue (by simpa [postedCue] using hx.symm) s.table.cues)

theorem payloadByte_of_cell {c : Cue} {u : State} (hu : CueTableOk u) (hc : c ∈ u.table.cues)
    {data : List Byte} {m : List Host.Cell} (hwf : Memory.wf m = true)
    (hlen : data.length ≤ c.declared) {i : Nat} {v : Byte} (hv : data[i]? = some v) :
    payloadByte c.blocks (writePayload c.blocks 0 data m) i = v := by
  obtain ⟨hi, -⟩ := List.getElem?_eq_some_iff.1 hv
  have hstored := payloadByte_writePayload (hu.blocks_nodup hc) data 0 m hwf i v hv
    (hu.payloadAddr_isSome hc (by omega))
  rwa [Nat.zero_add] at hstored

theorem memRead_of_untouched {blocks : List Nat} {data : List Byte} {m : List Host.Cell}
    (hwf : Memory.wf m = true) {j : Nat} (hj : ∀ i, i < data.length → payloadAddr blocks i ≠ some j) :
    memRead (writePayload blocks 0 data m) j = memRead m j :=
  memRead_writePayload_of_ne blocks data 0 m hwf j fun i hi => by
    rw [Nat.zero_add]
    exact hj i hi

theorem posted_doPost (hs : CueTableOk s) (hwf : Memory.wf s.table.payload = true)
    (htrack : (s.track? q.aud q.track).isSome = true) (hbody : bodyOk q.kind q.body = true)
    (hroom : blocksFor q.body.declared ≤ s.table.free.length) (hk : s.lowestFreeSlot = some k)
    (hl : s.laneOf? q.aud = some l) : Posted q k l s (doPost q k s).1 := by
  have hnew := (lowestFreeSlot_new hk).2
  have hok := cueTableOk_doPost hs htrack hbody hroom hk
  have htable := doPost_table q k s
  have hmem (d : Cue) : d ∈ (doPost q k s).1.table.cues ↔ d = newCue q k s ∨ d ∈ s.table.cues := by
    rw [htable, (insertCue_split _ _ hs.1 hnew).1.mem_iff, List.mem_cons]
    rfl
  have hdir : (doPost q k s).1.directory
      = (postLineup (newCue q k s) (postTable q k s)).directory := by
    rw [doPost_of_open hl]
    exact postPlaced_directory q k s
  have htracks (v : Track) : (doPost q k s).1.track? q.aud v = (s.track? q.aud v).map fun w =>
      if v = q.track then { w with
        lineup := insertLineup (postTable q k s).lineupKey (q.body.inP, q.num) k w.lineup }
      else w :=
    (State.track?_congr hdir q.aud v).trans (postLineup_track? (newCue q k s) (postTable q k s) v)
  have hlineup : (doPost q k s).1.lineup q.aud q.track
      = insertLineup (postTable q k s).lineupKey (q.body.inP, q.num) k (s.lineup q.aud q.track) := by
    obtain ⟨r, hr⟩ := Option.isSome_iff_exists.1 htrack
    rw [State.lineup_of_track? hr]
    refine State.lineup_of_track? (r := { r with
      lineup := insertLineup (postTable q k s).lineupKey (q.body.inP, q.num) k r.lineup }) ?_
    rw [htracks, hr]
    simp
  refine ⟨hmem, by rw [htable], fun i v hv => ?_, fun j hj => ?_, ?_, ?_, ?_, ?_, ?_, ?_⟩
  · rw [htable]
    exact payloadByte_of_cell (c := newCue q k s) hok ((hmem _).2 (.inl rfl)) hwf (bodyOk_inline hbody) hv
  · rw [htable]
    exact memRead_of_untouched hwf hj
  · rw [hlineup]
    refine insertLineup_split _ k fun x hx => lineupKey_postTable ?_
    rintro rfl
    obtain ⟨d, hd, hslot, -⟩ := hs.mem_lineup_iff.1 hx
    exact hnew d hd hslot
  · rw [State.cueCount_congr hdir]
    have hopen : ((postTable q k s).addToLineup (newCue q k s)).isOpen q.aud = true := by
      rw [State.isOpen_eq_laneOf?, State.addToLineup, State.laneOf?_modTrack]
      exact (congrArg Option.isSome hl : _)
    exact (State.cueCount_modCueCount hopen (· + 1)).trans
      (congrArg (· + 1) (State.cueCount_modTrack (postTable q k s) q.aud q.aud q.track _))
  · exact lineupOnly_of_track? ((State.laneOf?_congr hdir q.aud).trans
      (postLineup_laneOf? (newCue q k s) (postTable q k s) q.aud)) htracks
  · rw [doPost_of_open hl]
    exact State.lane_withLane_self _ _ _
  · have hmark : (postLineup (newCue q k s) (postTable q k s)).setting .poolLowMark
        = s.setting .poolLowMark := by
      simp [State.setting, postLineup, postTable]
    have hfree : (postLineup (newCue q k s) (postTable q k s)).table.free
        = (doPost q k s).1.table.free := by
      rw [htable]
      simp [postLineup, postTable]
    rw [← hmark, ← hfree, doPost_of_open hl]
    exact poolLow_judgePool _ _
  · rw [doPost_of_open hl]
    exact ((postPlaced_keeps q k s).mono (by simp)).trans ((withLane_keeps _ _ _).mono (by simp))

end

/-! ### The checks (R53) -/

/-- The checks of CUE_POST on a track that exists, in their order (R53). -/
theorem actCuePost_of_track {q : CuePostReq} {s : State} {r : TrackRec}
    (hr : s.track? q.aud q.track = some r) :
    actCuePost q s =
      if q.kind ≠ r.kind then .error .kind
      else if r.base ≤ q.num ∧ q.num ≤ r.limit then
        if (s.findCue q.aud q.track q.num).isSome then .error .exists_
        else if !bodyOk q.kind q.body then .error .badFormat
        else if !aheadOfFilm s q.aud q.body.outP then .error .late
        else if s.setting .audCueQuota ≤ s.cueCount q.aud then .error .quota
        else if s.table.free.length < blocksFor q.body.declared then .error .noRoom
        else
          match s.lowestFreeSlot with
          | some slot =>
            accept (doPost q slot s).1 (be16 slot
              ++ be16 ((doPost q slot s).1.lineupIndex (doPost q slot s).2) ++ be8 0
              ++ be8 (doPost q slot s).2.blocks.length ++ be16 (doPost q slot s).1.table.free.length
              ++ be16 (doPost q slot s).1.freeSlots)
          | none => .error .noRoom
      else .error .outOfWindow := by
  unfold actCuePost
  refine (withTrack_some _ hr).trans ?_
  cases s.lowestFreeSlot with
  | none => rfl
  | some slot => rfl

/-- Settles O43. -/
theorem cuePostWritesTheRecord : Obligations.CuePostWritesTheRecord := by
  intro m rest s h
  refine ⟨fun hbad => exec_badForm (exec_cuePost s) h hbad, fun q hq =>
    ⟨refusedOffTrack_of_withTrack (exec_cuePost s) h (withForm_some hq _ _), fun r _ hr => ?_⟩⟩
  have hact := actCuePost_of_track (s := s.withInbox rest) hr
  have hrefused {e : Result} (hact : actCuePost q (s.withInbox rest) = .error e) :
      Refused .cuePost m rest e s := exec_refused (exec_cuePost s) h hq hact
  intro admitted isNew formed inTime inQuota hasRoom
  have hisNew (hnew : isNew) : ¬((s.withInbox rest).findCue q.aud q.track q.num).isSome = true := by
    rw [show (s.withInbox rest).findCue q.aud q.track q.num = none from hnew]
    exact Bool.false_ne_true
  have hformed (hform : formed) : ¬(!bodyOk q.kind q.body) = true := by
    rw [(bodyOk_iff q.kind q.body).2 hform]
    exact Bool.false_ne_true
  have hinTime (htime : inTime) : ¬(!aheadOfFilm (s.withInbox rest) q.aud q.body.outP) = true := by
    rw [(aheadOfFilm_iff (s.withInbox rest) q.aud q.body.outP).2 htime]
    exact Bool.false_ne_true
  have hinQuota (hquota : inQuota) :
      ¬(s.withInbox rest).setting .audCueQuota ≤ (s.withInbox rest).cueCount q.aud :=
    Nat.not_le.2 hquota
  have hhasRoom (hroom : hasRoom) :
      ¬(s.withInbox rest).table.free.length < blocksFor q.body.declared := Nat.not_lt.2 hroom
  refine ⟨fun hkind => hrefused ?_, fun hkind hno => hrefused ?_, fun hkind hadm hno => hrefused ?_,
    fun hkind hadm hnew hno => hrefused ?_, fun hkind hadm hnew hform hno => hrefused ?_,
    fun hkind hadm hnew hform htime hno => hrefused ?_,
    fun hkind hadm hnew hform htime hquota hno => hrefused ?_,
    fun l k hkind hadm hnew hform htime hquota hroom hl hk hcues hwf => ?_⟩
  · rw [hact, if_pos hkind]
  · rw [hact, if_neg (not_not.2 hkind), if_neg hno]
  · rw [hact, if_neg (not_not.2 hkind), if_pos hadm]
    exact if_pos (Option.isSome_iff_ne_none.2 hno)
  · have hbad : (!bodyOk q.kind q.body) = true := by
      rw [Bool.eq_false_iff.2 (mt (bodyOk_iff q.kind q.body).1 hno)]
      rfl
    rw [hact, if_neg (not_not.2 hkind), if_pos hadm, if_neg (hisNew hnew), if_pos hbad]
  · have hlate : (!aheadOfFilm (s.withInbox rest) q.aud q.body.outP) = true := by
      rw [Bool.eq_false_iff.2 (mt (aheadOfFilm_iff (s.withInbox rest) q.aud q.body.outP).1 hno)]
      rfl
    rw [hact, if_neg (not_not.2 hkind), if_pos hadm, if_neg (hisNew hnew), if_neg (hformed hform),
      if_pos hlate]
  · rw [hact, if_neg (not_not.2 hkind), if_pos hadm, if_neg (hisNew hnew), if_neg (hformed hform),
      if_neg (hinTime htime)]
    exact if_pos (Nat.le_of_not_lt hno)
  · rw [hact, if_neg (not_not.2 hkind), if_pos hadm, if_neg (hisNew hnew), if_neg (hformed hform),
      if_neg (hinTime htime), if_neg (hinQuota hquota)]
    exact if_pos (Nat.lt_of_not_le hno)
  · rw [if_neg (not_not.2 hkind), if_pos hadm, if_neg (hisNew hnew), if_neg (hformed hform),
      if_neg (hinTime htime), if_neg (hinQuota hquota), if_neg (hhasRoom hroom),
      show (s.withInbox rest).lowestFreeSlot = some k from hk] at hact
    have hposted := posted_doPost (s := s.withInbox rest) hcues hwf (Option.isSome_of_eq_some hr)
      ((bodyOk_iff q.kind q.body).2 hform) hroom hk hl
    have hrecord : (doPost q k (s.withInbox rest)).2 = newCue q k s := rfl
    dsimp only at hact
    rw [hrecord] at hact
    generalize (doPost q k (s.withInbox rest)).1 = v at hact hposted
    obtain ⟨hexec, hframe, hresp⟩ := exec_accepted (exec_cuePost s) h hq hact hposted.keeps
    refine ⟨_, newCue q k s, hexec, ?_, hposted.cues, hposted.free, hposted.stored, hposted.others,
      hposted.place, hposted.cueCount, hposted.show_, hposted.lane, hposted.poolLow, hresp, hframe⟩
    rw [newCue, postedCue, attrsFor_eq]
    rfl

end Sys2Proof.Machine
end


section
/-! PROOFS. CUE_REVISE (O45). -/

namespace Sys2Proof.Machine

theorem exec_cueRevise (s : State) :
    exec .cueRevise s = takeRequest .cueRevise (withForm cueRevise? actCueRevise) s := rfl

/-! ### The effect (R48, R59, R60) -/

section

variable {x : CueBody} {c : Cue} {s : State} {l : LaneId}

/-- The record that a CUE_REVISE writes (R60). -/
def rewrittenCue (x : CueBody) (c : Cue) (s : State) : Cue := revisedCue x (reviseBlocks x c s) c

/-- A CUE_REVISE with another in-point before the cue takes its place in the lineup anew. -/
def reviseLifted (x : CueBody) (c : Cue) (s : State) : State :=
  ((reviseTable x c s).dropFromLineup c).putCue (rewrittenCue x c s)

/-- The lineup's order after a CUE_REVISE: the cue keeps its place, or takes it anew (R48). -/
def reviseOrder (x : CueBody) (c : Cue) (s : State) (ks : List Nat) : List Nat :=
  if c.inP = x.inP then ks
  else insertLineup (reviseLifted x c s).lineupKey (x.inP, c.num) c.slot
    (ks.filter fun k => k != c.slot)

theorem reviseLineup_rewritten (x : CueBody) (c : Cue) (s : State) :
    reviseLineup x c (rewrittenCue x c s) (reviseTable x c s) =
      if c.inP = x.inP then (reviseTable x c s).putCue (rewrittenCue x c s)
      else (reviseLifted x c s).addToLineup (rewrittenCue x c s) := rfl

/-- A CUE_REVISE before its repair entries are removed. -/
def revisePlaced (x : CueBody) (c : Cue) (s : State) : State :=
  (reviseLineup x c (rewrittenCue x c s) (reviseTable x c s)).judgePool (.aud c.aud)

theorem reviseTable_keeps (x : CueBody) (c : Cue) (s : State) :
    Keeps [.freeBlocks, .payload] s (reviseTable x c s) := by
  intro p hp
  by_cases hcues : p = .cues
  · rw [hcues]
    rfl
  · refine table_keeps s _ p ?_
    simp only [List.mem_cons, List.not_mem_nil, not_or, or_false] at hp ⊢
    exact ⟨hcues, hp⟩

theorem dropFromLineup_keeps (u : State) (c : Cue) : Keeps [.show_ c.aud] u (u.dropFromLineup c) :=
  modTrack_keeps u c.aud c.track _

theorem addToLineup_keeps (u : State) (c : Cue) : Keeps [.show_ c.aud] u (u.addToLineup c) :=
  modTrack_keeps u c.aud c.track _

theorem reviseLineup_keeps (x : CueBody) (c c' : Cue) (u : State) (haud : c'.aud = c.aud) :
    Keeps [.show_ c.aud, .cues] u (reviseLineup x c c' u) := by
  unfold reviseLineup
  split
  · exact (putCue_keeps _ _).mono (by simp)
  · have hadd := addToLineup_keeps ((u.dropFromLineup c).putCue c') c'
    rw [haud] at hadd
    exact ((dropFromLineup_keeps u c).mono (by simp)).trans
      (((putCue_keeps _ c').mono (by simp)).trans (hadd.mono (by simp)))

theorem revisePlaced_keeps (x : CueBody) (c : Cue) (s : State) :
    Keeps [.show_ c.aud, .cues, .freeBlocks, .payload, .cond .poolLow] s (revisePlaced x c s) :=
  ((reviseTable_keeps x c s).mono (by simp)).trans
    (((reviseLineup_keeps x c (rewrittenCue x c s) (reviseTable x c s) rfl).mono (by simp)).trans
      ((judgePool_keeps _ _).mono (by simp)))

theorem reviseLineup_track? (x : CueBody) (c : Cue) (s : State) (v : Track) :
    (reviseLineup x c (rewrittenCue x c s) (reviseTable x c s)).track? c.aud v =
      (s.track? c.aud v).map fun w =>
        if v = c.track then { w with lineup := reviseOrder x c s w.lineup } else w := by
  rw [reviseLineup_rewritten]
  by_cases hin : c.inP = x.inP
  · rw [if_pos hin]
    have hsame : (s.track? c.aud v).map (fun w : TrackRec =>
        if v = c.track then { w with lineup := reviseOrder x c s w.lineup } else w) = s.track? c.aud v := by
      simp [reviseOrder, hin]
    exact hsame.symm
  · rw [if_neg hin]
    have hlifted : (reviseLifted x c s).track? c.aud v = (s.track? c.aud v).map fun w =>
        if v = c.track then { w with lineup := w.lineup.filter fun k => k != c.slot } else w :=
      State.track?_modTrack_lineup (reviseTable x c s) c.aud c.track v fun ks =>
        ks.filter fun k => k != c.slot
    refine (addToLineup_track? (reviseLifted x c s) (rewrittenCue x c s) v).trans ?_
    refine (congrArg (Option.map _) hlifted).trans ?_
    rw [Option.map_map]
    congr 1
    funext w
    by_cases hv : v = c.track
    · simp [hv, reviseOrder, hin, rewrittenCue, revisedCue]
    · simp [hv, rewrittenCue, revisedCue]

theorem reviseLineup_laneOf? (x : CueBody) (c : Cue) (s : State) (a : Aud) :
    (reviseLineup x c (rewrittenCue x c s) (reviseTable x c s)).laneOf? a = s.laneOf? a := by
  rw [reviseLineup_rewritten]
  split
  · rfl
  · rw [State.addToLineup, State.laneOf?_modTrack]
    exact State.laneOf?_modTrack (reviseTable x c s) c.aud a c.track _

theorem reviseLineup_cueCount (x : CueBody) (c : Cue) (s : State) (a : Aud) :
    (reviseLineup x c (rewrittenCue x c s) (reviseTable x c s)).cueCount a = s.cueCount a := by
  rw [reviseLineup_rewritten]
  split
  · rfl
  · rw [State.addToLineup, State.cueCount_modTrack]
    exact State.cueCount_modTrack (reviseTable x c s) c.aud a c.track _

theorem revisePlaced_directory (x : CueBody) (c : Cue) (s : State) : (revisePlaced x c s).directory
    = (reviseLineup x c (rewrittenCue x c s) (reviseTable x c s)).directory := by
  simp [revisePlaced]

theorem doRevise_of_open (hl : s.laneOf? c.aud = some l) :
    doRevise x c s = ((revisePlaced x c s).withLane l
      (lessRepairs (fun e => e.names c.aud c.track c.num) (s.lane l)), rewrittenCue x c s) := by
  have hopen : (revisePlaced x c s).laneOf? c.aud = some l :=
    (State.laneOf?_congr (revisePlaced_directory x c s) c.aud).trans
      ((reviseLineup_laneOf? x c s c.aud).trans hl)
  have hlane : (revisePlaced x c s).lane l = s.lane l := revisePlaced_keeps x c s (.lane l) (by simp)
  rw [doRevise_eq, ← hlane, ← removeRepairsOf_of_open hopen]
  rfl

/-- What an accepted CUE_REVISE leaves of the show, the lane and the pool (R48, R51, R59, R60, R130). -/
structure Revised (x : CueBody) (c : Cue) (l : LaneId) (s t : State) : Prop where
  cues : t.table.cues = s.table.cues.map (fun d => if d.slot = c.slot then rewrittenCue x c s else d)
  free : t.table.free = (s.table.free ++ c.blocks).drop (blocksFor x.declared)
  stored : ∀ (i : Nat) (v : Byte), x.inline[i]? = some v →
    payloadByte (rewrittenCue x c s).blocks t.table.payload i = v
  others : ∀ j, (∀ i, i < x.inline.length → payloadAddr (rewrittenCue x c s).blocks i ≠ some j) →
    memRead t.table.payload j = memRead s.table.payload j
  stays : x.inP = c.inP → t.lineup c.aud c.track = s.lineup c.aud c.track
  place : x.inP ≠ c.inP → ∃ l1 l2,
    (s.lineup c.aud c.track).filter (fun k => k != c.slot) = l1 ++ l2
      ∧ t.lineup c.aud c.track = l1 ++ c.slot :: l2
      ∧ (∀ k ∈ l1, keyLt (x.inP, c.num) (s.lineupKey k) = false)
      ∧ (∀ k, l2.head? = some k → keyLt (x.inP, c.num) (s.lineupKey k) = true)
  cueCount : t.cueCount c.aud = s.cueCount c.aud
  show_ : LineupOnly c.aud c.track s t
  lane : t.lane l = lessRepairs (fun e => e.names c.aud c.track c.num) (s.lane l)
  poolLow : (t.cond .poolLow).on = decide (t.table.free.length < s.setting .poolLowMark)
  keeps : Keeps [.show_ c.aud, .cues, .freeBlocks, .payload, .lane l, .cond .poolLow] s t

theorem lineupKey_reviseLifted (hs : CueTableOk s) (hc : c ∈ s.table.cues) {k : Nat} (hk : k ≠ c.slot) :
    (reviseLifted x c s).lineupKey k = s.lineupKey k := by
  refine lineupKey_of_cueAt ?_
  have htable : ((reviseTable x c s).dropFromLineup c).table = (reviseTable x c s).table := by simp
  have hcue : ((reviseTable x c s).dropFromLineup c).cueAt c.slot = some c :=
    (cueAt_congr htable c.slot).trans (hs.cueAt_of_mem hc)
  refine (cueAt_putCue (c' := rewrittenCue x c s) hcue rfl k).trans ((if_neg hk).trans ?_)
  exact cueAt_congr htable k

theorem revised_doRevise (hs : CueTableOk s) (hwf : Memory.wf s.table.payload = true)
    (hc : c ∈ s.table.cues) (hbody : bodyOk c.kind x = true)
    (hroom : blocksFor x.declared ≤ s.table.free.length + c.blocks.length)
    (hl : s.laneOf? c.aud = some l) : Revised x c l s (doRevise x c s).1 := by
  have hok := cueTableOk_doRevise hs hc hbody hroom
  have htable := doRevise_table x c s
  have hmem : rewrittenCue x c s ∈ (doRevise x c s).1.table.cues := by
    rw [htable]
    exact List.mem_map.2 ⟨c, hc, if_pos rfl⟩
  have hdir : (doRevise x c s).1.directory
      = (reviseLineup x c (rewrittenCue x c s) (reviseTable x c s)).directory := by
    rw [doRevise_of_open hl]
    exact revisePlaced_directory x c s
  have htracks (v : Track) := (State.track?_congr hdir c.aud v).trans (reviseLineup_track? x c s v)
  have hlineup : (doRevise x c s).1.lineup c.aud c.track
      = reviseOrder x c s (s.lineup c.aud c.track) := by
    obtain ⟨r, hr⟩ := hs.track_of_cue hc
    rw [State.lineup_of_track? hr]
    refine State.lineup_of_track? (r := { r with lineup := reviseOrder x c s r.lineup }) ?_
    rw [htracks, hr]
    simp
  refine ⟨by rw [htable]; rfl, by rw [htable], fun i v hv => ?_, fun j hj => ?_, fun hin => ?_,
    fun hin => ?_, ?_, ?_, ?_, ?_, ?_⟩
  · rw [htable]
    exact payloadByte_of_cell hok hmem hwf (bodyOk_inline hbody) hv
  · rw [htable]
    exact memRead_of_untouched hwf hj
  · rw [hlineup, reviseOrder, if_pos hin.symm]
  · rw [hlineup, reviseOrder, if_neg (Ne.symm hin)]
    refine insertLineup_split _ c.slot fun k hk => lineupKey_reviseLifted hs hc ?_
    simpa using (List.mem_filter.1 hk).2
  · rw [State.cueCount_congr hdir, reviseLineup_cueCount]
  · exact lineupOnly_of_track? ((State.laneOf?_congr hdir c.aud).trans
      (reviseLineup_laneOf? x c s c.aud)) htracks
  · rw [doRevise_of_open hl]
    exact State.lane_withLane_self _ _ _
  · have hpool := poolLow_judgePool (reviseLineup x c (rewrittenCue x c s) (reviseTable x c s))
      (.aud c.aud)
    have hmark : (reviseLineup x c (rewrittenCue x c s) (reviseTable x c s)).setting .poolLowMark
        = s.setting .poolLowMark :=
      Eq.trans (reviseLineup_keeps x c (rewrittenCue x c s) (reviseTable x c s) rfl
        (.setting .poolLowMark) (by simp)) rfl
    have hfree : (reviseLineup x c (rewrittenCue x c s) (reviseTable x c s)).table.free
        = (doRevise x c s).1.table.free := by
      rw [htable, reviseLineup_table]
      rfl
    rw [← hmark, ← hfree, doRevise_of_open hl]
    exact hpool
  · rw [doRevise_of_open hl]
    exact ((revisePlaced_keeps x c s).mono (by simp)).trans ((withLane_keeps _ _ _).mono (by simp))

end

/-! ### The checks (R58) -/

/-- The checks of CUE_REVISE on a cue that exists, in their order (R58). -/
theorem actCueRevise_of_findCue {q : CueReviseReq} {s : State} {c : Cue}
    (htrack : (s.track? q.aud q.track).isSome = true)
    (hc : s.findCue q.aud q.track q.num = some c) :
    actCueRevise q s =
      if !bodyOk c.kind q.body then .error .badFormat
      else if !aheadOfFilm s q.aud q.body.outP then .error .late
      else if s.table.free.length + c.blocks.length < blocksFor q.body.declared then .error .noRoom
      else
        accept (doRevise q.body c s).1 ([(rewrittenCue q.body c s).rev]
          ++ be16 ((doRevise q.body c s).1.lineupIndex (rewrittenCue q.body c s))
          ++ be8 (rewrittenCue q.body c s).blocks.length
          ++ be16 (doRevise q.body c s).1.table.free.length) := by
  unfold actCueRevise
  rw [withCue_some _ htrack hc]
  rfl

/-- Settles O45. -/
theorem cueReviseRewritesTheRecord : Obligations.CueReviseRewritesTheRecord := by
  intro m rest s h
  refine ⟨fun hbad => exec_badForm (exec_cueRevise s) h hbad, fun q hq =>
    ⟨refusedOffTrack_of_withTrack (exec_cueRevise s) h (withForm_some hq _ _),
      fun htrack hnone => exec_refused (exec_cueRevise s) h hq (withCue_noSuch _ htrack hnone),
      fun c htrack hc => ?_⟩⟩
  have hact := actCueRevise_of_findCue (s := s.withInbox rest) htrack hc
  have hrefused {e : Result} (hact : actCueRevise q (s.withInbox rest) = .error e) :
      Refused .cueRevise m rest e s := exec_refused (exec_cueRevise s) h hq hact
  intro formed inTime hasRoom
  have hformed (hform : formed) : ¬(!bodyOk c.kind q.body) = true := by
    rw [(bodyOk_iff c.kind q.body).2 hform]
    exact Bool.false_ne_true
  have hinTime (htime : inTime) : ¬(!aheadOfFilm (s.withInbox rest) q.aud q.body.outP) = true := by
    rw [(aheadOfFilm_iff (s.withInbox rest) q.aud q.body.outP).2 htime]
    exact Bool.false_ne_true
  have hhasRoom (hroom : hasRoom) : ¬(s.withInbox rest).table.free.length + c.blocks.length
      < blocksFor q.body.declared := Nat.not_lt.2 hroom
  refine ⟨fun hno => hrefused ?_, fun hform hno => hrefused ?_,
    fun hform htime hno => hrefused ?_, fun l hform htime hroom hl hcues hwf => ?_⟩
  · rw [hact]
    refine if_pos ?_
    rw [Bool.eq_false_iff.2 (mt (bodyOk_iff c.kind q.body).1 hno)]
    rfl
  · rw [hact, if_neg (hformed hform)]
    refine if_pos ?_
    rw [Bool.eq_false_iff.2 (mt (aheadOfFilm_iff (s.withInbox rest) q.aud q.body.outP).1 hno)]
    rfl
  · rw [hact, if_neg (hformed hform), if_neg (hinTime htime)]
    exact if_pos (Nat.lt_of_not_le hno)
  · rw [if_neg (hformed hform), if_neg (hinTime htime), if_neg (hhasRoom hroom)] at hact
    obtain ⟨a, u, n, body⟩ := q
    obtain ⟨rfl, rfl, rfl⟩ := named_of_findCue hc
    have hrevised := revised_doRevise (s := s.withInbox rest) hcues hwf (mem_of_findCue hc)
      ((bodyOk_iff c.kind body).2 hform) hroom hl
    have hrecord : rewrittenCue body c (s.withInbox rest) = rewrittenCue body c s := rfl
    dsimp only at hact
    rw [hrecord] at hact
    generalize (doRevise body c (s.withInbox rest)).1 = v at hact hrevised
    obtain ⟨hexec, hframe, hresp⟩ := exec_accepted (exec_cueRevise s) h hq hact hrevised.keeps
    refine ⟨_, rewrittenCue body c s, hexec, ?_, hrevised.cues, hrevised.free, hrevised.stored,
      hrevised.others, hrevised.stays, hrevised.place, hrevised.cueCount, hrevised.show_,
      hrevised.lane, hrevised.poolLow, hresp, hframe⟩
    rw [rewrittenCue, revisedCue, attrsFor_eq]
    rfl

end Sys2Proof.Machine
end


section
/-! PROOFS. SHOW_CLOSE (O41). -/

namespace Sys2Proof.Machine

theorem exec_showClose (s : State) :
    exec .showClose s = takeRequest .showClose (withForm showClose? actShowClose) s := rfl

/-- A change of one auditorium's show in the directory. -/
theorem directory_keeps (s : State) (a : Aud) (w : Option Show) :
    Keeps [.show_ a] s { s with directory := vput s.directory a w } := by
  intro p hp
  cases p with
  | show_ b => exact vput_get_of_ne s.directory w fun h => hp (by simp [h])
  | txn | forced => exact ⟨rfl, rfl⟩
  | _ => rfl

/-! ### All the cues of an auditorium are freed (R13, R14) -/

/-- A state in the course of the freeing of an auditorium's cues, the auditorium being open on lane `l`. -/
structure Emptying (a : Aud) (l : LaneId) (s u : State) : Prop where
  keeps : Keeps [.show_ a, .cues, .freeBlocks, .lane l, .cond .poolLow] s u
  opens : ∀ b, u.laneOf? b = s.laneOf? b
  cues : ∀ k c, u.cueAt k = some c → s.cueAt k = some c
  lane : u.lane l = (s.lane l).lessSlots (slotGone s u)

theorem Emptying.refl (a : Aud) (l : LaneId) (s : State) : Emptying a l s s where
  keeps := .refl _ _
  opens _ := rfl
  cues _ _ h := h
  lane := by
    have hnone : slotGone s s = fun _ => false := by
      funext k
      cases hk : s.cueAt k <;> simp [slotGone, hk]
    rw [hnone, Lane.lessSlots_none]

theorem Emptying.freeCue {l : LaneId} {s u : State} {c : Cue} (h : Emptying c.aud l s u)
    (hc : u.cueAt c.slot = some c) (hopen : s.laneOf? c.aud = some l) :
    Emptying c.aud l s (u.freeCue c) where
  keeps := h.keeps.trans (freeCue_changes ((h.opens _).trans hopen))
  opens b := (freeCue_laneOf? u c b).trans (h.opens b)
  cues k d hd := by
    rw [cueAt_freeCue] at hd
    split at hd
    · cases hd
    · exact h.cues k d hd
  lane := by
    have hgone : slotGone s (u.freeCue c) = fun k => slotGone s u k || k == c.slot := by
      funext k
      rw [slotGone, slotGone, cueAt_freeCue]
      by_cases hk : k = c.slot
      · simp [hk, h.cues _ _ hc]
      · simp [hk]
    rw [lane_freeCue ((h.opens _).trans hopen), h.lane, Lane.lessSlots_lessSlots, hgone]

section

variable {s : State} {a : Aud} {l : LaneId}

theorem emptying_emptyShow (hs : CueTableOk s) (hopen : s.laneOf? a = some l) :
    Emptying a l (clearTraffic a l s) (emptyShow a l s) := by
  have hclear : CueTableOk (clearTraffic a l s) := cueTableOk_of_stocks hs (.of_directory rfl) rfl rfl
  refine forCues_induction (P := Emptying a l (clearTraffic a l s)) (fun u c hmem hu hc => ?_)
    (.refl a l _)
  have hd := hu.cues _ _ hc
  have hca : c.aud = a := (hclear.mem_slotsOf_iff (mem_of_cueAt hd)).1 hmem
  subst hca
  exact hu.freeCue hc hopen

/-- Freeing the listed slots appends their blocks to the free-block list in that order (R13, R50). -/
theorem free_freeAll {ks : List Nat} (hnodup : ks.Nodup) (s : State) :
    (State.forCues (fun c s => s.freeCue c) ks s).table.free
      = s.table.free ++ (ks.filterMap s.cueAt).flatMap Cue.blocks := by
  induction ks generalizing s with
  | nil => simp [State.forCues]
  | cons k ks ih =>
    obtain ⟨hk, hks⟩ := List.nodup_cons.1 hnodup
    unfold State.forCues
    cases hc : s.cueAt k with
    | none =>
      dsimp only
      rw [ih hks, List.filterMap_cons_none hc]
    | some c =>
      dsimp only
      have hsame : ks.filterMap (s.freeCue c).cueAt = ks.filterMap s.cueAt := by
        refine List.filterMap_congr fun j hj => ?_
        rw [cueAt_freeCue, if_neg]
        rintro rfl
        rw [slot_of_cueAt hc] at hj
        exact hk hj
      rw [ih hks, List.filterMap_cons_some hc, hsame, State.freeCue_table]
      simp

/-- The cues of an auditorium, track by track in lineup order, are those of the table (R48, R67). -/
theorem cuesOf_perm (hs : CueTableOk s) (a : Aud) :
    ((s.slotsOf a).filterMap s.cueAt).Perm (s.table.cues.filter fun c => c.aud == a) := by
  have hcues : s.table.cues.Nodup := .of_map Cue.slot (hs.1.imp Nat.ne_of_lt)
  refine (List.perm_ext_iff_of_nodup ?_ (hcues.filter _)).2 fun c => ?_
  · refine (hs.slotsOf_nodup a).filterMap fun j k c hj hk => ?_
    rw [← slot_of_cueAt hj, ← slot_of_cueAt hk]
  · rw [List.mem_filterMap, List.mem_filter]
    constructor
    · rintro ⟨k, hk, hc⟩
      rw [← slot_of_cueAt hc] at hk
      have hmem := mem_of_cueAt hc
      exact ⟨hmem, by simpa using (hs.mem_slotsOf_iff hmem).1 hk⟩
    · rintro ⟨hc, haud⟩
      exact ⟨c.slot, (hs.mem_slotsOf_iff hc).2 (by simpa using haud), hs.cueAt_of_mem hc⟩

theorem emptyShow_cues (hs : CueTableOk s) (a : Aud) (l : LaneId) :
    (emptyShow a l s).table.cues = s.table.cues.filter fun c => c.aud != a := by
  have hclear : CueTableOk (clearTraffic a l s) := cueTableOk_of_stocks hs (.of_directory rfl) rfl rfl
  refine (freeAll_cueTableOk (s.slotsOf a) hclear).2.trans (List.filter_congr fun c hc => ?_)
  rw [List.contains_eq_mem, Bool.eq_iff_iff]
  simp [hs.mem_slotsOf_iff hc]

theorem emptyShow_free (hs : CueTableOk s) (a : Aud) (l : LaneId) :
    (emptyShow a l s).table.free
      = s.table.free ++ ((s.slotsOf a).filterMap s.cueAt).flatMap Cue.blocks :=
  free_freeAll (hs.slotsOf_nodup a) (clearTraffic a l s)

/-- The notices that a closed auditorium leaves (R14). -/
def noticeStays (a : Aud) (n : Notice) : Bool :=
  match n.item with
  | .withdraw x _ _ => x != a
  | .release _ _ => true

theorem noticeStays_eq (a : Aud) (n : Notice) : noticeStays a n = !n.withdraws a := by
  unfold noticeStays Notice.withdraws
  cases n.item <;> rfl

/-- What is left of a stage of a build for a closed auditorium (R14, R101). -/
def stageClosed (a : Aud) (notices : List Notice) (s t : State) (st : Stage) : Stage :=
  match st with
  | .stamps left => .stamps (left.filter fun x => x != a)
  | .notices passed placed => .notices ((notices.take passed).filter (noticeStays a)).length placed
  | st => stageLeft a true s t st

/-- The lane of a closed auditorium (R14, R101). -/
def closedLane (a : Aud) (x : Lane) (s t : State) : Lane :=
  { lessRepairs (fun e => e.aud == a) x with
    notices := x.notices.filter (noticeStays a)
    build := (lessRepairs (fun e => e.aud == a) x).build.map fun b => { b with
      readings := b.readings.filter fun y => y.1 != a
      stage := stageClosed a x.notices s t b.stage } }

theorem lane_emptyShow (hs : CueTableOk s) (hopen : s.laneOf? a = some l) :
    (emptyShow a l s).lane l = closedLane a (s.lane l) s (emptyShow a l s) := by
  have hgone : slotGone (clearTraffic a l s) (emptyShow a l s) = slotGone s (emptyShow a l s) := rfl
  have hstays : (fun n => !Notice.withdraws a n) = noticeStays a :=
    funext fun n => (noticeStays_eq a n).symm
  rw [(emptying_emptyShow hs hopen).lane, hgone, clearTraffic, State.lane_withLane_self,
    Lane.removeRepairs_eq]
  unfold closedLane Lane.removeNotices
  rw [hstays]
  obtain ⟨st, no, b0, b1, missed, rf, build, notices, repairs, rotation, out⟩ := s.lane l
  cases build with
  | none => simp [lessRepairs, Lane.lessSlots, Lane.modBuild]
  | some b =>
    obtain ⟨buf, air, number, readings, jumped, stage⟩ := b
    cases stage <;>
      simp [lessRepairs, Lane.lessSlots, Lane.modBuild, Build.closeAud, Build.forgetAud_eq,
        Build.dropNotices, stageClosed, stageLeft, stageKeeps, slotGone, List.filter_filter,
        bne, Bool.and_comm, hstays]

/-! ### The auditorium is shut (R13, R15) -/

theorem closeShow_changes (hs : CueTableOk s) (hopen : s.laneOf? a = some l) :
    Keeps [.show_ a, .timeline a, .sync a, .cues, .freeBlocks, .lane l, .cond .tlCoast, .cond .tlLost,
      .cond .poolLow] s (closeShow a l s) := by
  have hclear : Keeps [.lane l] s (clearTraffic a l s) := withLane_keeps _ _ _
  have hshut : Keeps [.show_ a, .timeline a, .sync a] (emptyShow a l s)
      (shutShow a (emptyShow a l s)) :=
    ((directory_keeps _ a none).mono (by simp)).trans
      (((withTimeline_keeps _ a _).mono (by simp)).trans ((withSync_keeps _ a _).mono (by simp)))
  exact (hclear.mono (by simp)).trans (((emptying_emptyShow hs hopen).keeps.mono (by simp)).trans
    ((hshut.mono (by simp)).trans ((judgeTimelines_keeps _ a).mono (by simp))))

theorem closeShow_syncIn (s : State) (a : Aud) (l : LaneId) :
    (closeShow a l s).syncIn a = { s.syncIn a with capture := none } := by
  have hsync : (closeShow a l s).sync = (shutShow a (emptyShow a l s)).sync := by simp [closeShow]
  have hempty : (emptyShow a l s).syncIn a = s.syncIn a := by simp [State.syncIn]
  rw [← hempty, State.syncIn, hsync]
  exact vput_get_self ..

theorem closeShow_lane (s : State) (a : Aud) (l : LaneId) :
    (closeShow a l s).lane l = (emptyShow a l s).lane l :=
  Eq.trans (judgeTimelines_keeps _ a (.lane l) (by simp)) rfl

theorem closeShow_table (s : State) (a : Aud) (l : LaneId) :
    (closeShow a l s).table = (emptyShow a l s).table := by simp [closeShow]

end

theorem closedLane_congr {s s' t t' : State} (hs : s'.table = s.table) (ht : t'.table = t.table)
    (a : Aud) (x : Lane) : closedLane a x s' t' = closedLane a x s t := by
  have hstage (ns : List Notice) (st : Stage) : stageClosed a ns s' t' st = stageClosed a ns s t st := by
    unfold stageClosed
    simp only [stageLeft_congr (cueAt_congr hs) (cueAt_congr ht)]
  unfold closedLane
  simp only [hstage]

theorem length_sub_filter {α : Type} (p : α → Bool) (xs : List α) :
    xs.length - (xs.filter fun x => !p x).length = (xs.filter p).length := by
  have := List.length_eq_length_filter_add (l := xs) p
  omega

theorem actShowClose_open {a : Aud} {w : Show} {s : State} (h : s.theShow? a = some w) :
    actShowClose a s = accept (closeShow a w.lane s)
      (be16 ((s.slotsOf a).filterMap s.cueAt).length
        ++ be16 (((s.slotsOf a).filterMap s.cueAt).map fun c => c.blocks.length).sum
        ++ be8 ((s.lane w.lane).repairs.filter fun e => e.aud == a).length
        ++ be8 ((s.lane w.lane).notices.filter (Notice.withdraws a)).length) := by
  unfold actShowClose
  rw [h]
  rfl

/-- The counts of a SHOW_CLOSE are what its state has lost (R13, R14, R184). -/
theorem closeShow_counts {s : State} (hs : CueTableOk s) {a : Aud} {l : LaneId}
    (hopen : s.laneOf? a = some l) :
    ((s.slotsOf a).filterMap s.cueAt).length
        = s.table.cues.length - (closeShow a l s).table.cues.length
      ∧ (((s.slotsOf a).filterMap s.cueAt).map fun c => c.blocks.length).sum
        = (closeShow a l s).table.free.length - s.table.free.length
      ∧ ((s.lane l).repairs.filter fun e => e.aud == a).length
        = (s.lane l).repairs.length - ((closeShow a l s).lane l).repairs.length
      ∧ ((s.lane l).notices.filter (Notice.withdraws a)).length
        = (s.lane l).notices.length - ((closeShow a l s).lane l).notices.length := by
  rw [closeShow_table, closeShow_lane, lane_emptyShow hs hopen, emptyShow_cues hs, emptyShow_free hs]
  refine ⟨?_, ?_, (length_sub_filter _ _).symm, ?_⟩
  · rw [(cuesOf_perm hs a).length_eq]
    exact (length_sub_filter (fun c : Cue => c.aud == a) _).symm
  · rw [List.length_append, Nat.add_sub_cancel_left, List.length_flatMap]
  · refine (length_sub_filter _ _).symm.trans ?_
    rw [closedLane, funext (noticeStays_eq a)]

/-- Settles O41. -/
theorem showCloseFreesEverything : Obligations.ShowCloseFreesEverything := by
  intro m rest s h
  refine ⟨fun hbad => exec_badForm (exec_showClose s) h hbad, fun a ha => ⟨fun hclosed => ?_,
    fun w hw hcues => ?_⟩⟩
  · refine exec_refused (exec_showClose s) h ha ?_
    have hnone : s.theShow? a = none := by simpa [State.isOpen] using hclosed
    have hnone : (s.withInbox rest).theShow? a = none := hnone
    unfold actShowClose
    rw [hnone]
  · intro stays
    have hopen : (s.withInbox rest).laneOf? a = some w.lane := by
      rw [State.laneOf?]
      exact congrArg (Option.map Show.lane) hw
    have hstays : stays = noticeStays a := by
      funext n
      cases hn : n.item <;> simp [stays, noticeStays, hn]
    obtain ⟨hcount, hblocks, hrepairs, hnotices⟩ := closeShow_counts (s := s.withInbox rest) hcues hopen
    have hact := actShowClose_open (s := s.withInbox rest) hw
    have hchanges := closeShow_changes (s := s.withInbox rest) hcues hopen
    have hshow := closeShow_theShow? (s.withInbox rest) a a w.lane
    have htable := closeShow_table (s.withInbox rest) a w.lane
    have htl := closeShow_timeline (s.withInbox rest) a a w.lane
    have hsync := closeShow_syncIn (s.withInbox rest) a w.lane
    have hlane := ((closeShow_lane (s.withInbox rest) a w.lane).trans
      (lane_emptyShow (s := s.withInbox rest) hcues hopen)).trans
        (closedLane_congr (s' := s.withInbox rest) (s := s) rfl htable.symm a _)
    have hcuesAfter := (congrArg CueTable.cues htable).trans
      (emptyShow_cues (s := s.withInbox rest) hcues a w.lane)
    have hfreeAfter := (congrArg CueTable.free htable).trans
      (emptyShow_free (s := s.withInbox rest) hcues a w.lane)
    rw [hcount, hblocks, hrepairs, hnotices] at hact
    rw [if_pos rfl] at hshow htl
    generalize closeShow a w.lane (s.withInbox rest) = v at *
    obtain ⟨hexec, hframe, hresp⟩ := exec_accepted (exec_showClose s) h ha hact hchanges
    refine ⟨_, hexec, hshow, hcuesAfter, hfreeAfter, htl, hsync, ?_, hresp, hframe⟩
    rw [hstays]
    refine hlane.trans ?_
    unfold closedLane
    congr 2

end Sys2Proof.Machine
end


section
/-! SUPPORT. SHOW_OPEN: the tracks of the opened auditorium, and the records bound to it re-placed one by one
(R4 to R8). -/

namespace Sys2Proof.Machine

/-! ### The tracks (R4, R7) -/

theorem tracksFrom?_shape {b : List Byte} {k n : Nat} {ts : List TrackRec}
    (h : tracksFrom? b k n = some ts) : ts.length = n ∧ ∀ r ∈ ts, r.lastDone = none := by
  induction n generalizing k ts with
  | zero =>
    obtain rfl := Option.some.inj h
    exact ⟨rfl, fun _ hr => absurd hr List.not_mem_nil⟩
  | succ n ih =>
    unfold tracksFrom? at h
    split at h
    · next r rs hr hrs =>
      obtain rfl := Option.some.inj h
      obtain ⟨hlen, hrest⟩ := ih hrs
      refine ⟨by rw [List.length_cons, hlen], fun x hx => ?_⟩
      obtain rfl | hx := List.mem_cons.1 hx
      · unfold trackAt? at hr
        dsimp only at hr
        split at hr
        · split at hr
          · obtain rfl := Option.some.inj hr
            rfl
          · cases hr
        · cases hr
      · exact hrest x hx
    · cases h

/-- A SHOW_OPEN names at most four tracks, none of which has completed a cue (R4, R64). -/
theorem showOpen?_shape {b : List Byte} {q : ShowOpenReq} (h : showOpen? b = some q) :
    q.tracks.length ≤ 4 ∧ ∀ r ∈ q.tracks, r.lastDone = none := by
  unfold showOpen? at h
  dsimp only at h
  split at h
  · next hn =>
    split at h
    · next hts =>
      obtain rfl := Option.some.inj h
      obtain ⟨hlen, hdone⟩ := tracksFrom?_shape hts
      exact ⟨by rw [hlen]; exact hn.2.1, hdone⟩
    · cases h
  · cases h

/-- The recount rewrites the listener counts of the listed tracks (R7). -/
theorem track?_foldl_recount (ts : List Track) (s : State) (a : Aud) (u : Track) :
    (ts.foldl (fun s t => s.modTrack a t fun w => { w with listeners := recountOf s a t }) s).track? a u
      = if u ∈ ts then (s.track? a u).map fun w => { w with listeners := recountOf s a u }
        else s.track? a u := by
  induction ts generalizing s with
  | nil => rfl
  | cons t ts ih =>
    have hkinds : SameKinds s (s.modTrack a t fun w => { w with listeners := recountOf s a t }) :=
      modTrack_sameKinds _ _ _ fun _ => rfl
    have hrecount : recountOf (s.modTrack a t fun w => { w with listeners := recountOf s a t }) a u
        = recountOf s a u := recountOf_of_voices (hkinds a u) (.of_roster (by simp))
    rw [List.foldl_cons, ih, hrecount, State.track?_modTrack]
    by_cases ht : u = t
    · subst ht
      cases s.track? a u <;> simp
    · simp [ht]

theorem recountTracks_track? (s : State) (a : Aud) (u : Track) :
    (recountTracks a s).track? a u
      = (s.track? a u).map fun w => { w with listeners := recountOf s a u } :=
  (track?_foldl_recount allTracks s a u).trans (if_pos (mem_allTracks u))

/-- The lane, the cue count and the number of tracks of a show. -/
def Show.outline (w : Show) : LaneId × Nat × Nat := (w.lane, w.cueCount, w.tracks.length)

theorem outline_modTrack (s : State) (a b : Aud) (t : Track) (f : TrackRec → TrackRec) :
    ((s.modTrack a t f).theShow? b).map Show.outline = (s.theShow? b).map Show.outline := by
  rw [State.theShow?_modTrack]
  split
  · next h =>
    subst h
    cases s.theShow? b <;> simp [Show.outline]
  · rfl

theorem recountTracks_outline (s : State) (a b : Aud) :
    ((recountTracks a s).theShow? b).map Show.outline = (s.theShow? b).map Show.outline := by
  unfold recountTracks
  induction allTracks generalizing s with
  | nil => rfl
  | cons t ts ih => rw [List.foldl_cons, ih, outline_modTrack]

theorem beginRun_show (q : ShowOpenReq) (s : State) :
    (beginRun q s).theShow? q.aud = some ⟨q.lane, q.tracks, 0⟩ := vput_get_self ..

theorem openShow_directory (q : ShowOpenReq) (s : State) : (openShow q s).directory
    = (recountTracks q.aud (recountFlags q.aud (beginRun q s))).directory := by
  simp [openShow]

/-- The records that count for a track of the opened auditorium (R7, R137). -/
theorem recountOf_opened {q : ShowOpenReq} {s : State} {u : Track} {r : TrackRec}
    (hr : q.tracks[u.val]? = some r) :
    recountOf (recountFlags q.aud (beginRun q s)) q.aud u = (s.roster.filter fun x =>
      x.aud == q.aud && x.track.val == u.val && suits x.kind r.kind && x.state != .lost).length := by
  have hb : (beginRun q s).roster = s.roster := by simp
  have htrack : (beginRun q s).track? q.aud u = some r := by
    rw [State.track?, beginRun_show]
    exact hr
  rw [recountOf_eq, recountFlags_roster, hb, List.countP_map, ← List.countP_eq_length_filter]
  refine List.countP_congr fun x _ => ?_
  have hval : (x.track.val == u.val) = (x.track == u) := by
    rw [Bool.eq_iff_iff]
    simp [Fin.ext_iff]
  by_cases hx : x.aud = q.aud ∧ x.track = u
  · obtain ⟨haud, htr⟩ := hx
    have hmatched : (beginRun q s).matched x = suits x.kind r.kind := by
      rw [State.matched, haud, htr, htrack]
    have hflag : reflagged (beginRun q s) q.aud x = { x with unmatched := !suits x.kind r.kind } := by
      rw [reflagged, if_pos haud, hmatched]
    have hthere : (recountFlags q.aud (beginRun q s)).track? q.aud u = some r := htrack
    rw [Function.comp_apply, hflag]
    unfold countsFor State.counted
    simp only [haud, htr, hthere]
    cases x.state <;> simp [countingState]
  · obtain ⟨-, -, -, haud, htr⟩ := reflagged_ids (beginRun q s) q.aud x
    have hoff : (x.aud == q.aud && x.track == u) = false := by simpa using hx
    rw [Function.comp_apply, hval, hoff, countsFor, haud, htr, hoff]
    simp

/-- A track of the opened auditorium: as given, with its listeners counted (R4, R7). -/
theorem openShow_track {b : List Byte} {q : ShowOpenReq} {s : State} (hform : showOpen? b = some q)
    {u : Track} {r : TrackRec} (hr : q.tracks[u.val]? = some r) :
    (openShow q s).track? q.aud u = some { r with
      listeners := (s.roster.filter fun x =>
        x.aud == q.aud && x.track.val == u.val && suits x.kind r.kind && x.state != .lost).length
      lastDone := none, lineup := [] } := by
  have htrack : (recountFlags q.aud (beginRun q s)).track? q.aud u = some r := by
    have hbegun : (beginRun q s).track? q.aud u = some r := by
      rw [State.track?, beginRun_show]
      exact hr
    exact hbegun
  have hmem : r ∈ q.tracks := List.mem_of_getElem? hr
  rw [State.track?_congr (openShow_directory q s), recountTracks_track?, htrack, Option.map_some,
    recountOf_opened hr, ← showOpen?_lineup hform r hmem, ← (showOpen?_shape hform).2 r hmem]

/-- The opened show (R4). -/
theorem openShow_show (q : ShowOpenReq) (s : State) :
    ∃ w, (openShow q s).theShow? q.aud = some w ∧ w.lane = q.lane ∧ w.cueCount = 0
      ∧ w.tracks.length = q.tracks.length := by
  have houtline : ((openShow q s).theShow? q.aud).map Show.outline
      = some (q.lane, 0, q.tracks.length) := by
    rw [State.theShow?_congr (openShow_directory q s), recountTracks_outline]
    exact congrArg (Option.map Show.outline) (beginRun_show q s)
  obtain ⟨w, hw, heq⟩ := Option.map_eq_some_iff.1 houtline
  simp only [Show.outline, Prod.mk.injEq] at heq
  exact ⟨w, hw, heq⟩

/-! ### The records bound to it (R8) -/

/-- A record that joins a rotation at the opening: not LOST and not there (R8). -/
def joinsAtOpen (rot : List RxIdx) (r : RxRec) : Bool := r.state != .lost && !rot.contains r.index

/-- A record that leaves the other lane's rotation at the opening (R8). -/
def leavesAtOpen (s : State) (k : LaneId) (r : RxRec) : Bool :=
  r.state != .lost && !(r.state == .moving && (r.movedFrom.map fun b => s.openOn b k).getD false)

theorem reJoined_state_lost (a : Aud) (l : LaneId) (s : State) (r : RxRec) :
    (reJoined a l s r).state = .lost ↔ r.state = .lost := by
  unfold reJoined
  split
  · next h =>
    simp only [movesAtOpen, Bool.and_eq_true, Bool.or_eq_true, beq_iff_eq] at h
    obtain ⟨⟨hj | hj, -⟩, -⟩ := h <;> simp [hj]
  · rfl

theorem reJoined_index (a : Aud) (l : LaneId) (s : State) (r : RxRec) :
    (reJoined a l s r).index = r.index := by
  unfold reJoined
  split <;> rfl

section

variable {a : Aud} {l : LaneId} {s : State} {r : RxRec}

theorem rePlaceOne_of_lost (h : r.state = .lost) :
    rePlaceOne a l s r = s.putRx (reJoined a l s r) := by
  rw [rePlaceOne_eq]
  exact if_pos ((reJoined_state_lost a l s r).2 h)

/-- The condition of R8 under which a record stays in the other lane's rotation. -/
theorem stays_iff {u : State} (hopen : u.openOn a l.other = false) (hlost : r.state ≠ .lost)
    (hdir : u.directory = s.directory) :
    ((reJoined a l s r).state = .moving
        ∧ ((reJoined a l s r).movedFrom.map fun m => u.openOn m l.other).getD false = true)
      ↔ leavesAtOpen s l.other r = false := by
  have hsame : (fun m => u.openOn m l.other) = fun m => s.openOn m l.other := by
    funext m
    rw [State.openOn, State.laneOf?_congr hdir, State.openOn]
  rw [hsame]
  rw [State.openOn, State.laneOf?_congr hdir, ← State.openOn] at hopen
  have hlost' : (r.state != .lost) = true := bne_iff_ne.2 hlost
  unfold leavesAtOpen reJoined
  split
  · next h =>
    simp only [movesAtOpen, Bool.and_eq_true, Bool.or_eq_true, beq_iff_eq] at h
    obtain ⟨⟨hj | hj, -⟩, -⟩ := h <;> simp [hj, hopen]
  · simp [hlost', beq_iff_eq]

/-- A re-placed record joins the new lane's rotation unless it is there, and leaves the other's unless it is
MOVING from an auditorium open there (R8). -/
theorem rePlaceOne_lane (hopen : s.openOn a l.other = false) :
    (rePlaceOne a l s r).lane l = { s.lane l with
        rotation := if joinsAtOpen (s.lane l).rotation r then (s.lane l).rotation ++ [r.index]
          else (s.lane l).rotation }
      ∧ (rePlaceOne a l s r).lane l.other = { s.lane l.other with
        rotation := if leavesAtOpen s l.other r
          then (s.lane l.other).rotation.filter (fun i => i != r.index)
          else (s.lane l.other).rotation } := by
  have hne : l.other ≠ l := by cases l <;> simp [LaneId.other]
  by_cases hlost : r.state = .lost
  · rw [rePlaceOne_of_lost hlost]
    simp [joinsAtOpen, leavesAtOpen, hlost, State.putRx, State.lane]
  · let u := placeAtOpen l (reJoined a l s r) (s.putRx (reJoined a l s r))
    have hplaced : u.lane l = { s.lane l with
          rotation := if joinsAtOpen (s.lane l).rotation r then (s.lane l).rotation ++ [r.index]
            else (s.lane l).rotation }
        ∧ u.lane l.other = s.lane l.other ∧ u.directory = s.directory := by
      have hlost' : (r.state != .lost) = true := bne_iff_ne.2 hlost
      simp only [u, placeAtOpen, reJoined_index, State.inRotation, joinsAtOpen, hlost', Bool.true_and]
      by_cases hin : (s.lane l).rotation.contains r.index = true
      · have hin' : ((s.putRx (reJoined a l s r)).lane l).rotation.contains r.index = true := hin
        rw [if_pos hin', if_neg (by simpa using hin)]
        exact ⟨rfl, rfl, rfl⟩
      · have hin' : ¬((s.putRx (reJoined a l s r)).lane l).rotation.contains r.index = true := hin
        rw [if_neg hin', if_pos (by simpa using hin)]
        refine ⟨(State.lane_withLane_self _ _ _).trans ?_, State.lane_withLane_of_ne _ _ hne, rfl⟩
        have hall : (s.lane l).rotation.filter (· != r.index) = (s.lane l).rotation := by
          refine List.filter_eq_self.2 fun i hi => ?_
          rw [bne_iff_ne]
          rintro rfl
          exact hin (by simpa using hi)
        change { s.lane l with rotation := (s.lane l).rotation.filter (· != r.index) ++ [r.index] } = _
        rw [hall]
    obtain ⟨hself, hother, hdir⟩ := hplaced
    have hopen' : u.openOn a l.other = false := by
      rw [State.openOn, State.laneOf?_congr hdir]
      exact hopen
    have hstays := stays_iff (r := r) hopen' hlost hdir
    have heq : rePlaceOne a l s r = if leavesAtOpen s l.other r = false then u
        else u.rotRemove l.other r.index := by
      rw [rePlaceOne_eq]
      dsimp only
      rw [if_neg (mt (reJoined_state_lost a l s r).1 hlost), reJoined_index]
      exact if_congr hstays rfl rfl
    rw [heq]
    by_cases hleaves : leavesAtOpen s l.other r = true
    · rw [if_neg (by simp [hleaves])]
      refine ⟨(State.lane_withLane_of_ne _ _ hne.symm).trans hself,
        (State.lane_withLane_self _ _ _).trans ?_⟩
      rw [hother, if_pos hleaves]
    · rw [if_pos (by simpa using hleaves), hother, if_neg hleaves]
      exact ⟨hself, rfl⟩

theorem rePlaceOne_roster (a : Aud) (l : LaneId) (s : State) (r : RxRec) :
    (rePlaceOne a l s r).roster = (s.putRx (reJoined a l s r)).roster := by
  rw [rePlaceOne_eq]
  dsimp only [placeAtOpen]
  (repeat' split) <;> simp

theorem rePlaceOne_keeps (a : Aud) (l : LaneId) (s : State) (r : RxRec) :
    Keeps [.roster, .lane l, .lane l.other] s (rePlaceOne a l s r) := by
  have hput := (putRx_keeps s (reJoined a l s r)).mono (qs := [.roster, .lane l, .lane l.other]) (by simp)
  have hplace (u : State) (x : RxRec) : Keeps [.roster, .lane l, .lane l.other] u (placeAtOpen l x u) :=
    keeps_ite (fun _ => .refl _ _) fun _ => (rotAppend_keeps u l x.index).mono (by simp)
  rw [rePlaceOne_eq]
  exact keeps_ite (fun _ => hput) fun _ => keeps_ite (fun _ => hput.trans (hplace _ _))
    fun _ => (hput.trans (hplace _ _)).trans ((rotRemove_keeps _ _ _).mono (by simp))

end

/-! ### All the records bound to it (R8) -/

/-- The record that stands for an index after the listed ones have been re-placed. -/
def rePlaced (a : Aud) (l : LaneId) (s : State) (rs : List RxRec) (x : RxRec) : RxRec :=
  ((rs.find? fun r => r.index == x.index).map (reJoined a l s)).getD x

theorem joinsAtOpen_append {rot : List RxIdx} {i : RxIdx} {r : RxRec} (h : r.index ≠ i) :
    joinsAtOpen (rot ++ [i]) r = joinsAtOpen rot r := by
  simp [joinsAtOpen, h]

/-- What the re-placing of one record leaves for the next. -/
theorem rePlaceOne_reads (a : Aud) (l : LaneId) (s : State) (r : RxRec) :
    reJoined a l (rePlaceOne a l s r) = reJoined a l s
      ∧ (∀ b k, (rePlaceOne a l s r).openOn b k = s.openOn b k)
      ∧ ∀ k, leavesAtOpen (rePlaceOne a l s r) k = leavesAtOpen s k := by
  have hkeep := rePlaceOne_keeps a l s r
  have hclock : (rePlaceOne a l s r).clock = s.clock := hkeep .clock (by simp)
  have hsetting : (rePlaceOne a l s r).setting .joinWindow = s.setting .joinWindow :=
    hkeep (.setting .joinWindow) (by simp)
  have hopen (b : Aud) (k : LaneId) : (rePlaceOne a l s r).openOn b k = s.openOn b k := by
    have hshow : (rePlaceOne a l s r).theShow? b = s.theShow? b := hkeep (.show_ b) (by simp)
    rw [State.openOn, State.laneOf?, hshow, State.openOn, State.laneOf?]
  refine ⟨?_, hopen, fun k => ?_⟩
  · funext x
    rw [reJoined, hclock, hsetting, reJoined]
  · funext x
    simp only [leavesAtOpen, hopen]

theorem rePlaced_cons {a : Aud} {l : LaneId} {s : State} {r : RxRec} {rs : List RxRec}
    (hr : r.index ∉ rs.map RxRec.index) (x : RxRec) :
    rePlaced a l s rs (if x.index == (reJoined a l s r).index then reJoined a l s r else x)
      = rePlaced a l s (r :: rs) x := by
  unfold rePlaced
  by_cases hx : x.index = r.index
  · have hnone : rs.find? (fun y => y.index == r.index) = none := by
      refine List.find?_eq_none.2 fun y hy h => hr ?_
      rw [← beq_iff_eq.1 h]
      exact List.mem_map_of_mem hy
    simp [hx, reJoined_index, hnone]
  · have hx' : (r.index == x.index) = false := by simpa using Ne.symm hx
    have hx'' : (x.index == (reJoined a l s r).index) = false := by simpa [reJoined_index] using hx
    simp [hx', hx'']

/-- The listed records re-placed one by one: the roster, both rotations, and nothing else (R8). -/
theorem foldl_rePlaceOne {a : Aud} {l : LaneId} (rs : List RxRec) {s : State}
    (hopen : s.openOn a l.other = false) (hnodup : (rs.map RxRec.index).Nodup) :
    (rs.foldl (rePlaceOne a l) s).roster = s.roster.map (rePlaced a l s rs)
      ∧ (rs.foldl (rePlaceOne a l) s).lane l = { s.lane l with
          rotation := (s.lane l).rotation
            ++ (rs.filter (joinsAtOpen (s.lane l).rotation)).map RxRec.index }
      ∧ (rs.foldl (rePlaceOne a l) s).lane l.other = { s.lane l.other with
          rotation := (s.lane l.other).rotation.filter fun i =>
            !rs.any fun r => r.index == i && leavesAtOpen s l.other r }
      ∧ Keeps [.roster, .lane l, .lane l.other] s (rs.foldl (rePlaceOne a l) s) := by
  induction rs generalizing s with
  | nil =>
    exact ⟨(List.map_id s.roster).symm, by simp, by simp, .refl _ _⟩
  | cons r rs ih =>
    rw [List.map_cons, List.nodup_cons] at hnodup
    obtain ⟨hr, hrs⟩ := hnodup
    obtain ⟨hjoined, hopens, hleaves⟩ := rePlaceOne_reads a l s r
    obtain ⟨hself, hother⟩ := rePlaceOne_lane (r := r) hopen
    obtain ⟨hroster, hlane, hlane', hkeep⟩ := ih (s := rePlaceOne a l s r)
      (by rw [hopens]; exact hopen) hrs
    refine ⟨?_, ?_, ?_, (rePlaceOne_keeps a l s r).trans hkeep⟩
    · rw [List.foldl_cons, hroster, rePlaceOne_roster, State.putRx, List.map_map]
      refine List.map_congr_left fun x _ => ?_
      rw [← rePlaced_cons hr]
      unfold rePlaced
      rw [hjoined]
      rfl
    · rw [List.foldl_cons, hlane, hself]
      have hothers : rs.filter (joinsAtOpen (if joinsAtOpen (s.lane l).rotation r
          then (s.lane l).rotation ++ [r.index] else (s.lane l).rotation))
          = rs.filter (joinsAtOpen (s.lane l).rotation) := by
        refine List.filter_congr fun x hx => ?_
        have hne : x.index ≠ r.index := fun h => hr (h ▸ List.mem_map_of_mem hx)
        split
        · exact joinsAtOpen_append hne
        · rfl
      rw [hothers]
      by_cases hjoins : joinsAtOpen (s.lane l).rotation r = true
      · simp [hjoins]
      · simp [hjoins]
    · rw [List.foldl_cons, hlane', hother, hleaves]
      refine congrArg (fun rot => ({ s.lane l.other with rotation := rot } : Lane)) ?_
      by_cases hleave : leavesAtOpen s l.other r = true
      · simp only [hleave, if_true, List.filter_filter]
        refine List.filter_congr fun i _ => ?_
        by_cases hi : i = r.index
        · simp [hi, hleave]
        · have hi' : (r.index == i) = false := by simpa using Ne.symm hi
          simp [hi, hi']
      · simp [hleave]

end Sys2Proof.Machine
end


section
/-! PROOFS. SHOW_OPEN (O40). -/

namespace Sys2Proof.Machine

theorem exec_showOpen (s : State) :
    exec .showOpen s = takeRequest .showOpen (withForm showOpen? actShowOpen) s := rfl

/-- An opened auditorium before its records are re-placed (R4 to R7). -/
def openedCounted (q : ShowOpenReq) (s : State) : State :=
  recountTracks q.aud (recountFlags q.aud (beginRun q s))

section

variable (q : ShowOpenReq) (s : State)

theorem openShow_eq : openShow q s =
    ((openedCounted q s).roster.filter fun r => r.aud == q.aud).foldl (rePlaceOne q.aud q.lane)
      (openedCounted q s) := rfl

theorem openedCounted_keeps :
    Keeps [.show_ q.aud, .timeline q.aud, .sync q.aud, .roster] s (openedCounted q s) := by
  have hbegin : Keeps [.show_ q.aud, .timeline q.aud, .sync q.aud, .roster] s (beginRun q s) :=
    ((directory_keeps s q.aud _).mono (by simp)).trans
      (((withTimeline_keeps _ q.aud _).mono (by simp)).trans
        ((withSync_keeps _ q.aud _).mono (by simp)))
  have hflags : Keeps [.show_ q.aud, .timeline q.aud, .sync q.aud, .roster] (beginRun q s)
      (recountFlags q.aud (beginRun q s)) := (roster_keeps _ _).mono (by simp)
  have hfold (ts : List Track) (u : State) : Keeps [.show_ q.aud] u
      (ts.foldl (fun s t => s.modTrack q.aud t fun w => { w with listeners := recountOf s q.aud t }) u) := by
    induction ts generalizing u with
    | nil => exact .refl _ _
    | cons t ts ih => exact (modTrack_keeps u q.aud t _).trans (ih _)
  exact (hbegin.trans hflags).trans ((hfold allTracks _).mono (by simp))

theorem openedCounted_roster :
    (openedCounted q s).roster = s.roster.map (reflagged (beginRun q s) q.aud) := by
  have hb : (beginRun q s).roster = s.roster := by simp
  rw [← hb, ← recountFlags_roster]
  simp [openedCounted]

/-- An auditorium is open on a lane after the opening as before it, the opened one on its own alone. -/
theorem openedCounted_openOn (hclosed : s.isOpen q.aud = false) (b : Aud) :
    (openedCounted q s).openOn b q.lane.other = s.openOn b q.lane.other := by
  have hlane : (openedCounted q s).laneOf? b = if b = q.aud then some q.lane else s.laneOf? b :=
    (State.laneOf?_congr (openShow_directory q s) b).symm.trans (openShow_laneOf? s q b)
  rw [State.openOn, hlane, State.openOn]
  by_cases hb : b = q.aud
  · have hne : q.lane ≠ q.lane.other := by cases q.lane <;> simp [LaneId.other]
    have hnone : s.laneOf? q.aud = none := by
      simpa [State.isOpen_eq_laneOf?] using hclosed
    simp [hb, hnone, hne]
  · simp [hb]

/-- A record of the opened state (R7, R8). -/
def openedRec (r : RxRec) : RxRec :=
  if r.aud = q.aud then
    reJoined q.aud q.lane s { r with unmatched := !(beginRun q s).matched r }
  else r

theorem openedRec_index (r : RxRec) : (openedRec q s r).index = r.index := by
  unfold openedRec
  split
  · exact reJoined_index _ _ _ _
  · rfl

theorem reJoined_openedCounted : reJoined q.aud q.lane (openedCounted q s) = reJoined q.aud q.lane s := by
  have hclock : (openedCounted q s).clock = s.clock := openedCounted_keeps q s .clock (by simp)
  have hsetting : (openedCounted q s).setting .joinWindow = s.setting .joinWindow :=
    openedCounted_keeps q s (.setting .joinWindow) (by simp)
  funext x
  rw [reJoined, hclock, hsetting, reJoined]

end

section

variable {q : ShowOpenReq} {s : State}

/-- Everything the re-placing of the bound records does (R8). -/
theorem openShow_rePlaced (hs : RosterOk s) (hclosed : s.isOpen q.aud = false) :
    (openShow q s).roster = s.roster.map (openedRec q s)
      ∧ (openShow q s).lane q.lane = { s.lane q.lane with
          rotation := (s.lane q.lane).rotation
            ++ (s.roster.filter fun r => r.aud == q.aud && r.state != .lost
                && !(s.lane q.lane).rotation.contains r.index).map RxRec.index }
      ∧ (openShow q s).lane q.lane.other = { s.lane q.lane.other with
          rotation := (s.lane q.lane.other).rotation.filter fun i =>
            !(s.roster.any fun r => r.index == i && r.aud == q.aud && r.state != .lost
              && !(r.state == .moving
                    && (r.movedFrom.map fun b => s.openOn b q.lane.other).getD false)) }
      ∧ Keeps [.roster, .lane q.lane, .lane q.lane.other] (openedCounted q s) (openShow q s) := by
  have hok : RosterOk (openedCounted q s) := (recounted_rosterKept hs q).roster
  have hopen : (openedCounted q s).openOn q.aud q.lane.other = false := by
    have hnone : s.laneOf? q.aud = none := by simpa [State.isOpen_eq_laneOf?] using hclosed
    rw [openedCounted_openOn q s hclosed, State.openOn, hnone]
    rfl
  have hnodup : (((openedCounted q s).roster.filter fun r => r.aud == q.aud).map RxRec.index).Nodup := by
    have hall : ((openedCounted q s).roster.map RxRec.index).Nodup :=
      .of_map Fin.val (by rw [List.map_map]; exact hok.1.imp Nat.ne_of_lt)
    exact hall.sublist (List.filter_sublist.map _)
  obtain ⟨hroster, hlane, hother, hkeep⟩ := foldl_rePlaceOne _ hopen hnodup
  have hlanes (k : LaneId) : (openedCounted q s).lane k = s.lane k :=
    openedCounted_keeps q s (.lane k) (by simp)
  have hids := reflagged_ids (beginRun q s) q.aud
  have hstate (r : RxRec) : (reflagged (beginRun q s) q.aud r).state = r.state
      ∧ (reflagged (beginRun q s) q.aud r).movedFrom = r.movedFrom := by
    unfold reflagged
    split <;> exact ⟨rfl, rfl⟩
  rw [← openShow_eq] at hroster hlane hother hkeep
  refine ⟨?_, ?_, ?_, hkeep⟩
  · have hone : ∀ x ∈ (openedCounted q s).roster, rePlaced q.aud q.lane (openedCounted q s)
        ((openedCounted q s).roster.filter fun r => r.aud == q.aud) x
        = if x.aud = q.aud then reJoined q.aud q.lane s x else x := by
      intro x hx
      unfold rePlaced
      rw [reJoined_openedCounted]
      by_cases hxa : x.aud = q.aud
      · rw [if_pos hxa]
        cases hfind : ((openedCounted q s).roster.filter fun r => r.aud == q.aud).find?
            fun r => r.index == x.index with
        | none =>
          have := List.find?_eq_none.1 hfind x (List.mem_filter.2 ⟨hx, by simpa using hxa⟩)
          simp at this
        | some y =>
          have hy := List.mem_of_mem_filter (List.mem_of_find?_eq_some hfind)
          have hindex : (y.index == x.index) = true :=
            List.find?_some (p := fun r : RxRec => r.index == x.index) hfind
          rw [hok.eq_of_index hy hx (beq_iff_eq.1 hindex)]
          rfl
      · rw [if_neg hxa]
        have hnone : ((openedCounted q s).roster.filter fun r => r.aud == q.aud).find?
            (fun r => r.index == x.index) = none := by
          refine List.find?_eq_none.2 fun y hy hindex => hxa ?_
          obtain ⟨hymem, hya⟩ := List.mem_filter.1 hy
          rw [← hok.eq_of_index hymem hx (beq_iff_eq.1 hindex)]
          exact beq_iff_eq.1 hya
        rw [hnone]
        rfl
    rw [hroster, List.map_congr_left hone, openedCounted_roster, List.map_map]
    refine List.map_congr_left fun r _ => ?_
    obtain ⟨-, -, -, haud, -⟩ := hids r
    rw [Function.comp_apply, haud, openedRec, reflagged]
    by_cases hra : r.aud = q.aud
    · simp only [if_pos hra]
    · simp only [if_neg hra]
  · rw [hlane, hlanes, openedCounted_roster, List.filter_filter, List.filter_map, List.map_map]
    have hindex : RxRec.index ∘ reflagged (beginRun q s) q.aud = RxRec.index :=
      funext fun r => (hids r).1
    rw [hindex]
    refine congrArg (fun rs : List RxRec => ({ s.lane q.lane with
      rotation := (s.lane q.lane).rotation ++ rs.map RxRec.index } : Lane)) ?_
    refine List.filter_congr fun r _ => ?_
    obtain ⟨hi, -, -, haud, -⟩ := hids r
    rw [Function.comp_apply, joinsAtOpen, (hstate r).1, hi, haud, Bool.and_comm, Bool.and_assoc]
  · rw [hother, hlanes, openedCounted_roster]
    refine congrArg (fun rot => ({ s.lane q.lane.other with rotation := rot } : Lane)) ?_
    refine List.filter_congr fun i _ => congrArg (!·) ?_
    rw [List.any_filter, List.any_map]
    refine List.any_congr rfl fun r => ?_
    obtain ⟨hi, -, -, haud, -⟩ := hids r
    have hopens : (fun b => (openedCounted q s).openOn b q.lane.other)
        = fun b => s.openOn b q.lane.other := funext (openedCounted_openOn q s hclosed)
    rw [Function.comp_apply, leavesAtOpen, (hstate r).1, (hstate r).2, hi, haud, hopens,
      ← Bool.and_assoc, Bool.and_comm (r.aud == q.aud), ← Bool.and_assoc]

theorem openShow_rx? (hs : RosterOk s) (hclosed : s.isOpen q.aud = false) (i : RxIdx) :
    (openShow q s).rx? i = (s.rx? i).map (openedRec q s) := by
  rw [State.rx?, (openShow_rePlaced hs hclosed).1, List.find?_map, State.rx?]
  have hindex : (fun r : RxRec => r.index == i) ∘ openedRec q s = fun r => r.index == i :=
    funext fun r => by rw [Function.comp_apply, openedRec_index]
  rw [hindex]

/-- Whether a record is matched by the tracks that the opened auditorium is given (R7). -/
theorem beginRun_matched {r : RxRec} (hr : r.aud = q.aud) :
    (beginRun q s).matched r = true ↔
      ∃ w, q.tracks[r.track.val]? = some w ∧ suits r.kind w.kind = true := by
  have htrack : (beginRun q s).track? r.aud r.track = q.tracks[r.track.val]? := by
    rw [hr, State.track?, beginRun_show]
    rfl
  rw [State.matched, htrack]
  cases q.tracks[r.track.val]? <;> simp

/-- Whether the lane comparison makes a flagged record MOVING (R8). -/
theorem movesAtOpen_iff (l : LaneId) (r : RxRec) (flag : Bool) :
    movesAtOpen l { r with unmatched := flag } = true ↔
      flag = false ∧ (r.state = .joined ∨ r.state = .silent) ∧ ∃ h, r.heard = some h ∧ h.lane ≠ l := by
  unfold movesAtOpen
  cases r.heard <;> simp
  tauto

/-- A record bound to the opened auditorium afterwards (R7, R8). -/
theorem openedRec_bound {r : RxRec} (hr : r.aud = q.aud) :
    let matched : Prop := ∃ w, q.tracks[r.track.val]? = some w ∧ suits r.kind w.kind = true
    let moves : Prop := matched ∧ (r.state = .joined ∨ r.state = .silent)
      ∧ ∃ h, r.heard = some h ∧ h.lane ≠ q.lane
    (¬matched → openedRec q s r = { r with unmatched := true })
    ∧ (matched → ¬moves → openedRec q s r = { r with unmatched := false })
    ∧ (moves → openedRec q s r = { r with
        unmatched := false, state := .moving, movedFrom := some q.aud
        joinDl := some (after s.clock.time (s.setting .joinWindow)) }) := by
  intro matched moves
  have hmatched : matched ↔ (beginRun q s).matched r = true := (beginRun_matched hr).symm
  have hmoves (flag : Bool) : movesAtOpen q.lane { r with unmatched := flag } = true ↔ flag = false
      ∧ (r.state = .joined ∨ r.state = .silent) ∧ ∃ h, r.heard = some h ∧ h.lane ≠ q.lane :=
    movesAtOpen_iff q.lane r flag
  unfold openedRec reJoined
  rw [if_pos hr]
  refine ⟨fun hno => ?_, fun hyes hstays => ?_, fun ⟨hyes, hmove⟩ => ?_⟩
  · rw [Bool.eq_false_iff.2 (mt hmatched.2 hno)]
    refine if_neg fun h => ?_
    cases ((hmoves true).1 h).1
  · rw [hmatched.1 hyes]
    exact if_neg fun h => hstays ⟨hyes, ((hmoves false).1 h).2⟩
  · rw [hmatched.1 hyes]
    exact if_pos ((hmoves false).2 ⟨rfl, hmove⟩)

theorem reJoined_fields (a : Aud) (l : LaneId) (u : State) (r : RxRec) :
    (reJoined a l u r).aud = r.aud ∧ (reJoined a l u r).unmatched = r.unmatched
      ∧ ((reJoined a l u r).state = .moving ∧ (r.state = .joined ∨ r.state = .silent)
          ↔ movesAtOpen l r = true) := by
  unfold reJoined
  split
  · next h =>
    refine ⟨rfl, rfl, iff_of_true ⟨rfl, ?_⟩ h⟩
    simp only [movesAtOpen, Bool.and_eq_true, Bool.or_eq_true, beq_iff_eq] at h
    exact h.1.1
  · next h =>
    refine ⟨rfl, rfl, iff_of_false ?_ h⟩
    rintro ⟨hm, hj | hj⟩ <;> rw [hm] at hj <;> cases hj

/-- The records left unmatched by the opening, and those it makes MOVING (R7, R8, R184). -/
theorem openShow_counts (hs : RosterOk s) (hclosed : s.isOpen q.aud = false) :
    ((((openedCounted q s).roster.filter fun r => r.aud == q.aud).filter fun r => r.unmatched).length
        = ((openShow q s).roster.filter fun r => r.aud == q.aud && r.unmatched).length)
      ∧ (((openedCounted q s).roster.filter fun r => r.aud == q.aud).filter
          (movesAtOpen q.lane)).length
        = ((openShow q s).roster.filter fun r => r.aud == q.aud && r.state == .moving
            && ((s.rx? r.index).map RxRec.state == some .joined
              || (s.rx? r.index).map RxRec.state == some .silent)).length := by
  have hroster := (openShow_rePlaced hs hclosed).1
  rw [hroster, openedCounted_roster]
  simp only [List.filter_filter, ← List.countP_eq_length_filter, List.countP_map]
  constructor
  · refine List.countP_congr fun r _ => ?_
    by_cases hra : r.aud = q.aud
    · obtain ⟨haud, hflag, -⟩ := reJoined_fields q.aud q.lane s
        { r with unmatched := !(beginRun q s).matched r }
      simp only [Function.comp_apply, reflagged, openedRec, if_pos hra, haud, hflag, Bool.and_comm]
    · simp [reflagged, openedRec, hra]
  · refine List.countP_congr fun r hr => ?_
    by_cases hra : r.aud = q.aud
    · obtain ⟨haud, -, hmoving⟩ := reJoined_fields q.aud q.lane s
        { r with unmatched := !(beginRun q s).matched r }
      have hflagged : reflagged (beginRun q s) q.aud r
          = { r with unmatched := !(beginRun q s).matched r } := if_pos hra
      have hopened : openedRec q s r = reJoined q.aud q.lane s
          { r with unmatched := !(beginRun q s).matched r } := if_pos hra
      have hinShow := haud.trans hra
      have hindex : (openedRec q s r).index = r.index := openedRec_index ..
      rw [hopened] at hindex
      simp only [Function.comp_apply, hindex, hs.rx?_of_mem hr, Bool.and_eq_true,
        Bool.or_eq_true, beq_iff_eq, Option.map_some, Option.some.injEq, hopened, hflagged, hinShow,
        true_and]
      exact (and_iff_left hra).trans hmoving.symm
    · simp [reflagged, openedRec, hra]

theorem openShow_changes (hs : RosterOk s) (hclosed : s.isOpen q.aud = false) :
    Keeps [.show_ q.aud, .timeline q.aud, .sync q.aud, .roster, .lane .A, .lane .B] s
      (openShow q s) := by
  obtain ⟨-, -, -, hkeep⟩ := openShow_rePlaced hs hclosed
  refine ((openedCounted_keeps q s).mono (by simp)).trans (hkeep.mono ?_)
  cases q.lane <;> simp [LaneId.other]

theorem openShow_syncIn (q : ShowOpenReq) (s : State) :
    (openShow q s).syncIn q.aud = { s.syncIn q.aud with capture := none } := by
  have hsync : (openShow q s).sync = (beginRun q s).sync := by simp [openShow]
  rw [State.syncIn, hsync]
  exact vput_get_self ..

theorem actShowOpen_closed (h : s.isOpen q.aud = false) :
    actShowOpen q s = .ok ⟨openShow q s,
      [((openShow q s).timeline q.aud).epoch] ++ be32 ((openShow q s).timeline q.aud).rate
        ++ ((allTracks.take q.tracks.length).flatMap fun t => be16 ((openShow q s).listeners q.aud t))
        ++ be16 (((openedCounted q s).roster.filter fun r => r.aud == q.aud).filter
            fun r => r.unmatched).length
        ++ be16 (((openedCounted q s).roster.filter fun r => r.aud == q.aud).filter
            (movesAtOpen q.lane)).length, rateClamped q.rate⟩ := by
  unfold actShowOpen
  rw [h]
  rfl

/-- The listener counts of a show's tracks, in track order. -/
theorem listeners_of_show {a : Aud} {w : Show} (hw : s.theShow? a = some w) (hlen : w.tracks.length ≤ 4) :
    ((allTracks.take w.tracks.length).flatMap fun t => be16 (s.listeners a t))
      = w.tracks.flatMap fun r => be16 r.listeners := by
  have hmap : (allTracks.take w.tracks.length).map (fun t => s.listeners a t)
      = w.tracks.map TrackRec.listeners := by
    refine List.ext_getElem ?_ fun i hi hi' => ?_
    · simp [allTracks, hlen]
    · rw [List.length_map] at hi'
      have htrack : s.track? a ⟨i, by omega⟩ = some w.tracks[i] := by
        rw [State.track?, hw]
        exact List.getElem?_eq_getElem hi'
      simp only [List.getElem_map, List.getElem_take]
      have hget : (allTracks[i]'(by simp [allTracks]; omega) : Track) = ⟨i, by omega⟩ := by
        simp [allTracks]
      rw [hget, State.listeners, htrack]
  have hflat := congrArg (List.flatMap be16) hmap
  rwa [List.flatMap_map, List.flatMap_map] at hflat

end

/-- Settles O40. -/
theorem showOpenBeginsARun : Obligations.ShowOpenBeginsARun := by
  intro m rest s h
  refine ⟨fun hbad => exec_badForm (exec_showOpen s) h hbad, fun q hq => ⟨fun hopen => ?_,
    fun hclosed hs => ?_⟩⟩
  · refine exec_refused (exec_showOpen s) h hq ?_
    unfold actShowOpen
    exact if_pos hopen
  · have hchanges := openShow_changes (s := s.withInbox rest) hs hclosed
    obtain ⟨hroster, hlane, hother, -⟩ := openShow_rePlaced (s := s.withInbox rest) hs hclosed
    have hrx := openShow_rx? (s := s.withInbox rest) hs hclosed
    have htl := (openShow_timeline (s.withInbox rest) q q.aud).trans (if_pos rfl)
    have hsync := openShow_syncIn q (s.withInbox rest)
    obtain ⟨hunmatched, hmoving⟩ := openShow_counts (s := s.withInbox rest) hs hclosed
    obtain ⟨w, hw, hwlane, hwcount, hwlen⟩ := openShow_show q (s.withInbox rest)
    have htracks {u : Track} {r : TrackRec} := openShow_track (s := s.withInbox rest) hq (u := u) (r := r)
    have hact := actShowOpen_closed (s := s.withInbox rest) (q := q) hclosed
    obtain ⟨hlen, -⟩ := showOpen?_shape hq
    have hcounts := listeners_of_show hw (by rw [hwlen]; exact hlen)
    rw [hwlen] at hcounts
    rw [hunmatched, hmoving, hcounts] at hact
    generalize openShow q (s.withInbox rest) = v at *
    obtain ⟨hexec, hframe, hresp⟩ := exec_accepted (exec_showOpen s) h hq hact hchanges
    refine ⟨_, w, hexec, hw, hwlane, hwcount, hwlen, fun u r hr => ?_, ?_, hsync,
      fun i r hr hne => ?_, fun i r hr haud => ?_, congrArg Lane.rotation hlane,
      congrArg Lane.rotation hother, fun k => ?_, hresp, hframe⟩
    · have hu : u < 4 := lt_of_lt_of_le (List.getElem?_eq_some_iff.1 hr).1 hlen
      have htrack := htracks (u := ⟨u, hu⟩) hr
      rw [State.track?, hw] at htrack
      exact htrack
    · refine htl.trans ?_
      unfold openedTimeline
      cases q.rate <;> rfl
    · refine (hrx i).trans ?_
      rw [show (s.withInbox rest).rx? i = some r from hr, Option.map_some, openedRec, if_neg hne]
    · obtain ⟨hno, hstays, hmoves⟩ := openedRec_bound (q := q) (s := s.withInbox rest) haud
      have hri : v.rx? i = some (openedRec q (s.withInbox rest) r) := by
        rw [hrx, show (s.withInbox rest).rx? i = some r from hr, Option.map_some]
      exact ⟨fun hm => hri.trans (congrArg some (hno hm)),
        fun hm hs => hri.trans (congrArg some (hstays hm hs)),
        fun hm => hri.trans (congrArg some (hmoves hm))⟩
    · have hk : k = q.lane ∨ k = q.lane.other := by
        cases k <;> cases q.lane <;> simp [LaneId.other]
      obtain rfl | rfl := hk
      · exact hlane.trans (congrArg (fun rot => ({ s.lane q.lane with rotation := rot } : Lane))
          (congrArg Lane.rotation hlane).symm)
      · exact hother.trans (congrArg (fun rot => ({ s.lane q.lane.other with rotation := rot } : Lane))
          (congrArg Lane.rotation hother).symm)

end Sys2Proof.Machine
end


section
/-! PROOFS. RX_RETURN (O50). -/

namespace Sys2Proof.Machine

theorem exec_rxReturn (s : State) :
    exec .rxReturn s = takeRequest .rxReturn (withForm rxNamed? actRxReturn) s := rfl

/-- What a return's RELEASE notice does on one lane, by its outcome (R145). -/
structure Released (wanted : Bool) (r : RxRec) (l : LaneId) (s t : State) (out : NoticeOutcome) :
    Prop where
  unneeded : wanted = false → out = .notNeeded ∧ t.lane l = s.lane l
  renewed : wanted = true → NoticeStands (s.lane l) (.release r.index (serialCheck r.serial)) →
    out = .placed ∧ t.lane l = (s.lane l).renewed (.release r.index (serialCheck r.serial))
      (s.setting .noticeRepeat)
  appended : wanted = true → ¬NoticeStands (s.lane l) (.release r.index (serialCheck r.serial)) →
    (s.lane l).notices.length < 32 → out = .placed ∧ t.lane l = { s.lane l with
      notices := (s.lane l).notices ++
        [⟨.release r.index (serialCheck r.serial), s.setting .noticeRepeat⟩] }
  dropped : wanted = true → ¬NoticeStands (s.lane l) (.release r.index (serialCheck r.serial)) →
    32 ≤ (s.lane l).notices.length → out = .dropped ∧ t.lane l = s.lane l
  latched : t.cond .noticeDropped
    = if out = .dropped then ⟨true, .lane l⟩ else s.cond .noticeDropped
  keeps : Keeps [.lane l, .cond .noticeDropped] s t

theorem NoticeAdded.placed {s t : State} {l : LaneId} {i : NoticeItem} {out : NoticeOutcome}
    (h : NoticeAdded s t l i out) (hdropped : out ≠ .dropped) : out = .placed := by
  cases out with
  | placed => rfl
  | dropped => exact absurd rfl hdropped
  | notNeeded => exact absurd rfl h.needed

theorem released (wanted : Bool) (r : RxRec) (l : LaneId) (s : State) :
    Released wanted r l s (releaseNotice wanted r l s).1 (releaseNotice wanted r l s).2 := by
  cases wanted with
  | false =>
    exact ⟨fun _ => ⟨rfl, rfl⟩, nofun, nofun, nofun, rfl, .refl _ _⟩
  | true =>
    have hadded : NoticeAdded s (releaseNotice true r l s).1 l
        (.release r.index (serialCheck r.serial)) (releaseNotice true r l s).2 := noticeAdded s l _
    refine ⟨nofun, fun _ hstands => ⟨hadded.placed fun hdrop => ?_, hadded.renewed hstands⟩,
      fun _ hno hroom => ⟨hadded.placed fun hdrop => ?_, hadded.appended hno hroom⟩,
      fun _ hno hfull => ?_, ?_, hadded.keeps⟩
    · obtain ⟨n, hn, hitem⟩ := hstands
      exact (hadded.dropped.1 hdrop).2 n hn hitem
    · exact absurd (hadded.dropped.1 hdrop).1 (Nat.not_le.2 hroom)
    · have hdrop := hadded.dropped.2 ⟨hfull, fun n hn hitem => hno ⟨n, hn, hitem⟩⟩
      exact ⟨hdrop, hadded.stays hdrop⟩
    · split
      · next hdrop => exact hadded.latched hdrop
      · next hdrop => exact hadded.unlatched hdrop

/-- The lanes on which a return places its notices (R145). -/
theorem releaseOn_iff (s : State) (r : RxRec) (l : LaneId) :
    releaseOn s r l = true ↔ s.openOn r.aud l = true
      ∨ (r.state = .moving ∧ ∃ a, r.movedFrom = some a ∧ s.openOn a l = true) := by
  unfold releaseOn
  rw [Bool.or_eq_true, Bool.and_eq_true, beq_iff_eq]
  cases r.movedFrom <;> simp

section

variable {s : State} {r : RxRec}

theorem leaveRoster_lane (s : State) (r : RxRec) (l : LaneId) :
    (leaveRoster r s).lane l
      = { s.lane l with rotation := (s.lane l).rotation.filter fun x => x != r.index } := by
  have hlane : ∀ k, (s.unCount r).lane k = s.lane k := fun k => by simp [State.lane]
  rw [← hlane]
  cases l <;> rfl

theorem unCount_keeps (s : State) (r : RxRec) : Keeps [.show_ r.aud] s (s.unCount r) := by
  unfold State.unCount State.countDown
  split
  · exact modTrack_keeps _ _ _ _
  · exact .refl _ _

theorem leaveRoster_keeps (s : State) (r : RxRec) :
    Keeps [.show_ r.aud, .lane .A, .lane .B] s (leaveRoster r s) :=
  ((unCount_keeps s r).mono (by simp)).trans
    (((rotRemove_keeps _ .A r.index).mono (by simp)).trans
      ((rotRemove_keeps _ .B r.index).mono (by simp)))

/-- The outcomes of a return's two notices, lane A's first (R145; log entry 34). -/
def releaseOutcome (s : State) (r : RxRec) : LaneId → NoticeOutcome
  | .A => (releaseNotice (releaseOn s r .A) r .A (leaveRoster r s)).2
  | .B => (releaseNotice (releaseOn s r .B) r .B
      (releaseNotice (releaseOn s r .A) r .A (leaveRoster r s)).1).2

theorem actRxReturn_some {sel : RxSel} (h : s.rxNamed sel = some r) :
    actRxReturn sel s = .ok ⟨returnRx r s, be16 r.index.val ++ be8 (rxStateCode r.state)
      ++ be24 r.serial ++ be8 (noticeOutcomeCode (releaseOutcome s r .A))
      ++ be8 (noticeOutcomeCode (releaseOutcome s r .B)), false⟩ := by
  unfold actRxReturn
  rw [h]
  rfl

/-- What a return does, but for the record's own going. -/
structure Returned (s t : State) (r : RxRec) (out : LaneId → NoticeOutcome) : Prop where
  roster : t.roster = s.roster.filter fun x => x.index != r.index
  directory : t.directory = (s.unCount r).directory
  release : ∀ l, ∃ u v : State, Released (releaseOn s r l) r l u v (out l)
    ∧ u.lane l = { s.lane l with rotation := (s.lane l).rotation.filter fun x => x != r.index }
    ∧ u.setting .noticeRepeat = s.setting .noticeRepeat ∧ t.lane l = v.lane l
  latched : t.cond .noticeDropped = if out .B = .dropped then ⟨true, .lane .B⟩
    else if out .A = .dropped then ⟨true, .lane .A⟩ else s.cond .noticeDropped
  keeps : Keeps [.show_ r.aud, .lane .A, .lane .B, .roster, .cond .noticeDropped] s t

theorem returnRx_returned (s : State) (r : RxRec) :
    Returned s (returnRx r s) r (releaseOutcome s r) := by
  have hleft := leaveRoster_keeps s r
  have hA := released (releaseOn s r .A) r .A (leaveRoster r s)
  have hB := released (releaseOn s r .B) r .B
    (releaseNotice (releaseOn s r .A) r .A (leaveRoster r s)).1
  refine ⟨by simp [returnRx], by simp [returnRx, leaveRoster], fun l => ?_, ?_, ?_⟩
  · cases l with
    | A =>
      exact ⟨_, _, hA, leaveRoster_lane s r .A, hleft (.setting .noticeRepeat) (by simp),
        hB.keeps (.lane .A) (by simp)⟩
    | B =>
      exact ⟨_, _, hB, Eq.trans (hA.keeps (.lane .B) (by simp)) (leaveRoster_lane s r .B),
        Eq.trans (hA.keeps (.setting .noticeRepeat) (by simp))
          (hleft (.setting .noticeRepeat) (by simp)), rfl⟩
  · refine hB.latched.trans ?_
    rw [hA.latched, show (leaveRoster r s).cond .noticeDropped = s.cond .noticeDropped from
      hleft (.cond .noticeDropped) (by simp)]
    rfl
  · exact (hleft.mono (by simp)).trans ((hA.keeps.mono (by simp)).trans
      ((hB.keeps.mono (by simp)).trans ((roster_keeps _ _).mono (by simp))))

theorem Returned.rx? {t : State} {out : LaneId → NoticeOutcome} (h : Returned s t r out) :
    t.rx? r.index = none ∧ ∀ j, j ≠ r.index → t.rx? j = s.rx? j := by
  unfold State.rx?
  rw [h.roster]
  refine ⟨List.find?_eq_none.2 fun x hx => ?_, fun j hj => ?_⟩
  · simpa using (List.mem_filter.1 hx).2
  · rw [List.find?_filter]
    congr 1
    funext x
    by_cases hx : x.index = j
    · simp [hx, hj]
    · simp [hx]

/-- The four ends of a return's notice on one lane, told from the state before the return (R108, R145). -/
theorem Returned.ends {t : State} {out : LaneId → NoticeOutcome} (h : Returned s t r out) (l : LaneId) :
    let item : NoticeItem := .release r.index (serialCheck r.serial)
    let becomes (ns : List Notice) : Prop := t.lane l = { s.lane l with
      rotation := (s.lane l).rotation.filter (fun x => x != r.index), notices := ns }
    (¬releaseOn s r l = true → out l = .notNeeded ∧ becomes (s.lane l).notices)
    ∧ (releaseOn s r l = true → NoticeStands (s.lane l) item → out l = .placed
        ∧ becomes ((s.lane l).notices.map fun n =>
          if n.item = item then { n with left := s.setting .noticeRepeat } else n))
    ∧ (releaseOn s r l = true → ¬NoticeStands (s.lane l) item → (s.lane l).notices.length < 32 →
        out l = .placed ∧ becomes ((s.lane l).notices ++ [⟨item, s.setting .noticeRepeat⟩]))
    ∧ (releaseOn s r l = true → ¬NoticeStands (s.lane l) item → 32 ≤ (s.lane l).notices.length →
        out l = .dropped ∧ becomes (s.lane l).notices) := by
  obtain ⟨u, v, hreleased, hlane, hsetting, ht⟩ := h.release l
  obtain ⟨hunneeded, hrenewed, happended, hdropped, -, -⟩ := hreleased
  rw [hlane] at hunneeded hrenewed happended hdropped
  rw [hsetting] at hrenewed happended
  rw [ht]
  exact ⟨fun hno => hunneeded (Bool.eq_false_iff.2 hno), hrenewed, happended, hdropped⟩

end

/-- Settles O50. -/
theorem rxReturnFreesTheRecord : Obligations.RxReturnFreesTheRecord := by
  intro m rest s h
  refine ⟨fun hbad => exec_badForm (exec_rxReturn s) h hbad, fun sel hsel => ⟨fun hnone => ?_,
    fun r hr => ?_⟩⟩
  · refine exec_refused (exec_rxReturn s) h hsel ?_
    have hnone' : (s.withInbox rest).rxNamed sel = none := hnone
    unfold actRxReturn
    rw [hnone']
  · have hact := actRxReturn_some (s := s.withInbox rest) hr
    have hreturned := returnRx_returned (s.withInbox rest) r
    have hon := releaseOn_iff (s.withInbox rest) r
    generalize releaseOutcome (s.withInbox rest) r = out at *
    generalize returnRx r (s.withInbox rest) = v at *
    obtain ⟨hself, hothers⟩ := hreturned.rx?
    have hends (l : LaneId) := hreturned.ends l
    simp only [hon] at hends
    have hlisteners : v.listeners r.aud r.track = if s.counted r = true
        then s.listeners r.aud r.track - 1 else s.listeners r.aud r.track :=
      (State.listeners_congr hreturned.directory ..).trans
        (State.listeners_unCount (s.withInbox rest) r)
    have honly : ListenersOnly [(r.aud, r.track)] (s.withInbox rest) v :=
      (listenersOnly_unCount (s.withInbox rest) r).of_directory hreturned.directory
    obtain ⟨hexec, hframe, hresp⟩ := exec_accepted (exec_rxReturn s) h hsel hact hreturned.keeps
    refine ⟨_, out .A, out .B, hexec, hself, hothers, hlisteners, honly, hends .A, hends .B,
      hreturned.latched, hresp, hframe⟩

end Sys2Proof.Machine
end


section
/-! PROOFS. RX_MOVE and a CHECKIN that leaves LOST (O48, O49, O58): counterexamples to the statements' clauses on
step 7's place.

As in the refutation of O47: the statements give the lane after a rise from 0 as `lessPassedOver` makes it, and
that moves step 7's place back to the end of the Repair Queue from beyond it, even when no cue was passed over. The
Roster tells the lane about cues that were passed over and about no other, so with none the place stays. No
hypothesis of the statements keeps the place within the queue. -/

namespace Sys2Proof.Machine

/-- Record 0, a LOST caption display of auditorium 0, track 0. -/
def lostDisplay : RxRec :=
  { index := 0, serial := 1, kind := .captionDisplay, state := .lost, aud := 0, track := 0, seat := [],
    issuedAt := 0, heard := none, poor := false, unmatched := false, movedFrom := none,
    loss := some .neverJoined, joinDl := none, silenceDl := none, lossDl := none, marks := ⟨none, none⟩ }

/-- The RX_MOVE of record 0 to the place where it is bound. -/
def moveMsg : Msg := ⟨be8 12 ++ be8 0 ++ be16 6 ++ (be8 0 ++ be24 0 ++ [0, 0]), 10⟩

/-- Record 0's CHECKIN from that place. -/
def lostDisplayCheckin : List Byte :=
  be8 0x21 ++ be16 0 ++ be8 1 ++ be8 0 ++ be8 0 ++ be8 0 ++ be16 0 ++ be8 0 ++ be8 0 ++ be24 0 ++ be16 0

/-- The part ready to take the RX_MOVE, step 7's place beyond the queue of auditorium 0's lane. -/
def lostBeyondTheQueue : State :=
  { issueBeyondTheQueue with
    roster := [lostDisplay]
    link := { issueBeyondTheQueue.link with inbox := [moveMsg] } }

theorem lostBeyondTheQueue_taken : Taken .rxMove moveMsg [] lostBeyondTheQueue := by
  unfold Taken; decide +kernel

theorem lostBeyondTheQueue_cueTableOk : CueTableOk lostBeyondTheQueue :=
  issueBeyondTheQueue_cueTableOk

theorem lostBeyondTheQueue_rosterOk : RosterOk lostBeyondTheQueue :=
  ⟨List.pairwise_singleton _ _, List.nodup_singleton _⟩

/-- RX_MOVE leaves the place where it is. -/
theorem stageAfter_moveBeyondTheQueue :
    stageAfter .rxMove lostBeyondTheQueue = some (.repairs 1 0) := by decide +kernel

/-- So does the CHECKIN. -/
theorem stageAfter_checkinBeyondTheQueue :
    stageAfter (.checkin .A lostDisplayCheckin) lostBeyondTheQueue = some (.repairs 1 0) := by
  decide +kernel

/-- `lessPassedOver` moves it back to the queue's end. -/
theorem lessPassedOver_lostBeyondTheQueue :
    (lessPassedOver 0 0 lostBeyondTheQueue (lostBeyondTheQueue.lane .A)).build.map Build.stage
      = some (.repairs 0 0) := by decide +kernel

/-- No command that keeps the place can leave the build as `lessPassedOver` has it. -/
theorem stageAfter_lostBeyondTheQueue_ne {c : Instr} {t : State}
    (hexec : exec c lostBeyondTheQueue = .next t)
    (hstage : stageAfter c lostBeyondTheQueue = some (.repairs 1 0)) :
    (t.lane .A).build
      ≠ (lessPassedOver 0 0 lostBeyondTheQueue (lostBeyondTheQueue.lane .A)).build := by
  intro hbuild
  have hleft := stageAfter_of_exec hexec
  rw [hbuild, hstage, lessPassedOver_lostBeyondTheQueue] at hleft
  exact absurd hleft (by decide)

/-- Refutes O48: with step 7's place beyond the end of an empty Repair Queue, and no cue on the track, a CHECKIN
that leaves LOST keeps the place, where the statement has it moved back to 0. -/
theorem not_risingCountReWaitsUnattendedCues :
    ¬ Obligations.RisingCountReWaitsUnattendedCues := by
  intro h
  obtain ⟨-, -, hcheckin⟩ := h lostBeyondTheQueue lostBeyondTheQueue_cueTableOk
  obtain ⟨t, hexec, hrises, -⟩ := hcheckin .A lostDisplayCheckin ⟨0, 1, 0, 0, 0, 0, 0, 0⟩ lostDisplay
    emptyTrack .A rfl (by decide +kernel) (by decide +kernel) rfl rfl (by decide +kernel)
    (by decide +kernel) rfl
  obtain ⟨-, -, hbuild⟩ := hrises rfl
  exact stageAfter_lostBeyondTheQueue_ne hexec stageAfter_checkinBeyondTheQueue hbuild

/-- Refutes O49: with step 7's place beyond the end of an empty Repair Queue, and no cue on the track, an RX_MOVE
of a LOST record keeps the place, where the statement has it moved back to 0. -/
theorem not_rxMoveRebindsTheRecord : ¬ Obligations.RxMoveRebindsTheRecord := by
  intro h
  obtain ⟨-, hform⟩ := h moveMsg [] lostBeyondTheQueue lostBeyondTheQueue_taken
  obtain ⟨-, hrecord⟩ := hform ⟨.index 0, 0, 0, []⟩ (by decide +kernel)
  obtain ⟨-, htrack⟩ := hrecord lostDisplay (by decide +kernel)
  obtain ⟨-, haccepted⟩ := htrack emptyTrack (by decide +kernel) (by decide +kernel)
  obtain ⟨t, hexec, -, -, -, -, -, -, hlane, -⟩ := haccepted .A rfl (by decide +kernel)
    lostBeyondTheQueue_rosterOk lostBeyondTheQueue_cueTableOk
  have hnone : emptyTrack.listeners = 0 := rfl
  refine stageAfter_lostBeyondTheQueue_ne hexec stageAfter_moveBeyondTheQueue ?_
  rw [hlane]
  simp only [if_pos hnone]

/-- Refutes O58: with step 7's place beyond the end of an empty Repair Queue, and no cue on the track, a CHECKIN
that leaves LOST keeps the place, where the statement has it moved back to 0. -/
theorem not_checkinIsHeardOrStray : ¬ Obligations.CheckinIsHeardOrStray := by
  intro h
  obtain ⟨-, hcheckin⟩ := h .A lostBeyondTheQueue rfl
  obtain ⟨-, hheard⟩ := hcheckin lostDisplayCheckin ⟨0, 1, 0, 0, 0, 0, 0, 0⟩ (by decide +kernel)
  obtain ⟨t, lag, hexec, -, -, -, -, -, -, hlost⟩ := hheard lostDisplay (by decide +kernel) rfl
  obtain ⟨-, -, hrises, -⟩ := hlost rfl lostBeyondTheQueue_cueTableOk
  have htrack : lostBeyondTheQueue.track? 0 0 = some emptyTrack := by decide +kernel
  have hlane := hrises ⟨emptyTrack, htrack, rfl, rfl⟩
  have hown : (lostBeyondTheQueue.laneOf? lostDisplay.aud).getD .A = .A := by decide +kernel
  refine stageAfter_lostBeyondTheQueue_ne hexec stageAfter_checkinBeyondTheQueue ?_
  rw [hown] at hlane
  rw [hlane]
  rfl

end Sys2Proof.Machine
end


section
/-! SUPPORT. The phase pass of one cue (R71 to R73): what becomes of the cue, what is counted, what stays. -/

namespace Sys2Proof.Machine

/-! ### The cue that the pass leaves -/

/-- Whether a caption's repeat falls due as the cue enters SHOWING (R72). -/
def repeatOwed (s : State) (c : Cue) : Bool :=
  c.kind == .caption && s.setting .captionRepeat == 1 && c.delivery == .sent
    && decide (0 < s.listeners c.aud c.track)

/-- A cue after the first row of the phase pass: SHOWING from its in-point (R71, R72). -/
def shownCue (s : State) (p : Nat) (c : Cue) : Cue :=
  if c.phase = .ahead ∧ c.inP ≤ p then
    { c with phase := .showing, repeatDue := c.repeatDue || repeatOwed s c }
  else c

/-- A cue as it enters RETAINED (R72). -/
def retainedCue (c : Cue) : Cue :=
  if c.delivery = .sending then
    { c with
      phase := .retained, repeatDue := false, delivery := .sent, relaunch := false
      underrun := c.underrun || c.kind == .clip }
  else { c with phase := .retained, repeatDue := false }

/-- Whether a phase pass takes a cue into RETAINED (R71). -/
def endsAt (p : Nat) (c : Cue) : Bool :=
  c.phase != .retained && decide (c.outP ≤ p) && (c.phase == .showing || decide (c.inP ≤ p))

/-- A cue after the first two rows of the phase pass (R71, R72). -/
def agedCue (s : State) (p : Nat) (c : Cue) : Cue :=
  if endsAt p c then retainedCue c else shownCue s p c

/-- Whether a phase pass stops a SENDING cue of a kind (R72). -/
def stopsAs (k : CueKind) (p : Nat) (c : Cue) : Bool :=
  endsAt p c && c.kind == k && c.delivery == .sending

/-- Whether a phase pass retires a cue (R71). -/
def retiresAt (s : State) (p : Nat) (c : Cue) : Bool :=
  (c.phase == .retained || endsAt p c) && decide (retireMark s c ≤ p)

/-- Whether a phase pass retires a cue that was never launched while its track had listeners (R73). -/
def missedAt (s : State) (p : Nat) (c : Cue) : Bool :=
  c.delivery == .waiting && (c.phase == .retained || endsAt p c) && decide (retireMark s c ≤ p)
    && decide (0 < s.listeners c.aud c.track)

/-- A cue after a phase pass; none when it is retired (R71). -/
def passedCue (s : State) (p : Nat) (c : Cue) : Option Cue :=
  if retiresAt s p c then none else some (agedCue s p c)

theorem shownCue_self {s : State} {p : Nat} {c : Cue} (h : ¬(c.phase = .ahead ∧ c.inP ≤ p)) :
    shownCue s p c = c := if_neg h

theorem shownCue_fields (s : State) (p : Nat) (c : Cue) :
    (shownCue s p c).slot = c.slot ∧ (shownCue s p c).aud = c.aud ∧ (shownCue s p c).track = c.track
      ∧ (shownCue s p c).outP = c.outP ∧ (shownCue s p c).kind = c.kind
      ∧ (shownCue s p c).delivery = c.delivery := by
  unfold shownCue
  split <;> exact ⟨rfl, rfl, rfl, rfl, rfl, rfl⟩

theorem agedCue_fields (s : State) (p : Nat) (c : Cue) :
    (agedCue s p c).slot = c.slot ∧ (agedCue s p c).aud = c.aud ∧ (agedCue s p c).track = c.track
      ∧ (agedCue s p c).num = c.num ∧ (agedCue s p c).inP = c.inP ∧ (agedCue s p c).outP = c.outP
      ∧ (agedCue s p c).kind = c.kind ∧ (agedCue s p c).blocks = c.blocks
      ∧ ((agedCue s p c).delivery = .waiting ↔ c.delivery = .waiting) := by
  unfold agedCue retainedCue shownCue
  split
  · split
    · next h => simp [h]
    · simp
  · split <;> simp

/-- The second row of the pass applies to the cue that the first leaves just when the pass ends it. -/
theorem endsAt_iff (s : State) (p : Nat) (c : Cue) :
    endsAt p c = true ↔ (shownCue s p c).phase = .showing ∧ (shownCue s p c).outP ≤ p := by
  unfold endsAt shownCue
  cases hphase : c.phase <;> by_cases hin : c.inP ≤ p <;> simp [hin, hphase]

theorem retainedCue_shownCue {s : State} {p : Nat} {c : Cue} :
    retainedCue (shownCue s p c) = retainedCue c := by
  unfold retainedCue shownCue
  by_cases h : c.phase = .ahead ∧ c.inP ≤ p
  · simp only [if_pos h]
  · simp only [if_neg h]

theorem agedCue_phase (s : State) (p : Nat) (c : Cue) :
    (agedCue s p c).phase = .retained ↔ c.phase = .retained ∨ endsAt p c = true := by
  unfold agedCue
  split
  · next h =>
    simp only [h, or_true, iff_true]
    unfold retainedCue
    split <;> rfl
  · next h =>
    rw [or_iff_left h]
    unfold shownCue
    split
    · next hrow => simp [hrow.1]
    · rfl

/-! ### The three rows of the pass -/

/-- A cue record replaced by another of its slot, where it differs. -/
def State.recast (s : State) (c d : Cue) : State := if d = c then s else s.putCue d

/-- What a phase pass counts and latches for a cue: an underrun, a late drop (R72, R73). -/
def tellPass (underran dropped : Bool) (a : Aud) (s : State) : State :=
  let s := if underran then (s.countAud a .underruns).latch .clipUnderrun (.aud a) else s
  if dropped then s.lateDrop a else s

/-- Whether a phase pass counts a cue late-dropped (R72, R73). -/
def dropsAt (s : State) (p : Nat) (c : Cue) : Bool := stopsAs .caption p c || missedAt s p c

/-- The state after a phase pass of a cue but for its retirement. -/
def agedState (s : State) (p : Nat) (c : Cue) : State :=
  tellPass (stopsAs .clip p c) (dropsAt s p c) c.aud (s.recast c (agedCue s p c))

theorem putCue_putCue (s : State) {c d : Cue} (h : d.slot = c.slot) :
    (s.putCue c).putCue d = s.putCue d := by
  unfold State.putCue
  simp only [List.map_map]
  congr 2
  refine List.map_congr_left fun x _ => ?_
  simp only [Function.comp_apply, h]
  by_cases hx : x.slot = c.slot <;> simp [hx]

theorem cueAt_recast {s : State} {c d : Cue} (hc : s.cueAt c.slot = some c) (hslot : d.slot = c.slot)
    (k : Nat) : (s.recast c d).cueAt k = if k = c.slot then some d else s.cueAt k := by
  unfold State.recast
  split
  · next h =>
    subst h
    split
    · next hk => rw [hk, hc]
    · rfl
  · exact cueAt_putCue hc hslot k

theorem recast_keeps (s : State) (c d : Cue) : Keeps [.cues] s (s.recast c d) :=
  keeps_ite (fun _ => .refl _ _) fun _ => putCue_keeps _ _

theorem recast_directory (s : State) (c d : Cue) : (s.recast c d).directory = s.directory := by
  unfold State.recast
  split <;> rfl

theorem passRow_some {slot : Nat} {applies : State → Cue → Bool} {act : State → Cue → State} {s : State}
    {c : Cue} (hc : s.cueAt slot = some c) :
    passRow slot applies act s = if applies s c then act s c else s := by
  unfold passRow
  rw [hc]

theorem enterShowing_row (s : State) (p : Nat) (c : Cue) :
    (if c.phase == .ahead && decide (c.inP ≤ p) then enterShowing s c else s)
      = s.recast c (shownCue s p c) := by
  unfold shownCue State.recast
  by_cases h : c.phase = .ahead ∧ c.inP ≤ p
  · have hne : { c with phase := .showing, repeatDue := c.repeatDue || repeatOwed s c } ≠ c := by
      intro heq
      have := congrArg Cue.phase heq
      simp [h.1] at this
    rw [if_pos h, if_neg hne, if_pos (by simp [h.1, h.2])]
    rfl
  · rw [if_neg h, if_pos rfl, if_neg (by simpa using h)]

theorem enterRetained_eq (s : State) (c : Cue) :
    enterRetained s c = tellPass (c.kind == .clip && c.delivery == .sending)
      (c.kind == .caption && c.delivery == .sending) c.aud (s.putCue (retainedCue c)) := by
  have hclip : (CueKind.clip == CueKind.caption) = false := rfl
  have hcaption : (CueKind.caption == CueKind.clip) = false := rfl
  unfold enterRetained retainedCue tellPass
  by_cases h : c.delivery = .sending
  · cases c.kind <;> simp [h, hclip, hcaption]
  · simp [h]

/-- The second row, made of the cue that the first leaves. -/
theorem enterRetained_row (s : State) (p : Nat) (c : Cue) :
    (if (shownCue s p c).phase == .showing && decide ((shownCue s p c).outP ≤ p) then
        enterRetained (s.recast c (shownCue s p c)) (shownCue s p c)
      else s.recast c (shownCue s p c))
      = tellPass (stopsAs .clip p c) (stopsAs .caption p c) c.aud (s.recast c (agedCue s p c)) := by
  obtain ⟨hslot, haud, -, -, hkind, hdelivery⟩ := shownCue_fields s p c
  unfold agedCue stopsAs
  by_cases h : endsAt p c = true
  · obtain ⟨hphase, hout⟩ := (endsAt_iff s p c).1 h
    have hretained : (retainedCue c).phase = .retained ∧ (retainedCue c).slot = c.slot := by
      unfold retainedCue
      split <;> exact ⟨rfl, rfl⟩
    have hput : (s.recast c (shownCue s p c)).putCue (retainedCue c) = s.recast c (retainedCue c) := by
      have hne : retainedCue c ≠ c := by
        intro heq
        rw [heq] at hretained
        simp [endsAt, hretained.1] at h
      unfold State.recast
      rw [if_neg hne]
      split
      · rfl
      · exact putCue_putCue s (hretained.2.trans hslot.symm)
    rw [if_pos (by simp [hphase, hout]), enterRetained_eq, retainedCue_shownCue, hput, hdelivery, hkind,
      haud]
    simp only [h, Bool.true_and, if_true]
  · rw [if_neg (by simpa using mt (endsAt_iff s p c).2 h)]
    simp only [h, Bool.false_and, if_false, Bool.false_eq_true, tellPass]

/-! ### What a pass counts -/

section

variable (x y : Bool) (a : Aud) (s : State)

@[simp] theorem tellPass_frame :
    (tellPass x y a s).table = s.table ∧ (tellPass x y a s).directory = s.directory
      ∧ (tellPass x y a s).lanes = s.lanes ∧ (tellPass x y a s).settings = s.settings := by
  cases x <;> cases y <;> exact ⟨rfl, rfl, rfl, rfl⟩

theorem tellPass_keeps :
    Keeps [.audCounter a .underruns, .cond .clipUnderrun, .audCounter a .lateDropped, .cond .cueLate] s
      (tellPass x y a s) := by
  unfold tellPass State.lateDrop
  refine Keeps.trans (keeps_ite (fun _ => ?_) fun _ => .refl _ _) (keeps_ite (fun _ => ?_) fun _ => .refl _ _)
  · exact ((countAud_keeps _ _ _).mono (by simp)).trans ((latch_keeps _ _ _).mono (by simp))
  · exact ((countAud_keeps _ _ _).mono (by simp)).trans ((latch_keeps _ _ _).mono (by simp))

theorem tellPass_underruns (b : Aud) : (tellPass x y a s).audCount b .underruns
    = if b = a ∧ x = true then bump (s.audCount b .underruns) else s.audCount b .underruns := by
  have hdrop (u : State) : (u.lateDrop a).audCount b .underruns = u.audCount b .underruns :=
    (State.audCount_countAud u a b .lateDropped .underruns).trans (if_neg (by simp [audCounterIdx]))
  have hunder (u : State) : ((u.countAud a .underruns).latch .clipUnderrun (.aud a)).audCount b .underruns
      = if b = a then bump (u.audCount b .underruns) else u.audCount b .underruns := by
    refine (State.audCount_countAud u a b .underruns .underruns).trans ?_
    by_cases hb : b = a <;> simp [hb]
  unfold tellPass
  cases x <;> cases y <;> simp [hdrop, hunder]

theorem tellPass_lateDropped (b : Aud) : (tellPass x y a s).audCount b .lateDropped
    = if b = a ∧ y = true then bump (s.audCount b .lateDropped) else s.audCount b .lateDropped := by
  have hunder (u : State) : ((u.countAud a .underruns).latch .clipUnderrun (.aud a)).audCount b .lateDropped
      = u.audCount b .lateDropped :=
    (State.audCount_countAud u a b .underruns .lateDropped).trans (if_neg (by simp [audCounterIdx]))
  have hdrop (u : State) : (u.lateDrop a).audCount b .lateDropped
      = if b = a then bump (u.audCount b .lateDropped) else u.audCount b .lateDropped := by
    refine (State.audCount_countAud u a b .lateDropped .lateDropped).trans ?_
    by_cases hb : b = a <;> simp [hb]
  unfold tellPass
  cases x <;> cases y <;> simp [hdrop, hunder]

theorem tellPass_clipUnderrun : (tellPass x y a s).cond .clipUnderrun
    = if x = true then ⟨true, .aud a⟩ else s.cond .clipUnderrun := by
  have hdrop (u : State) : (u.lateDrop a).cond .clipUnderrun = u.cond .clipUnderrun :=
    State.cond_withCond_of_ne _ _ (by simp)
  have hunder (u : State) : ((u.countAud a .underruns).latch .clipUnderrun (.aud a)).cond .clipUnderrun
      = ⟨true, .aud a⟩ := State.cond_withCond_self _ _ _
  unfold tellPass
  cases x <;> cases y <;> simp [hdrop, hunder]

theorem tellPass_cueLate : (tellPass x y a s).cond .cueLate
    = if y = true then ⟨true, .aud a⟩ else s.cond .cueLate := by
  have hdrop (u : State) : (u.lateDrop a).cond .cueLate = ⟨true, .aud a⟩ :=
    State.cond_withCond_self _ _ _
  have hunder (u : State) : ((u.countAud a .underruns).latch .clipUnderrun (.aud a)).cond .cueLate
      = u.cond .cueLate := State.cond_withCond_of_ne _ _ (by simp)
  unfold tellPass
  cases x <;> cases y <;> simp [hdrop, hunder]

end

/-! ### The pass of one cue -/

section

variable {s : State} {c : Cue} (p : Nat)

theorem retireMark_agedCue (s : State) (c : Cue) : retireMark s (agedCue s p c) = retireMark s c := by
  obtain ⟨-, -, -, -, -, hout, -⟩ := agedCue_fields s p c
  rw [retireMark, hout, retireMark]

theorem agedState_cueAt (hc : s.cueAt c.slot = some c) (k : Nat) :
    (agedState s p c).cueAt k = if k = c.slot then some (agedCue s p c) else s.cueAt k :=
  (cueAt_congr (by simp [agedState]) k).trans (cueAt_recast hc (agedCue_fields s p c).1 k)

theorem agedState_directory (s : State) (c : Cue) : (agedState s p c).directory = s.directory := by
  simp [agedState, recast_directory]

theorem missedAt_iff (s : State) (c : Cue) :
    missedAt s p c = true
      ↔ retiresAt s p c = true ∧ c.delivery = .waiting ∧ 0 < s.listeners c.aud c.track := by
  simp only [missedAt, retiresAt, Bool.and_eq_true, beq_iff_eq, decide_eq_true_eq]
  tauto

/-- A cue that the pass retires while WAITING is not one that it stops, and so counted at most once. -/
theorem stops_of_missedAt (h : missedAt s p c = true) :
    stopsAs .clip p c = false ∧ stopsAs .caption p c = false := by
  obtain ⟨-, hwaiting, -⟩ := (missedAt_iff p s c).1 h
  simp [stopsAs, hwaiting]

/-- The phase pass of a cue that is in the table (R71 to R73). -/
theorem phasePass_eq (hc : s.cueAt c.slot = some c) :
    phasePass p c.slot s = if retiresAt s p c then (agedState s p c).retire (agedCue s p c)
      else agedState s p c := by
  obtain ⟨hslot, haud, htrack, -, -, -, -, -, hwaiting⟩ := agedCue_fields s p c
  have hshown : (s.recast c (shownCue s p c)).cueAt c.slot = some (shownCue s p c) := by
    rw [cueAt_recast hc (shownCue_fields s p c).1, if_pos rfl]
  let u := tellPass (stopsAs .clip p c) (stopsAs .caption p c) c.aud (s.recast c (agedCue s p c))
  have hu : u.cueAt c.slot = some (agedCue s p c) := by
    rw [cueAt_congr (by simp [u] : u.table = (s.recast c (agedCue s p c)).table), cueAt_recast hc hslot,
      if_pos rfl]
  have hsettings : u.settings = s.settings := by
    simp only [u, tellPass_frame, State.recast]
    split <;> rfl
  have hlisteners : u.listeners (agedCue s p c).aud (agedCue s p c).track
      = s.listeners c.aud c.track := by
    rw [haud, htrack]
    exact State.listeners_congr (by simp [u, recast_directory]) _ _
  have hretires : ((agedCue s p c).phase == .retained && decide (retireMark u (agedCue s p c) ≤ p))
      = retiresAt s p c := by
    rw [Bool.eq_iff_iff, retireMark_congr hsettings, retireMark_agedCue, retiresAt]
    simp only [Bool.and_eq_true, Bool.or_eq_true, beq_iff_eq, agedCue_phase]
  unfold phasePass
  dsimp only
  rw [passRow_some hc, enterShowing_row, passRow_some hshown, enterRetained_row, passRow_some hu, hretires]
  split
  · next hr =>
    unfold retireByPass agedState dropsAt
    rw [hlisteners]
    by_cases hm : missedAt s p c = true
    · obtain ⟨-, hdelivery, hsome⟩ := (missedAt_iff p s c).1 hm
      obtain ⟨hclip, hcaption⟩ := stops_of_missedAt p hm
      rw [if_pos ⟨hwaiting.2 hdelivery, hsome⟩, haud]
      simp only [u, hm, hclip, hcaption, Bool.or_true]
      rfl
    · have hno : ¬((agedCue s p c).delivery = .waiting ∧ 0 < s.listeners c.aud c.track) :=
        fun ⟨hd, hsome⟩ => hm ((missedAt_iff p s c).2 ⟨hr, hwaiting.1 hd, hsome⟩)
      rw [if_neg hno, Bool.eq_false_iff.2 hm, Bool.or_false]
  · next hr =>
    have hm : missedAt s p c = false :=
      Bool.eq_false_iff.2 fun h => hr ((missedAt_iff p s c).1 h).1
    unfold agedState dropsAt
    rw [hm, Bool.or_false]

end

end Sys2Proof.Machine
end


section
/-! SUPPORT. A phase pass of many cues, and what it adds up to (R71 to R73, R175). -/

namespace Sys2Proof.Machine

/-! ### One cue of an auditorium open on a lane -/

/-- The parts that the phase pass of one cue can touch. -/
def passParts (l : LaneId) (a : Aud) : List Part :=
  [.show_ a, .cues, .freeBlocks, .lane l, .cond .poolLow, .audCounter a .underruns,
    .cond .clipUnderrun, .audCounter a .lateDropped, .cond .cueLate]

/-- What the phase pass of one cue at a position does (R71 to R73). -/
structure Passed (l : LaneId) (p : Nat) (c : Cue) (s t : State) : Prop where
  cueAt : ∀ k, t.cueAt k = if k = c.slot then passedCue s p c else s.cueAt k
  cores : SameCores s t
  lineup : ∀ a u, ¬(a = c.aud ∧ u = c.track) → t.lineup a u = s.lineup a u
  lane : t.lane l = if retiresAt s p c then { (s.lane l).lessSlots fun k => k == c.slot with
      repairs := (s.lane l).repairs.map fun e =>
        if e.names c.aud c.track c.num then e.turnGone else e }
    else s.lane l
  underruns : ∀ a, t.audCount a .underruns = if a = c.aud ∧ stopsAs .clip p c = true
    then bump (s.audCount a .underruns) else s.audCount a .underruns
  lateDropped : ∀ a, t.audCount a .lateDropped = if a = c.aud ∧ dropsAt s p c = true
    then bump (s.audCount a .lateDropped) else s.audCount a .lateDropped
  clipUnderrun : t.cond .clipUnderrun = if stopsAs .clip p c = true then ⟨true, .aud c.aud⟩
    else s.cond .clipUnderrun
  cueLate : t.cond .cueLate = if dropsAt s p c = true then ⟨true, .aud c.aud⟩ else s.cond .cueLate
  keeps : Keeps (passParts l c.aud) s t

section

variable {s : State} {c : Cue} {l : LaneId} (p : Nat)

theorem recast_same (s : State) (c d : Cue) :
    (s.recast c d).lanes = s.lanes ∧ (s.recast c d).audCounters = s.audCounters
      ∧ (s.recast c d).status = s.status ∧ (s.recast c d).settings = s.settings := by
  unfold State.recast
  split <;> exact ⟨rfl, rfl, rfl, rfl⟩

theorem agedState_lane (s : State) (c : Cue) (k : LaneId) : (agedState s p c).lane k = s.lane k := by
  refine State.lane_congr ?_ k
  simp [agedState, recast_same]

theorem agedState_told (s : State) (c : Cue) :
    (∀ a, (agedState s p c).audCount a .underruns = if a = c.aud ∧ stopsAs .clip p c = true
        then bump (s.audCount a .underruns) else s.audCount a .underruns)
      ∧ (∀ a, (agedState s p c).audCount a .lateDropped = if a = c.aud ∧ dropsAt s p c = true
        then bump (s.audCount a .lateDropped) else s.audCount a .lateDropped)
      ∧ ((agedState s p c).cond .clipUnderrun
        = if stopsAs .clip p c = true then ⟨true, .aud c.aud⟩ else s.cond .clipUnderrun)
      ∧ ((agedState s p c).cond .cueLate
        = if dropsAt s p c = true then ⟨true, .aud c.aud⟩ else s.cond .cueLate) := by
  obtain ⟨-, hcounters, hstatus, -⟩ := recast_same s c (agedCue s p c)
  have hcount (a : Aud) (n : AudCounter) : (s.recast c (agedCue s p c)).audCount a n = s.audCount a n := by
    rw [State.audCount, hcounters, State.audCount]
  have hcond (x : Cond) : (s.recast c (agedCue s p c)).cond x = s.cond x := by
    rw [State.cond, hstatus, State.cond]
  refine ⟨fun a => ?_, fun a => ?_, ?_, ?_⟩
  · exact (tellPass_underruns ..).trans (by rw [hcount])
  · exact (tellPass_lateDropped ..).trans (by rw [hcount])
  · exact (tellPass_clipUnderrun ..).trans (by rw [hcond])
  · exact (tellPass_cueLate ..).trans (by rw [hcond])

theorem agedState_keeps (s : State) (c : Cue) :
    Keeps [.cues, .audCounter c.aud .underruns, .cond .clipUnderrun, .audCounter c.aud .lateDropped,
      .cond .cueLate] s (agedState s p c) :=
  ((recast_keeps _ _ _).mono (by simp)).trans ((tellPass_keeps _ _ _ _).mono (by simp))

/-- The phase pass of a cue of an auditorium open on a lane. -/
theorem passed_phasePass (hc : s.cueAt c.slot = some c) (hopen : s.laneOf? c.aud = some l) :
    Passed l p c s (phasePass p c.slot s) := by
  obtain ⟨hslot, haud, htrack, hnum, -⟩ := agedCue_fields s p c
  obtain ⟨hunder, hdrop, hclip, hlate⟩ := agedState_told p s c
  have hdir := agedState_directory p s c
  have hat := agedState_cueAt p hc
  have hlane := agedState_lane p s c l
  have hkeep : Keeps (passParts l c.aud) s (agedState s p c) :=
    (agedState_keeps p s c).mono (by simp [passParts])
  rw [phasePass_eq p hc]
  by_cases hr : retiresAt s p c = true
  · rw [if_pos hr]
    generalize agedCue s p c = d at *
    generalize agedState s p c = u at *
    have hopen' : u.laneOf? d.aud = some l := by
      rw [haud]
      exact (State.laneOf?_congr hdir _).trans hopen
    have hgone := retire_changes hopen'
    rw [haud] at hgone
    refine ⟨fun k => ?_, (SameCores.of_directory hdir).trans (retire_sameCores u d), fun a v hne => ?_, ?_,
      fun a => Eq.trans (hgone (.audCounter a .underruns) (by simp)) (hunder a),
      fun a => Eq.trans (hgone (.audCounter a .lateDropped) (by simp)) (hdrop a),
      Eq.trans (hgone (.cond .clipUnderrun) (by simp)) hclip,
      Eq.trans (hgone (.cond .cueLate) (by simp)) hlate, hkeep.trans (hgone.mono (by simp [passParts]))⟩
    · unfold passedCue
      rw [if_pos hr, cueAt_retire, hat, hslot]
      split <;> rfl
    · have hgoneDir : (u.retire d).directory = (u.freeCue d).directory := by simp [State.retire]
      rw [State.lineup_congr hgoneDir, State.freeCue_lineup, State.dropFromLineup,
        State.lineup_modTrack u d.aud a d.track v (g := fun ks => ks.filter fun k => k != d.slot)
          (fun _ => rfl),
        if_neg (by rwa [haud, htrack])]
      exact State.lineup_congr hdir a v
    · rw [if_pos hr, lane_retire hopen', hlane, hslot, haud, htrack, hnum]
  · rw [if_neg hr]
    refine ⟨fun k => ?_, .of_directory hdir, fun a v _ => State.lineup_congr hdir a v, ?_, hunder, hdrop,
      hclip, hlate, hkeep⟩
    · unfold passedCue
      rw [if_neg hr]
      exact hat k
    · rw [if_neg hr]
      exact hlane

end

/-! ### Many cues -/

/-- The auditorium of a cue for which the pass at its auditorium's position does what `K` says. -/
def passHit (K : Nat → Cue → Bool) (pos : Aud → Option Nat) (s : State) (k : Nat) : Option Aud :=
  (s.cueAt k).bind fun c => if (pos c.aud).any fun p => K p c then some c.aud else none

/-- A condition that each hit of a pass latches against its auditorium (R175). -/
def lastHit (hit : Nat → Option Aud) (x : CondState) (ks : List Nat) : CondState :=
  ks.foldl (fun y k => (hit k).elim y fun a => ⟨true, .aud a⟩) x

/-- How often a pass hits an auditorium. -/
def hitCount (hit : Nat → Option Aud) (a : Aud) (ks : List Nat) : Nat := ks.countP fun k => hit k == some a

/-- A state in the course of a phase pass on a lane, the slots `ks` passed so far (R71 to R73). -/
structure Passing (l : LaneId) (pos : Aud → Option Nat) (s : State) (ks : List Nat) (u : State) : Prop where
  cueAt : ∀ k, u.cueAt k = if k ∈ ks then (s.cueAt k).bind fun c =>
    (pos c.aud).bind fun p => passedCue s p c else s.cueAt k
  cores : SameCores s u
  lineup : ∀ a v, (∀ k ∈ ks, k ∉ s.lineup a v) → u.lineup a v = s.lineup a v
  lane : ∃ (gone : Nat → Bool) (g : Repair → Repair),
    u.lane l = { (s.lane l).lessSlots gone with repairs := (s.lane l).repairs.map g }
  underruns : ∀ a, u.audCount a .underruns
    = bump^[hitCount (passHit (stopsAs .clip) pos s) a ks] (s.audCount a .underruns)
  lateDropped : ∀ a, u.audCount a .lateDropped
    = bump^[hitCount (passHit (dropsAt s) pos s) a ks] (s.audCount a .lateDropped)
  clipUnderrun : u.cond .clipUnderrun
    = lastHit (passHit (stopsAs .clip) pos s) (s.cond .clipUnderrun) ks
  cueLate : u.cond .cueLate = lastHit (passHit (dropsAt s) pos s) (s.cond .cueLate) ks
  keeps : Keeps (walkParts l) s u

theorem Passing.refl (l : LaneId) (pos : Aud → Option Nat) (s : State) : Passing l pos s [] s where
  cueAt k := by simp
  cores := .refl s
  lineup _ _ _ := rfl
  lane := ⟨fun _ => false, id, by rw [Lane.lessSlots_none, List.map_id]⟩
  underruns _ := rfl
  lateDropped _ := rfl
  clipUnderrun := rfl
  cueLate := rfl
  keeps := .refl _ _

section

variable {s t : State} (hset : ∀ k, t.setting k = s.setting k)
  (hlist : ∀ a u, t.listeners a u = s.listeners a u) (p : Nat) (c : Cue)

include hset

theorem retiresAt_congr : retiresAt t p c = retiresAt s p c := by
  rw [retiresAt, retireMark, hset, ← retireMark, ← retiresAt]

include hlist

theorem dropsAt_congr : dropsAt t p c = dropsAt s p c := by
  unfold dropsAt missedAt retireMark
  rw [hset, hlist]

theorem passedCue_congr : passedCue t p c = passedCue s p c := by
  unfold passedCue agedCue shownCue repeatOwed
  rw [retiresAt_congr hset, hset, hlist]

end

theorem lastHit_append (hit : Nat → Option Aud) (x : CondState) (ks js : List Nat) :
    lastHit hit x (ks ++ js) = lastHit hit (lastHit hit x ks) js := List.foldl_append ..

theorem passParts_subset (l : LaneId) (a : Aud) : passParts l a ⊆ walkParts l := by
  intro p hp
  simp only [passParts, List.mem_cons, List.not_mem_nil, or_false] at hp
  have haud (q : Part) (hq : q ∈ [.show_ a, .audCounter a .late, .audCounter a .lateDropped,
      Part.audCounter a .underruns]) : q ∈ walkParts l :=
    List.mem_append_right _ (List.mem_flatMap.2 ⟨a, List.mem_finRange a, hq⟩)
  rcases hp with rfl | rfl | rfl | rfl | rfl | rfl | rfl | rfl | rfl
  · exact haud _ (by simp)
  · exact List.mem_append_left _ (by simp)
  · exact List.mem_append_left _ (by simp)
  · exact List.mem_append_left _ (by simp)
  · exact List.mem_append_left _ (by simp)
  · exact haud _ (by simp)
  · exact List.mem_append_left _ (by simp)
  · exact haud _ (by simp)
  · exact List.mem_append_left _ (by simp)

/-- The next cue of the pass. -/
theorem Passing.step {l : LaneId} {pos : Aud → Option Nat} {s u : State} {ks : List Nat} {k p : Nat}
    {c : Cue} (h : Passing l pos s ks u) (hs : CueTableOk s) (hk : k ∉ ks) (hc : s.cueAt k = some c)
    (hpos : pos c.aud = some p) (hopen : s.laneOf? c.aud = some l) :
    Passing l pos s (ks ++ [k]) (phasePass p k u) := by
  have hkc : k = c.slot := (slot_of_cueAt hc).symm
  have hcu : u.cueAt c.slot = some c := by
    rw [← hkc, h.cueAt, if_neg hk, hc]
  have hset (x : Setting) : u.setting x = s.setting x := h.keeps (.setting x) (by simp [walkParts])
  have hlist := h.cores.listeners
  have hpassed := passed_phasePass p hcu ((h.cores.opens c.aud).trans hopen)
  rw [← hkc] at hpassed
  have hhit (K : Nat → Cue → Bool) : passHit K pos s k = if K p c = true then some c.aud else none := by
    rw [passHit, hc, Option.bind_some, hpos]
    rfl
  have hcount (K : Nat → Cue → Bool) (a : Aud) : hitCount (passHit K pos s) a (ks ++ [k])
      = hitCount (passHit K pos s) a ks + if a = c.aud ∧ K p c = true then 1 else 0 := by
    rw [hitCount, List.countP_append, List.countP_singleton, hhit]
    congr 1
    by_cases hK : K p c = true
    · simp only [hK, if_true, and_true, beq_iff_eq, Option.some.injEq]
      exact if_congr eq_comm rfl rfl
    · simp [hK]
  have hlast (K : Nat → Cue → Bool) (x : CondState) : lastHit (passHit K pos s) x (ks ++ [k])
      = if K p c = true then ⟨true, .aud c.aud⟩ else lastHit (passHit K pos s) x ks := by
    rw [lastHit_append, lastHit, List.foldl_cons, List.foldl_nil, hhit]
    split <;> rfl
  refine ⟨fun j => ?_, h.cores.trans hpassed.cores, fun a v hout => ?_, ?_, fun a => ?_, fun a => ?_, ?_, ?_,
    h.keeps.trans (hpassed.keeps.mono (passParts_subset l c.aud))⟩
  · rw [hpassed.cueAt, ← hkc]
    simp only [List.mem_append, List.mem_singleton]
    by_cases hj : j = k
    · rw [if_pos hj, if_pos (.inr hj), hj, hc, Option.bind_some, hpos, Option.bind_some,
        passedCue_congr hset hlist]
    · rw [if_neg hj, h.cueAt]
      simp only [hj, or_false]
  · refine (hpassed.lineup a v ?_).trans (h.lineup a v fun j hj => hout j (List.mem_append_left _ hj))
    rintro ⟨rfl, rfl⟩
    refine hout k (List.mem_append_right _ (List.mem_singleton_self k)) ?_
    rw [hkc]
    exact hs.mem_lineup (mem_of_cueAt hc)
  · obtain ⟨gone, g, hlane⟩ := h.lane
    rw [hpassed.lane]
    split
    · refine ⟨fun j => gone j || j == c.slot,
        fun e => if (g e).names c.aud c.track c.num then (g e).turnGone else g e, ?_⟩
      rw [hlane, ← Lane.lessSlots_lessSlots]
      simp [Lane.lessSlots, Lane.modBuild, Function.comp_def]
    · exact ⟨gone, g, hlane⟩
  · rw [hpassed.underruns, hcount, h.underruns]
    split
    · rw [Function.iterate_succ_apply']
    · rfl
  · rw [hpassed.lateDropped, hcount, h.lateDropped, dropsAt_congr hset hlist]
    split
    · rw [Function.iterate_succ_apply']
    · rfl
  · rw [hpassed.clipUnderrun, h.clipUnderrun, hlast]
  · rw [hpassed.cueLate, h.cueLate, hlast, dropsAt_congr hset hlist]

/-- The cues of a list of slots. -/
theorem Passing.slots {l : LaneId} {pos : Aud → Option Nat} {s u : State} {ks js : List Nat} {p : Nat}
    (h : Passing l pos s ks u) (hs : CueTableOk s) (hnodup : js.Nodup) (hout : ∀ k ∈ js, k ∉ ks)
    (hcues : ∀ k ∈ js, ∃ c, s.cueAt k = some c ∧ pos c.aud = some p ∧ s.laneOf? c.aud = some l) :
    Passing l pos s (ks ++ js) (js.foldl (fun u k => phasePass p k u) u) := by
  induction js generalizing ks u with
  | nil => rwa [List.append_nil]
  | cons k js ih =>
    obtain ⟨hk, hjs⟩ := List.nodup_cons.1 hnodup
    obtain ⟨c, hc, hpos, hopen⟩ := hcues k List.mem_cons_self
    have hstep := h.step hs (hout k List.mem_cons_self) hc hpos hopen
    rw [List.append_cons]
    refine ih hstep hjs (fun j hj hmem => ?_) fun j hj => hcues j (List.mem_cons_of_mem k hj)
    obtain hmem | hmem := List.mem_append.1 hmem
    · exact hout j (List.mem_cons_of_mem k hj) hmem
    · exact hk (List.mem_singleton.1 hmem ▸ hj)

/-- The cues of an auditorium, track by track. -/
theorem Passing.tracks {l : LaneId} {pos : Aud → Option Nat} {s u : State} {ks : List Nat} {p : Nat}
    {a : Aud} (h : Passing l pos s ks u) (hs : CueTableOk s) (hpos : pos a = some p)
    (hopen : s.laneOf? a = some l) {ts : List Track} (hts : ts.Nodup)
    (hout : ∀ v ∈ ts, ∀ k ∈ s.lineup a v, k ∉ ks) :
    Passing l pos s (ks ++ ts.flatMap fun v => s.lineup a v)
      (ts.foldl (fun u v => (u.lineup a v).foldl (fun u k => phasePass p k u) u) u) := by
  obtain ⟨-, -, hnodup, -⟩ := id hs
  induction ts generalizing ks u with
  | nil => rwa [List.flatMap_nil, List.append_nil]
  | cons v ts ih =>
    obtain ⟨hv, hts'⟩ := List.nodup_cons.1 hts
    have hcue {w : Track} {k : Nat} (hk : k ∈ s.lineup a w) :
        ∃ c, s.cueAt k = some c ∧ c.aud = a ∧ c.track = w := by
      obtain ⟨c, hc, rfl, rfl, rfl⟩ := hs.mem_lineup_iff.1 hk
      exact ⟨c, hs.cueAt_of_mem hc, rfl, rfl⟩
    have hlineup : u.lineup a v = s.lineup a v :=
      h.lineup a v fun k hk hmem => hout v List.mem_cons_self k hmem hk
    have hstep := h.slots hs (hnodup a v) (hout v List.mem_cons_self) fun k hk => by
      obtain ⟨c, hc, rfl, -⟩ := hcue hk
      exact ⟨c, hc, hpos, hopen⟩
    rw [List.foldl_cons, hlineup, List.flatMap_cons, ← List.append_assoc]
    refine ih hstep hts' fun w hw k hk hmem => ?_
    obtain hmem | hmem := List.mem_append.1 hmem
    · exact hout w (List.mem_cons_of_mem v hw) k hk hmem
    · obtain ⟨c, hc, -, hcw⟩ := hcue hk
      obtain ⟨d, hd, -, hdv⟩ := hcue hmem
      rw [hc] at hd
      cases hd
      exact hv (hdv.symm.trans hcw ▸ hw)

/-- The slots that the phase pass of a lane takes, auditorium by auditorium (R87; log entry 32). -/
def passedSlots (pos : Aud → Option Nat) (s : State) (as : List Aud) : List Nat :=
  as.flatMap fun a => if (pos a).isSome then s.slotsOf a else []

/-- The position at an air instant of an auditorium open on a lane. -/
def posOn (l : LaneId) (air : SiteTime) (s : State) (a : Aud) : Option Nat :=
  if s.openOn a l then (s.timeline a).project air else none

theorem mem_slotsOf {s : State} (hs : CueTableOk s) {a : Aud} {k : Nat} :
    k ∈ s.slotsOf a ↔ ∃ c ∈ s.table.cues, c.slot = k ∧ c.aud = a := by
  unfold State.slotsOf
  simp only [List.mem_flatMap, hs.mem_lineup_iff]
  constructor
  · rintro ⟨v, -, c, hc, hslot, haud, -⟩
    exact ⟨c, hc, hslot, haud⟩
  · rintro ⟨c, hc, hslot, haud⟩
    exact ⟨c.track, List.mem_finRange _, c, hc, hslot, haud, rfl⟩

theorem mem_passedSlots {pos : Aud → Option Nat} {s : State} (hs : CueTableOk s) {as : List Aud} {k : Nat} :
    k ∈ passedSlots pos s as
      ↔ ∃ c ∈ s.table.cues, c.slot = k ∧ c.aud ∈ as ∧ (pos c.aud).isSome = true := by
  unfold passedSlots
  rw [List.mem_flatMap]
  constructor
  · rintro ⟨a, ha, hk⟩
    by_cases hpos : (pos a).isSome = true
    · rw [if_pos hpos] at hk
      obtain ⟨c, hc, hslot, rfl⟩ := (mem_slotsOf hs).1 hk
      exact ⟨c, hc, hslot, ha, hpos⟩
    · rw [if_neg hpos] at hk
      exact absurd hk List.not_mem_nil
  · rintro ⟨c, hc, hslot, ha, hpos⟩
    refine ⟨c.aud, ha, ?_⟩
    rw [if_pos hpos]
    exact (mem_slotsOf hs).2 ⟨c, hc, hslot, rfl⟩

/-- The phase pass of one auditorium (R87). -/
def stoppedPassOf (l : LaneId) (air : SiteTime) (s : State) (a : Aud) : State :=
  if s.openOn a l then
    match (s.reading a air).pos with
    | some p => allTracks.foldl (fun s t => (s.lineup a t).foldl (fun s k => phasePass p k s) s) s
    | none => s
  else s

theorem stoppedPass_eq (l : LaneId) (air : SiteTime) (s : State) :
    stoppedPass l air s = allAuds.foldl (stoppedPassOf l air) s := rfl

/-- The auditoriums of a pass, one after the other. -/
theorem Passing.auds {l : LaneId} {air : SiteTime} {s u : State} {ks : List Nat} {as : List Aud}
    (h : Passing l (posOn l air s) s ks u) (hs : CueTableOk s) (has : as.Nodup)
    (hout : ∀ a ∈ as, ∀ k ∈ s.slotsOf a, k ∉ ks) :
    Passing l (posOn l air s) s (ks ++ passedSlots (posOn l air s) s as)
      (as.foldl (stoppedPassOf l air) u) := by
  induction as generalizing ks u with
  | nil => rwa [passedSlots, List.flatMap_nil, List.append_nil]
  | cons a as ih =>
    obtain ⟨ha, has'⟩ := List.nodup_cons.1 has
    have htl : u.timeline a = s.timeline a := h.keeps (.timeline a) (by simp [walkParts])
    have hopens : u.openOn a l = s.openOn a l := h.cores.opens.openOn a l
    have hstep : Passing l (posOn l air s) s
        (ks ++ if (posOn l air s a).isSome then s.slotsOf a else []) (stoppedPassOf l air u a) := by
      unfold stoppedPassOf State.reading
      rw [hopens, htl]
      dsimp only
      cases hpos : posOn l air s a with
      | none =>
        rw [Option.isSome_none, if_neg Bool.false_ne_true, List.append_nil]
        unfold posOn at hpos
        split at hpos
        · rw [hpos]
          split <;> exact h
        · next hclosed =>
          rw [if_neg hclosed]
          exact h
      | some p =>
        unfold posOn at hpos
        split at hpos
        · next hopen =>
          rw [if_pos hopen, hpos]
          refine h.tracks hs ((if_pos hopen).trans hpos) ((openOn_iff s a l).1 hopen)
            (List.nodup_finRange 4) fun v _ k hk => ?_
          exact hout a List.mem_cons_self k (List.mem_flatMap.2 ⟨v, List.mem_finRange v, hk⟩)
        · cases hpos
    rw [List.foldl_cons, passedSlots, List.flatMap_cons, ← List.append_assoc]
    refine ih hstep has' fun b hb k hk hmem => ?_
    obtain hmem | hmem := List.mem_append.1 hmem
    · exact hout b (List.mem_cons_of_mem a hb) k hk hmem
    · split at hmem
      · obtain ⟨c, hc, hslot, rfl⟩ := (mem_slotsOf hs).1 hk
        rw [← hslot] at hmem
        exact ha ((hs.mem_slotsOf_iff hc).1 hmem ▸ hb)
      · exact absurd hmem List.not_mem_nil

/-- The phase pass of a lane (R87). -/
theorem passing_stoppedPass {s : State} (hs : CueTableOk s) (l : LaneId) (air : SiteTime) :
    Passing l (posOn l air s) s (passedSlots (posOn l air s) s allAuds) (stoppedPass l air s) := by
  rw [stoppedPass_eq]
  exact (Passing.refl l _ s).auds hs (List.nodup_finRange 24) fun _ _ _ _ => List.not_mem_nil

end Sys2Proof.Machine
end


section
/-! PROOFS. The boundary that builds serve no longer (O54). -/

namespace Sys2Proof.Machine

/-! ### The sums of a pass -/

theorem iterate_bump (n : Nat) {x : Nat} (h : x ≤ 65535) : bump^[n] x = min 65535 (x + n) := by
  induction n with
  | zero => simp [h]
  | succ n ih =>
    rw [Function.iterate_succ_apply', ih, bump]
    split <;> omega

theorem lastHit_none {hit : Nat → Option Aud} {ks : List Nat} (h : ∀ k ∈ ks, hit k = none) (x : CondState) :
    lastHit hit x ks = x := by
  induction ks generalizing x with
  | nil => rfl
  | cons k ks ih =>
    rw [lastHit, List.foldl_cons, h k List.mem_cons_self]
    exact ih (fun j hj => h j (List.mem_cons_of_mem k hj)) x

/-- Hits of one auditorium latch the condition against it. -/
theorem lastHit_same {hit : Nat → Option Aud} {ks : List Nat} {a : Aud}
    (hall : ∀ k ∈ ks, ∀ b, hit k = some b → b = a) (x : CondState) :
    lastHit hit x ks = if ∃ k ∈ ks, hit k = some a then ⟨true, .aud a⟩ else x := by
  induction ks generalizing x with
  | nil => simp [lastHit]
  | cons k ks ih =>
    have hrest := ih fun j hj => hall j (List.mem_cons_of_mem k hj)
    rw [lastHit, List.foldl_cons, ← lastHit, hrest]
    cases hk : hit k with
    | none => simp [hk]
    | some b =>
      obtain rfl := hall k List.mem_cons_self b hk
      simp [hk]

section

variable {K : Nat → Cue → Bool} {pos : Aud → Option Nat} {s : State}

theorem passHit_iff {k : Nat} {a : Aud} : passHit K pos s k = some a
    ↔ ∃ c p, s.cueAt k = some c ∧ c.aud = a ∧ pos a = some p ∧ K p c = true := by
  unfold passHit
  constructor
  · intro h
    obtain ⟨c, hc, hhit⟩ := Option.bind_eq_some_iff.1 h
    split at hhit
    · next hany =>
      cases hhit
      obtain ⟨p, hp, hK⟩ := (Option.any_eq_true ..).1 hany
      exact ⟨c, p, hc, rfl, hp, hK⟩
    · cases hhit
  · rintro ⟨c, p, hc, rfl, hp, hK⟩
    rw [hc, Option.bind_some, hp, Option.any_some, if_pos hK]

theorem hit_passedSlots (hs : CueTableOk s) {as : List Aud} {k : Nat} {a : Aud}
    (hk : k ∈ passedSlots pos s as) (hhit : passHit K pos s k = some a) : a ∈ as := by
  obtain ⟨c, hc, rfl, haud, -⟩ := (mem_passedSlots hs).1 hk
  obtain ⟨d, p, hd, rfl, -⟩ := passHit_iff.1 hhit
  rw [hs.cueAt_of_mem hc] at hd
  cases hd
  exact haud

/-- The slots that a pass takes, parted at one auditorium. -/
theorem passedSlots_split (pos : Aud → Option Nat) (s : State) {a : Aud} (h : (pos a).isSome = true) :
    ∃ pre post, passedSlots pos s allAuds
        = passedSlots pos s pre ++ (s.slotsOf a ++ passedSlots pos s post)
      ∧ a ∉ pre ∧ ∀ b ∈ post, a < b := by
  obtain ⟨pre, post, hsplit⟩ := List.append_of_mem (List.mem_finRange a)
  have hlt : (pre ++ a :: post).Pairwise (· < ·) := hsplit ▸ List.pairwise_lt_finRange 24
  obtain ⟨-, htail, hcross⟩ := List.pairwise_append.1 hlt
  refine ⟨pre, post, ?_, fun hmem => lt_irrefl a (hcross a hmem a List.mem_cons_self),
    fun b hb => (List.pairwise_cons.1 htail).1 b hb⟩
  have hall : allAuds = pre ++ a :: post := hsplit
  rw [hall, passedSlots, List.flatMap_append, List.flatMap_cons, if_pos h]
  rfl

theorem hitCount_append (hit : Nat → Option Aud) (a : Aud) (ks js : List Nat) :
    hitCount hit a (ks ++ js) = hitCount hit a ks + hitCount hit a js := List.countP_append ..

theorem hitCount_eq_zero (hs : CueTableOk s) {a : Aud} {as : List Aud} (ha : a ∉ as) :
    hitCount (passHit K pos s) a (passedSlots pos s as) = 0 := by
  refine List.countP_eq_zero.2 fun k hk hhit => ?_
  exact ha (hit_passedSlots hs hk (by simpa using hhit))

/-- How often a pass hits an auditorium that has a position. -/
theorem hitCount_passedSlots (hs : CueTableOk s) {a : Aud} {p : Nat} (hpos : pos a = some p) :
    hitCount (passHit K pos s) a (passedSlots pos s allAuds)
      = (s.table.cues.filter fun c => c.aud == a && K p c).length := by
  obtain ⟨pre, post, hsplit, hpre, hpost⟩ := passedSlots_split pos s (Option.isSome_of_mem hpos)
  have hpost' : a ∉ post := fun hmem => lt_irrefl a (hpost a hmem)
  have hcues : hitCount (passHit K pos s) a (s.slotsOf a)
      = ((s.slotsOf a).filterMap s.cueAt).countP (K p) := by
    rw [List.countP_filterMap]
    refine List.countP_congr fun k hk => ?_
    obtain ⟨c, hc, rfl, haud⟩ := (mem_slotsOf hs).1 hk
    simp [passHit, hs.cueAt_of_mem hc, haud, hpos]
  rw [hsplit, hitCount_append, hitCount_append, hitCount_eq_zero hs hpre, hitCount_eq_zero hs hpost',
    hcues, (cuesOf_perm hs a).countP_eq, ← List.countP_eq_length_filter, List.countP_filter]
  simp [Bool.and_comm]

theorem hitCount_unpositioned {a : Aud} (hpos : pos a = none) (ks : List Nat) :
    hitCount (passHit K pos s) a ks = 0 := by
  refine List.countP_eq_zero.2 fun k hk hhit => ?_
  obtain ⟨c, p, -, -, hp, -⟩ := passHit_iff.1 (by simpa using hhit)
  rw [hpos] at hp
  cases hp

/-- What a pass latches: the last auditorium of the pass with such a cue (R175). -/
theorem lastHit_passedSlots (hs : CueTableOk s) (x : CondState) :
    let hit (a : Aud) : Prop := ∃ p, pos a = some p ∧ ∃ c ∈ s.table.cues, c.aud = a ∧ K p c = true
    let y := lastHit (passHit K pos s) x (passedSlots pos s allAuds)
    ((∀ a, ¬hit a) → y = x) ∧ ∀ a, hit a → (∀ b, a < b → ¬hit b) → y = ⟨true, .aud a⟩ := by
  intro hit y
  have hof {k : Nat} {a : Aud} (h : passHit K pos s k = some a) : hit a := by
    obtain ⟨c, p, hc, haud, hp, hK⟩ := passHit_iff.1 h
    exact ⟨p, hp, c, mem_of_cueAt hc, haud, hK⟩
  constructor
  · intro hno
    refine lastHit_none (fun k _ => ?_) x
    cases hk : passHit K pos s k with
    | none => rfl
    | some a => exact absurd (hof hk) (hno a)
  · rintro a ⟨p, hp, c, hc, haud, hK⟩ hlater
    obtain ⟨pre, post, hsplit, -, hpost⟩ := passedSlots_split pos s (Option.isSome_of_mem hp)
    have hlast : ∀ z, lastHit (passHit K pos s) z (passedSlots pos s post) = z := by
      refine lastHit_none fun k hk => ?_
      cases hhit : passHit K pos s k with
      | none => rfl
      | some b => exact absurd (hof hhit) (hlater b (hpost b (hit_passedSlots hs hk hhit)))
    show lastHit _ _ _ = _
    rw [hsplit, lastHit_append, lastHit_append, hlast, lastHit_same, if_pos]
    · refine ⟨c.slot, (mem_slotsOf hs).2 ⟨c, hc, rfl, haud⟩, ?_⟩
      exact passHit_iff.2 ⟨c, p, hs.cueAt_of_mem hc, haud, hp, hK⟩
    · intro k hk b hhit
      obtain ⟨d, hd, rfl, hda⟩ := (mem_slotsOf hs).1 hk
      obtain ⟨e, -, he, heb, -⟩ := passHit_iff.1 hhit
      rw [hs.cueAt_of_mem hd] at he
      cases he
      exact heb.symm.trans hda

end

theorem posOn_iff {l : LaneId} {air : SiteTime} {s : State} {a : Aud} {p : Nat} :
    posOn l air s a = some p ↔ s.openOn a l = true ∧ (s.timeline a).project air = some p := by
  unfold posOn
  split
  · next h => simp [h]
  · next h => simp [h]

theorem posOn_none {l : LaneId} {air : SiteTime} {s : State} {a : Aud}
    (h : s.openOn a l = false ∨ (s.timeline a).project air = none) : posOn l air s a = none := by
  unfold posOn
  obtain h | h := h
  · simp [h]
  · simp [h]

/-! ### What becomes of a cue (R71 to R73) -/

/-- What the pass leaves of a cue, by its phase and the position. -/
theorem passedCue_spec (s : State) (p : Nat) (c : Cue) :
    (c.phase = .ahead → p < c.inP → passedCue s p c = some c)
    ∧ (c.phase = .showing → p < c.outP → passedCue s p c = some c)
    ∧ (c.phase = .ahead → c.inP ≤ p → p < c.outP →
        passedCue s p c = some { c with
          phase := .showing
          repeatDue := c.repeatDue || decide (c.kind = .caption
            ∧ s.setting .captionRepeat = 1 ∧ c.delivery = .sent
            ∧ 0 < s.listeners c.aud c.track) })
    ∧ (c.phase = .retained ∨ (c.outP ≤ p ∧ (c.phase = .showing ∨ c.inP ≤ p)) →
        (p < retireMark s c → c.phase = .retained → passedCue s p c = some c)
        ∧ (p < retireMark s c → c.phase ≠ .retained → c.delivery ≠ .sending →
            passedCue s p c = some { c with phase := .retained, repeatDue := false })
        ∧ (p < retireMark s c → c.phase ≠ .retained → c.delivery = .sending →
            passedCue s p c = some { c with
              phase := .retained, repeatDue := false, delivery := .sent, relaunch := false
              underrun := c.underrun || c.kind == .clip })
        ∧ (retireMark s c ≤ p → passedCue s p c = none)) := by
  have hstays (hphase : c.phase ≠ .retained) (h : endsAt p c = false) :
      passedCue s p c = some (shownCue s p c) := by
    simp [passedCue, retiresAt, agedCue, h, hphase]
  have hended (hphase : c.phase ≠ .retained) (h : c.outP ≤ p ∧ (c.phase = .showing ∨ c.inP ≤ p)) :
      endsAt p c = true := by simpa [endsAt, hphase] using h
  refine ⟨fun hphase hin => ?_, fun hphase hout => ?_, fun hphase hin hout => ?_, fun h =>
    ⟨fun hmark hphase => ?_, fun hmark hphase hdelivery => ?_, fun hmark hphase hdelivery => ?_,
      fun hmark => ?_⟩⟩
  · rw [hstays (by simp [hphase]) (by simp [endsAt, hphase, Nat.not_le.2 hin]),
      shownCue_self fun h => Nat.not_le.2 hin h.2]
  · rw [hstays (by simp [hphase]) (by simp [endsAt, hphase, Nat.not_le.2 hout]),
      shownCue_self (by simp [hphase])]
  · rw [hstays (by simp [hphase]) (by simp [endsAt, Nat.not_le.2 hout]), shownCue, if_pos ⟨hphase, hin⟩]
    have howed : repeatOwed s c = decide (c.kind = .caption ∧ s.setting .captionRepeat = 1
        ∧ c.delivery = .sent ∧ 0 < s.listeners c.aud c.track) := by
      rw [Bool.eq_iff_iff]
      simp [repeatOwed, and_assoc]
    rw [howed]
  · have hno : endsAt p c = false := by simp [endsAt, hphase]
    simp [passedCue, retiresAt, agedCue, hno, hphase, Nat.not_le.2 hmark, shownCue]
  · simp [passedCue, retiresAt, agedCue, hended hphase (h.resolve_left hphase), Nat.not_le.2 hmark,
      retainedCue, hdelivery]
  · simp [passedCue, retiresAt, agedCue, hended hphase (h.resolve_left hphase), Nat.not_le.2 hmark,
      retainedCue, hdelivery]
  · have hends : c.phase = .retained ∨ endsAt p c = true := by
      by_cases hphase : c.phase = .retained
      · exact .inl hphase
      · exact .inr (hended hphase (h.resolve_left hphase))
    simp [passedCue, retiresAt, hends, hmark]

/-! ### The boundary -/

/-- What a boundary does before the pass of a lane that builds serve no longer (R91, R97). -/
def unserved (l : LaneId) (s : State) : State :=
  if (s.lane l).state = .running then (countBoundary l (boundaryTaken l s)).faultLane l
  else boundaryTaken l s

section

variable {s : State} {l : LaneId}

theorem exec_unserved (hphase : s.phase ≠ .inReset) (hat : isBoundary l s.clock.time = true)
    (hdue : s.clock.due.get l = true)
    (hno : (s.lane l).state = .running → (s.lane l).airing = true ∧ 3 ≤ (s.lane l).missed + 1) :
    exec (.laneBoundary l) s = done (stoppedPass l s.clock.time (unserved l s)) := by
  rw [exec_laneBoundary hphase hat hdue, unserved]
  by_cases hrun : (s.lane l).state = .running
  · rw [if_pos hrun, if_pos hrun, runningBoundary_eq]
    exact congrArg done (if_pos (hno hrun))
  · rw [if_neg hrun, if_neg hrun]

theorem unserved_keeps (l : LaneId) (s : State) :
    Keeps [.clock, .lane l, .cond .laneFault] s (unserved l s) := by
  unfold unserved
  split
  · exact ((boundaryTaken_keeps s l).mono (by simp)).trans
      (((countBoundary_keeps _ l).mono (by simp)).trans ((faultLane_keeps _ l).mono (by simp)))
  · exact (boundaryTaken_keeps s l).mono (by simp)

theorem unserved_clock (l : LaneId) (s : State) :
    (unserved l s).clock = { s.clock with due := s.clock.due.put l false } := by
  unfold unserved
  split
  · exact Eq.trans (faultLane_keeps _ l .clock (by simp)) rfl
  · rfl

theorem unserved_table (l : LaneId) (s : State) :
    (unserved l s).table = s.table ∧ (unserved l s).directory = s.directory := by
  unfold unserved
  split <;> simp [countBoundary, boundaryTaken]

/-- A RUNNING lane that misses its third completion (R97). -/
theorem unserved_faulted (hrun : (s.lane l).state = .running) (hair : (s.lane l).airing = true) :
    (unserved l s).lane l = { (s.lane l).abandon with
        state := .fault, frameNo := (s.lane l).frameNo + 1, missed := (s.lane l).missed + 1 }
      ∧ ((unserved l s).cond .laneFault).on = true := by
  have hlane : (boundaryTaken l s).lane l = s.lane l := rfl
  unfold unserved
  rw [if_pos hrun]
  constructor
  · rw [faultLane_lane, countBoundary_lane, hlane, if_pos hair]
    rfl
  · rw [faultLane_laneFault]

theorem unserved_idle (hidle : (s.lane l).state ≠ .running) : unserved l s = boundaryTaken l s :=
  if_neg hidle

end

/-- What a phase pass adds up to, told from a state of the same cues, shows and counts. -/
structure Aged (pos : Aud → Option Nat) (s : State) (ks : List Nat) (u : State) : Prop where
  cueAt : ∀ k, u.cueAt k = if k ∈ ks then (s.cueAt k).bind fun c =>
    (pos c.aud).bind fun p => passedCue s p c else s.cueAt k
  underruns : ∀ a, u.audCount a .underruns
    = bump^[hitCount (passHit (stopsAs .clip) pos s) a ks] (s.audCount a .underruns)
  lateDropped : ∀ a, u.audCount a .lateDropped
    = bump^[hitCount (passHit (dropsAt s) pos s) a ks] (s.audCount a .lateDropped)
  clipUnderrun : u.cond .clipUnderrun
    = lastHit (passHit (stopsAs .clip) pos s) (s.cond .clipUnderrun) ks
  cueLate : u.cond .cueLate = lastHit (passHit (dropsAt s) pos s) (s.cond .cueLate) ks

/-- The pass after the boundary's first steps, told from the state before the boundary. -/
theorem aged_unserved {s : State} (hs : CueTableOk s) (l : LaneId) :
    Aged (posOn l s.clock.time s) s (passedSlots (posOn l s.clock.time s) s allAuds)
      (stoppedPass l s.clock.time (unserved l s)) := by
  obtain ⟨htable, hdir⟩ := unserved_table l s
  have hkeep := unserved_keeps l s
  have hok : CueTableOk (unserved l s) :=
    cueTableOk_of_stocks hs (.of_directory hdir) (by rw [htable]) (by rw [htable])
  have h := passing_stoppedPass hok l s.clock.time
  generalize stoppedPass l s.clock.time (unserved l s) = t at h
  generalize unserved l s = v at *
  have hcueAt : v.cueAt = s.cueAt := funext (cueAt_congr htable)
  have hpos : posOn l s.clock.time v = posOn l s.clock.time s := by
    funext a
    rw [posOn, SameOpens.openOn (.of_directory hdir),
      show v.timeline a = s.timeline a from hkeep (.timeline a) (by simp), posOn]
  have hset (k : Setting) : v.setting k = s.setting k := hkeep (.setting k) (by simp)
  have hlist (a : Aud) (u : Track) : v.listeners a u = s.listeners a u := State.listeners_congr hdir a u
  have hdrops : dropsAt v = dropsAt s := by
    funext p c
    exact dropsAt_congr hset hlist p c
  have hhit (K : Nat → Cue → Bool) (pos : Aud → Option Nat) : passHit K pos v = passHit K pos s := by
    funext k
    rw [passHit, hcueAt, passHit]
  have hslots (pos : Aud → Option Nat) : passedSlots pos v allAuds = passedSlots pos s allAuds := by
    simp only [passedSlots, State.slotsOf, State.lineup_congr hdir]
  have hcount (a : Aud) (n : AudCounter) : v.audCount a n = s.audCount a n :=
    hkeep (.audCounter a n) (by simp)
  have hcond (x : Cond) (hx : x ≠ .laneFault) : v.cond x = s.cond x := hkeep (.cond x) (by simpa using hx)
  rw [hpos, hslots] at h
  refine ⟨fun k => ?_, fun a => ?_, fun a => ?_, ?_, ?_⟩
  · rw [h.cueAt, hcueAt]
    simp only [passedCue_congr hset hlist]
  · rw [h.underruns, hcount, hhit]
  · rw [h.lateDropped, hcount, hhit, hdrops]
  · rw [h.clipUnderrun, hcond _ (by simp), hhit]
  · rw [h.cueLate, hcond _ (by simp), hhit, hdrops]

/-- The lane after the pass: what the boundary's first steps left, but for the entries turned GONE. -/
theorem lane_stoppedPass {s : State} (hs : CueTableOk s) (l : LaneId) :
    ∃ (gone : Nat → Bool) (g : Repair → Repair),
      (stoppedPass l s.clock.time (unserved l s)).lane l
        = { ((unserved l s).lane l).lessSlots gone with
            repairs := ((unserved l s).lane l).repairs.map g } := by
  obtain ⟨htable, hdir⟩ := unserved_table l s
  exact (passing_stoppedPass (cueTableOk_of_stocks hs (.of_directory hdir) (by rw [htable])
    (by rw [htable])) l s.clock.time).lane

theorem stoppedPass_unserved_keeps {s : State} (hs : CueTableOk s) (l : LaneId) :
    Keeps (walkParts l) (unserved l s) (stoppedPass l s.clock.time (unserved l s)) := by
  obtain ⟨htable, hdir⟩ := unserved_table l s
  exact (passing_stoppedPass (cueTableOk_of_stocks hs (.of_directory hdir) (by rw [htable])
    (by rw [htable])) l s.clock.time).keeps

/-- The cue of a slot after a pass, told by its auditorium's position. -/
theorem Aged.cue {l : LaneId} {s t : State} (hs : CueTableOk s)
    (h : Aged (posOn l s.clock.time s) s (passedSlots (posOn l s.clock.time s) s allAuds) t) {c : Cue}
    (hc : c ∈ s.table.cues) :
    (posOn l s.clock.time s c.aud = none → t.cueAt c.slot = some c)
      ∧ ∀ p, posOn l s.clock.time s c.aud = some p → t.cueAt c.slot = passedCue s p c := by
  have hat := hs.cueAt_of_mem hc
  refine ⟨fun hpos => ?_, fun p hpos => ?_⟩
  · rw [h.cueAt, if_neg, hat]
    intro hmem
    obtain ⟨d, hd, hslot, -, hsome⟩ := (mem_passedSlots hs).1 hmem
    obtain rfl := hs.eq_of_slot_eq hc hd hslot
    rw [hpos] at hsome
    cases hsome
  · rw [h.cueAt, if_pos, hat, Option.bind_some, hpos, Option.bind_some]
    exact (mem_passedSlots hs).2 ⟨c, hc, rfl, List.mem_finRange _, by rw [hpos]; rfl⟩

/-- Settles O54. -/
theorem unservedBoundaryAgesTheCues : Obligations.UnservedBoundaryAgesTheCues := by
  intro l s hphase hat hdue hs x faults ends stops missed hit latched hcase
  have hairing : x.airing = true ↔ x.buf0.isOnAir = true ∨ x.buf1.isOnAir = true := by
    rw [Lane.airing, Lane.bufWhere_isSome]
  have hno : x.state = .running → x.airing = true ∧ 3 ≤ x.missed + 1 := by
    intro hrun
    obtain hidle | ⟨-, hair, hmissed⟩ := hcase
    · exact absurd hrun hidle
    · exact ⟨hairing.2 hair, by omega⟩
  have hexec := exec_unserved hphase hat hdue hno
  have haged := aged_unserved hs l
  obtain ⟨gone, g, hlane⟩ := lane_stoppedPass hs l
  have hpass := stoppedPass_unserved_keeps hs l
  have hkeep : Keeps (.clock :: .cond .laneFault :: walkParts l) s
      (stoppedPass l s.clock.time (unserved l s)) :=
    ((unserved_keeps l s).mono (by simp [walkParts])).trans
      (hpass.mono fun p hp => List.mem_cons_of_mem _ (List.mem_cons_of_mem _ hp))
  have hclock : (stoppedPass l s.clock.time (unserved l s)).clock
      = { s.clock with due := s.clock.due.put l false } :=
    Eq.trans (hpass .clock (by simp [walkParts])) (unserved_clock l s)
  have hfault : (stoppedPass l s.clock.time (unserved l s)).cond .laneFault
      = (unserved l s).cond .laneFault := hpass (.cond .laneFault) (by simp [walkParts])
  have hkept : ((unserved l s).lane l).frameOut = x.frameOut ∧ ((unserved l s).lane l).notices = x.notices
      ∧ ((unserved l s).lane l).rotation = x.rotation
      ∧ ((unserved l s).lane l).repairs = x.repairs := by
    by_cases h : x.state = .running
    · rw [(unserved_faulted h (hno h).1).1]
      exact ⟨rfl, rfl, rfl, rfl⟩
    · rw [unserved_idle h]
      exact ⟨rfl, rfl, rfl, rfl⟩
  have hfaulted (h : x.state = .running) := unserved_faulted h (hno h).1
  have hidle (h : x.state ≠ .running) : (unserved l s).lane l = x ∧ (unserved l s).cond .laneFault
      = s.cond .laneFault := by
    rw [unserved_idle h]
    exact ⟨rfl, rfl⟩
  have hlatched (K : Nat → Cue → Bool) (y : CondState) := lastHit_passedSlots (K := K)
    (pos := posOn l s.clock.time s) hs y
  simp only [posOn_iff, and_assoc, exists_and_left] at hlatched
  generalize stoppedPass l s.clock.time (unserved l s) = t at *
  generalize unserved l s = v at *
  obtain ⟨hframeOut, hnotices, hrotation, hrepairs⟩ := hkept
  have hstate : (t.lane l).state = (v.lane l).state ∧ (t.lane l).frameNo = (v.lane l).frameNo
      ∧ (t.lane l).missed = (v.lane l).missed ∧ ∀ i, (t.lane l).buf i = (v.lane l).buf i := by
    rw [hlane]
    refine ⟨rfl, rfl, rfl, fun i => ?_⟩
    cases i <;> rfl
  obtain ⟨hstate, hframeNo, hmissed, hbuf⟩ := hstate
  refine ⟨_, hexec, hclock, fun hf => ?_, fun hrun => ?_, ?_, ?_, ?_, ?_, fun c hc => ?_, fun a ha => ?_,
    fun a p hopen hp hok => ?_, ?_, ?_, hkeep.changesOnly⟩
  · obtain ⟨hrun, -⟩ := hf
    obtain ⟨hv, hon⟩ := hfaulted hrun
    refine ⟨hstate.trans (by rw [hv]), hframeNo.trans (by rw [hv]), hmissed.trans (by rw [hv]),
      (congrArg Lane.build hlane).trans (by rw [hv]; rfl), (congrArg CondState.on hfault).trans hon,
      fun i => (hbuf i).trans ?_⟩
    rw [hv]
    cases i <;> exact dropUnaired_eq _
  · obtain ⟨hv, hcond⟩ := hidle hrun
    exact ⟨hstate.trans (by rw [hv]), hframeNo.trans (by rw [hv]), hmissed.trans (by rw [hv]),
      fun i => (hbuf i).trans (by rw [hv]), hfault.trans hcond⟩
  · exact (congrArg Lane.frameOut hlane).trans hframeOut
  · exact (congrArg Lane.notices hlane).trans hnotices
  · exact (congrArg Lane.rotation hlane).trans hrotation
  · refine (congrArg (fun y : Lane => y.repairs.length) hlane).trans ?_
    rw [← hrepairs]
    exact List.length_map ..
  · obtain ⟨hnone, hsome⟩ := haged.cue hs hc
    refine ⟨fun h => hnone (posOn_none h), fun p hopen hp => ?_⟩
    have hcue := hsome p (posOn_iff.2 ⟨hopen, hp⟩)
    have hspec := passedCue_spec s p c
    rw [← hcue] at hspec
    exact hspec
  · have hpos := posOn_none ha
    exact ⟨(haged.underruns a).trans (by rw [hitCount_unpositioned hpos]; rfl),
      (haged.lateDropped a).trans (by rw [hitCount_unpositioned hpos]; rfl)⟩
  · have hpos := posOn_iff.2 ⟨hopen, hp⟩
    obtain ⟨hauds, -⟩ := hok
    refine ⟨(haged.underruns a).trans ?_, (haged.lateDropped a).trans ?_⟩
    · rw [iterate_bump _ (hauds a .underruns), hitCount_passedSlots hs hpos]
      rfl
    · rw [iterate_bump _ (hauds a .lateDropped), hitCount_passedSlots hs hpos]
      rfl
  · have hlast := hlatched (stopsAs .clip) (s.cond .clipUnderrun)
    rw [← haged.clipUnderrun] at hlast
    exact hlast
  · have hlast := hlatched (dropsAt s) (s.cond .cueLate)
    rw [← haged.cueLate] at hlast
    exact hlast

end Sys2Proof.Machine
end


section
/-! SUPPORT. One unit of a build (R101; log entry 10): the stages that stamp, place notices, announce, and open the
walk. -/

namespace Sys2Proof.Machine

/-- A build is in progress on a lane, with its frame in the buffer it fills. -/
structure Building (l : LaneId) (s : State) (b : Build) (f : Frame) : Prop where
  awake : s.phase ≠ .inReset
  build : (s.lane l).build = some b
  buf : (s.lane l).buf b.buf = .building f

/-- A unit of a build leaves the lane as `y`, the build at stage `st`. -/
def Passes (l : LaneId) (s : State) (b : Build) (t : State) (y : Lane) (st : Stage) : Prop :=
  exec (.buildProgress l) s = .next t ∧ t.lane l = { y with build := some { b with stage := st } }

/-- A unit of a build places a section and passes on. -/
def Places (l : LaneId) (s : State) (b : Build) (f : Frame) (t : State) (y : Lane) (sec : Section)
    (st : Stage) : Prop :=
  Passes l s b t (y.withBuf b.buf (.building { f with sections := f.sections ++ [sec] })) st

/-- A unit of a build only passes on. -/
def Moves (l : LaneId) (s : State) (b : Build) (st : Stage) : Prop :=
  ∃ t, Passes l s b t (s.lane l) st ∧ ChangesOnly [.lane l] s t

theorem Lane.build_withBuf (x : Lane) (i : BufId) (y : Buffer) : (x.withBuf i y).build = x.build := by
  cases i <;> rfl

theorem toStage_lane {u : State} {l : LaneId} {b : Build} (h : (u.lane l).build = some b) (st : Stage) :
    (u.toStage l st).lane l = { u.lane l with build := some { b with stage := st } } := by
  rw [State.toStage, State.lane_withLane_self, Lane.modBuild, h]
  rfl

theorem toStage_keeps (u : State) (l : LaneId) (st : Stage) : Keeps [.lane l] u (u.toStage l st) :=
  withLane_keeps _ _ _

theorem addSection_keeps (u : State) (l : LaneId) (i : BufId) (sec : Section) :
    Keeps [.lane l] u (u.addSection l i sec) := by
  unfold State.addSection
  dsimp only
  split
  · exact withLane_keeps _ _ _
  · exact .refl _ _

/-- A section placed in the buffer that a build fills. -/
theorem addSection_lane {u : State} {l : LaneId} {i : BufId} {f : Frame}
    (hbuf : (u.lane l).buf i = .building f) (sec : Section) :
    (u.addSection l i sec).lane l
      = (u.lane l).withBuf i (.building { f with sections := f.sections ++ [sec] }) := by
  unfold State.addSection
  dsimp only
  rw [hbuf]
  exact State.lane_withLane_self _ _ _

section

variable {l : LaneId} {s : State} {b : Build} {f : Frame} (h : Building l s b f)

include h

theorem Building.exec {u : State} (hunit : buildUnit l s = u) :
    exec (.buildProgress l) s = .next (settle u) := by
  have hdef : Machine.exec (.buildProgress l) s = execBuildProgress l s := rfl
  have hbusy : s.isBuilding l = true := by rw [State.isBuilding, h.build]; rfl
  rw [hdef, execBuildProgress, if_pos ⟨h.awake, hbusy⟩, hunit]
  rfl

theorem Building.moves {st : Stage} (hunit : buildUnit l s = s.toStage l st) : Moves l s b st :=
  ⟨_, ⟨h.exec hunit, toStage_lane h.build st⟩, (toStage_keeps s l st).changesOnly⟩

theorem Building.added_build (sec : Section) : ((s.addSection l b.buf sec).lane l).build = some b := by
  rw [addSection_lane h.buf, Lane.build_withBuf, h.build]

theorem Building.addedStage_lane (sec : Section) (st : Stage) :
    ((s.addSection l b.buf sec).toStage l st).lane l
      = { (s.lane l).withBuf b.buf (.building { f with sections := f.sections ++ [sec] }) with
          build := some { b with stage := st } } := by
  rw [toStage_lane (h.added_build sec), addSection_lane h.buf]

theorem Building.places {sec : Section} {st : Stage}
    (hunit : buildUnit l s = (s.addSection l b.buf sec).toStage l st) :
    ∃ t, Places l s b f t (s.lane l) sec st ∧ ChangesOnly [.lane l] s t :=
  ⟨_, ⟨h.exec hunit, h.addedStage_lane sec st⟩,
    ((addSection_keeps s l b.buf sec).trans (toStage_keeps _ l st)).changesOnly⟩

/-! ### Stamps and notices (R102, R108) -/

theorem Building.stamp {a : Aud} {left : List Aud} (hst : b.stage = .stamps (a :: left)) :
    ∃ t, Machine.exec (.buildProgress l) s = .next t
      ∧ t.lane l = { (s.lane l).withBuf b.buf (.building { f with sections := f.sections ++
            [.stamp a (s.timeline a).state (s.timeline a).epoch (s.timeline a).gated
              (((s.theShow? a).map fun w => w.tracks.length).getD 0)
              (((s.timeline a).project b.air).getD 0) (s.timeline a).rate] }) with
          build := some { b with
            readings := b.readings ++ [(a, s.reading a b.air)], stage := .stamps left } }
      ∧ ChangesOnly [.lane l] s t := by
  have hunit : buildUnit l s = stampOne l b a left s := by
    simp only [buildUnit, h.build, hst]
  refine ⟨_, h.exec hunit, ?_, ?_⟩
  · refine (State.lane_withLane_self _ _ _).trans ?_
    rw [Lane.modBuild, h.added_build, addSection_lane h.buf]
    cases s.theShow? a <;> rfl
  · refine Keeps.changesOnly ?_
    exact (addSection_keeps s l b.buf _).trans (withLane_keeps _ _ _)

theorem Building.stampsDone (hst : b.stage = .stamps []) : Moves l s b (.notices 0 0) :=
  h.moves (by simp only [buildUnit, h.build, hst])

theorem Building.notice {passed placed : Nat} {n : Notice} (hst : b.stage = .notices passed placed)
    (hn : (s.lane l).notices[passed]? = some n) (hroom : placed < 16) :
    ∃ t, Places l s b f t
        { s.lane l with notices := if n.left ≤ 1 then (s.lane l).notices.eraseIdx passed
            else (s.lane l).notices.set passed { n with left := n.left - 1 } }
        (noticeSection n)
        (.notices (if n.left ≤ 1 then passed else passed + 1) (placed + 1))
      ∧ ChangesOnly [.lane l] s t := by
  have hunit : buildUnit l s = noticeOne l b passed placed n s := by
    simp only [buildUnit, h.build, hst, hn, if_pos hroom]
  have hbuild (ns : List Notice) : ({ (s.addSection l b.buf (noticeSection n)).lane l with
      notices := ns } : Lane).build = some b := h.added_build _
  refine ⟨_, ⟨h.exec hunit, ?_⟩, ?_⟩
  · refine Eq.trans (b := (noticeOne l b passed placed n s).lane l) rfl ?_
    unfold noticeOne
    dsimp only
    have hnotices : ((s.addSection l b.buf (noticeSection n)).lane l).notices = (s.lane l).notices :=
      addSection_notices ..
    by_cases hlast : n.left ≤ 1
    · simp only [if_pos hlast]
      rw [toStage_lane (b := b) (by rw [State.lane_withLane_self]; exact hbuild _),
        State.lane_withLane_self, hnotices, addSection_lane h.buf]
      cases b.buf <;> rfl
    · simp only [if_neg hlast]
      rw [toStage_lane (b := b) (by rw [State.lane_withLane_self]; exact hbuild _),
        State.lane_withLane_self, hnotices, addSection_lane h.buf]
      cases b.buf <;> rfl
  · refine Keeps.changesOnly ?_
    unfold noticeOne
    dsimp only
    split
    · exact (addSection_keeps s l b.buf _).trans ((withLane_keeps _ _ _).trans (toStage_keeps _ _ _))
    · exact (addSection_keeps s l b.buf _).trans ((withLane_keeps _ _ _).trans (toStage_keeps _ _ _))

theorem Building.noticesDone {passed placed : Nat} (hst : b.stage = .notices passed placed)
    (hend : (s.lane l).notices[passed]? = none ∨ 16 ≤ placed) :
    Moves l s b (.select (s.lane l).rotation [] (s.setting .announceEvery) (s.setting .announceCap)) := by
  refine h.moves ?_
  simp only [buildUnit, h.build, hst]
  cases hn : (s.lane l).notices[passed]? with
  | none => rfl
  | some n =>
    have hfull : 16 ≤ placed := hend.resolve_left (by simp [hn])
    exact if_neg (Nat.not_lt.2 hfull)

/-! ### Announcements (R151 to R153) -/

omit h in
/-- The records that may be announced on a lane (R152). -/
theorem mayAnnounce_iff {number : FrameNo} {every : Nat} {i : RxIdx} :
    mayAnnounce s l number every i = true
      ↔ i ∈ (s.lane l).rotation ∧ ∃ r, s.rx? i = some r
        ∧ (s.openOn r.aud l = true
          ∨ (r.state = .moving ∧ ∃ a, r.movedFrom = some a ∧ s.openOn a l = true))
        ∧ r.unmatched = false
        ∧ ∀ mark, r.marks.get l = some mark → every ≤ (number - mark).toNat := by
  have hmarks (r : RxRec) : (match r.marks.get l with
      | none => true
      | some m => decide (every ≤ (number - m).toNat)) = true
      ↔ ∀ mark, r.marks.get l = some mark → every ≤ (number - mark).toNat := by
    cases r.marks.get l <;> simp
  unfold mayAnnounce State.inRotation
  rw [Bool.and_eq_true, List.contains_iff_mem]
  refine and_congr_right fun _ => ?_
  cases s.rx? i with
  | none => simp
  | some r =>
    have hon := releaseOn_iff s r l
    unfold releaseOn at hon
    simp only [announceable, Bool.and_eq_true, hon, Bool.not_eq_true', Option.some.injEq, exists_eq_left',
      and_assoc]
    exact and_congr_right fun _ => and_congr_right fun _ => hmarks r

theorem Building.select {chosen : List RxIdx} {every cap : Nat} {i : RxIdx} {left : List RxIdx}
    (hst : b.stage = .select (i :: left) chosen every cap) :
    (cap ≤ chosen.length → Moves l s b (.announce chosen every))
      ∧ (chosen.length < cap → mayAnnounce s l b.number every i = true →
        Moves l s b (.select left (chosen ++ [i]) every cap))
      ∧ (chosen.length < cap → ¬mayAnnounce s l b.number every i = true →
        Moves l s b (.select left chosen every cap)) := by
  refine ⟨fun hcap => h.moves ?_, fun hcap hmay => h.moves ?_, fun hcap hmay => h.moves ?_⟩
  · simp only [buildUnit, h.build, hst, if_pos hcap]
  · simp only [buildUnit, h.build, hst, if_neg (Nat.not_le.2 hcap), if_pos hmay]
  · simp only [buildUnit, h.build, hst, if_neg (Nat.not_le.2 hcap), if_neg hmay]

theorem Building.selected {chosen : List RxIdx} {every cap : Nat}
    (hst : b.stage = .select [] chosen every cap) : Moves l s b (.announce chosen every) :=
  h.moves (by simp only [buildUnit, h.build, hst])

theorem Building.announce {every : Nat} {i : RxIdx} {left : List RxIdx}
    (hst : b.stage = .announce (i :: left) every) :
    (∀ r, mayAnnounce s l b.number every i = true → s.rx? i = some r →
        Moves l s b (.announcing i (announceOf s r) left every))
      ∧ (¬mayAnnounce s l b.number every i = true → Moves l s b (.announce left every)) := by
  refine ⟨fun r hmay hr => h.moves ?_, fun hmay => h.moves ?_⟩
  · simp only [buildUnit, h.build, hst, if_pos hmay, hr]
  · simp only [buildUnit, h.build, hst, if_neg hmay]

omit h in
theorem addSection_rotation (i : BufId) (sec : Section) :
    ((s.addSection l i sec).lane l).rotation = (s.lane l).rotation := by
  unfold State.addSection
  dsimp only
  split
  · rw [State.lane_withLane_self]
    cases i <;> rfl
  · rfl

theorem Building.announcing_left {every : Nat} {i : RxIdx} {sec : Announce} {left : List RxIdx}
    (hst : b.stage = .announcing i sec left every) (hi : i ∉ (s.lane l).rotation) :
    ∃ t, Places l s b f t (s.lane l) (.announce sec) (.announce left every)
      ∧ ChangesOnly [.lane l] s t := by
  refine h.places ?_
  have hout : ¬(s.addSection l b.buf (.announce sec)).inRotation l i = true := by
    rwa [State.inRotation, List.contains_iff_mem, addSection_rotation]
  simp only [buildUnit, h.build, hst, announcePlaced, if_neg hout]

theorem Building.announcing_stays {every : Nat} {i : RxIdx} {sec : Announce} {left : List RxIdx} {r : RxRec}
    (hst : b.stage = .announcing i sec left every) (hi : i ∈ (s.lane l).rotation)
    (hr : s.rx? i = some r) :
    ∃ t, Places l s b f t
        { s.lane l with rotation := (s.lane l).rotation.filter (fun k => k != i) ++ [i] }
        (.announce sec) (.announce left every)
      ∧ t.rx? i = some { r with marks := r.marks.put l (some b.number) }
      ∧ (∀ k, k ≠ i → t.rx? k = s.rx? k) ∧ ChangesOnly [.lane l, .roster] s t := by
  have hin : (s.addSection l b.buf (.announce sec)).inRotation l i = true := by
    rwa [State.inRotation, List.contains_iff_mem, addSection_rotation]
  let u := (s.addSection l b.buf (.announce sec)).rotAppend l i
  have hroster : u.roster = s.roster := by simp [u]
  have hu : u.rx? i = some r := by rw [State.rx?, hroster]; exact hr
  let v := u.putRx { r with marks := r.marks.put l (some b.number) }
  have hunit : buildUnit l s = v.toStage l (.announce left every) := by
    simp only [buildUnit, h.build, hst, announcePlaced, if_pos hin]
    rw [show ((s.addSection l b.buf (.announce sec)).rotAppend l i).rx? i = some r from hu]
  have hlane : v.lane l = { (s.addSection l b.buf (.announce sec)).lane l with
      rotation := (s.lane l).rotation.filter (fun k => k != i) ++ [i] } := by
    refine (State.lane_withLane_self _ _ _).trans ?_
    rw [addSection_rotation]
  have hindex : r.index = i := State.index_of_rx? hr
  refine ⟨_, ⟨h.exec hunit, ?_⟩, ?_, fun k hk => ?_, ?_⟩
  · refine (toStage_lane (b := b) ?_ _).trans ?_
    · rw [hlane]
      exact h.added_build _
    · rw [hlane, addSection_lane h.buf]
      cases b.buf <;> rfl
  · exact State.rx?_putRx_self hu hindex
  · refine (State.rx?_putRx_of_ne u (r := { r with marks := r.marks.put l (some b.number) })
      (by rw [hindex]; exact hk)).trans ?_
    rw [State.rx?, hroster, State.rx?]
  · refine Keeps.changesOnly ?_
    exact ((addSection_keeps _ _ _ _).mono (by simp)).trans (((rotAppend_keeps _ _ _).mono (by simp)).trans
      (((putRx_keeps _ _).mono (by simp)).trans ((toStage_keeps _ _ _).mono (by simp))))

/-! ### The walk is opened (R70) -/

theorem Building.walk_opens {every : Nat} (hst : b.stage = .announce [] every) :
    Moves l s b (.walk ((b.readings.filter fun y => y.2.pos.isSome && decide (y.1 ∉ b.jumped)).flatMap
      fun y => (allTracks.filter fun u => (s.track? y.1 u).isSome).map fun u => (y.1, u)) [] []) := by
  have hwork : walkWork s b
      = (b.readings.filter fun y => y.2.pos.isSome && decide (y.1 ∉ b.jumped)).flatMap
          fun y => (allTracks.filter fun u => (s.track? y.1 u).isSome).map fun u => (y.1, u) := by
    unfold walkWork
    congr 2
    funext y
    simp
  rw [← hwork]
  exact h.moves (by simp only [buildUnit, h.build, hst])

theorem Building.walk_track {a : Aud} {u : Track} {work : List (Aud × Track)} {offers : List Offer}
    (hst : b.stage = .walk ((a, u) :: work) [] offers) : Moves l s b (.walk work (s.lineup a u) offers) :=
  h.moves (by simp only [buildUnit, h.build, hst])

theorem Building.walk_done {offers : List Offer} (hst : b.stage = .walk [] [] offers) :
    Moves l s b (.reserve offers) :=
  h.moves (by simp only [buildUnit, h.build, hst])

end

end Sys2Proof.Machine
end


section
/-! SUPPORT. The walk reaches one cue (R70 to R77): the launch test, the offer, and the unit of the build. -/

namespace Sys2Proof.Machine

/-! ### The offer a cue makes (R77) -/

/-- The offer of a cue of a kind. -/
def Cue.offer (c : Cue) (k : OfferKind) : Offer := ⟨k, c.slot, c.inP, c.aud, c.track, c.num⟩

theorem offerOf_caption {c : Cue} (was : Bool) (h : c.kind = .caption) :
    offerOf was c = if c.delivery = .sending then some (c.offer .caption)
      else if c.phase = .showing ∧ c.repeatDue = true then some (c.offer .captionRepeat) else none := by
  unfold offerOf
  rw [h]
  by_cases hd : c.delivery = .sending
  · simp [qualifies, h, hd, Cue.offer]
  · simp [qualifies, h, hd, Cue.offer]

theorem offerOf_clip {c : Cue} (was : Bool) (h : c.kind = .clip) :
    offerOf was c = if c.delivery = .sending ∧ c.off < c.fill
      then some (c.offer (if was then .continuing else .firstSegment)) else none := by
  unfold offerOf
  rw [h]
  cases was <;> simp [qualifies, h, Cue.offer]

/-! ### The launch test (R74 to R76) -/

section

variable {s : State} {rate p : Nat} {c : Cue}

theorem isDue_iff : isDue s rate p c = true ↔ c.delivery = .waiting ∧ c.inP ≤ p + leadPos s rate c := by
  simp [isDue]

theorem launchTest_notDue (h : ¬(c.delivery = .waiting ∧ c.inP ≤ p + leadPos s rate c)) :
    launchTest rate p s c = s := if_neg (mt isDue_iff.1 h)

theorem launchTest_due (h : c.delivery = .waiting ∧ c.inP ≤ p + leadPos s rate c) :
    launchTest rate p s c =
      if s.listeners c.aud c.track = 0 then s.putCue { c with delivery := .sent, relaunch := false }
      else if c.outP ≤ p then (s.putCue { c with delivery := .sent, relaunch := false }).lateDrop c.aud
      else if c.kind = .caption ∧ c.fill < c.declared then s
      else s.putCue { c with delivery := .sending, off := 0 } := if_pos (isDue_iff.2 h)

theorem leadPos_eq : leadPos s rate c = (match c.kind with
    | .caption => s.setting .captionLead
    | .clip => min (s.setting .descLeadBase
        + 20 * ((c.declared + (s.setting .segmentMax - 1)) / s.setting .segmentMax)) 10000)
      * rate / 65536 := by
  unfold leadPos leadMs ceilDiv
  cases c.kind <;> rfl

end

/-- A cue that stays in the table is launched or not, and makes its offer (R70). -/
theorem walkCue_stays {s u : State} {r : Reading} {p k : Nat} {d : Cue} (hpass : phasePass p k s = u)
    (hd : u.cueAt k = some d) :
    walkCue r p k s
      = (launchTest r.rate p u d,
          ((launchTest r.rate p u d).cueAt k).bind (offerOf (d.delivery == .sending))) := by
  unfold walkCue
  dsimp only
  rw [hpass, hd]

/-! ### The unit -/

/-- The walk has passed a cue: it stands as `e`, and offers as `k` (R70, R77). -/
def Walked (l : LaneId) (s : State) (b : Build) (c : Cue) (work : List (Aud × Track)) (slots : List Nat)
    (offers : List Offer) (t : State) (e : Cue) (k : Option OfferKind) : Prop :=
  Passes l s b t (s.lane l) (.walk work slots (offers ++ (k.map c.offer).toList))
    ∧ t.cueAt c.slot = some e ∧ ∀ j, j ≠ c.slot → t.cueAt j = s.cueAt j

/-- The walk at one cue of a positioned auditorium (R70). -/
structure Walking (l : LaneId) (s : State) (b : Build) (f : Frame) (work : List (Aud × Track)) (c : Cue)
    (slots : List Nat) (offers : List Offer) (r : Reading) (p : Nat) : Prop extends Building l s b f where
  stage : b.stage = .walk work (c.slot :: slots) offers
  cue : s.cueAt c.slot = some c
  reading : ∃ a, b.readings.find? (fun y => y.1 == c.aud) = some (a, r)
  pos : r.pos = some p

section

variable {l : LaneId} {s : State} {b : Build} {f : Frame} {work : List (Aud × Track)} {c : Cue}
  {slots : List Nat} {offers : List Offer} {r : Reading} {p : Nat}
  (h : Walking l s b f work c slots offers r p)

include h

theorem Walking.unit {v : State} {o : Option Offer}
    (hwalk : walkCue r p c.slot (s.toStage l (.walk work slots offers)) = (v, o)) :
    buildUnit l s = match o with
      | some o => v.toStage l (.walk work slots (offers ++ [o]))
      | none => v := by
  obtain ⟨a, hread⟩ := h.reading
  have hcue : (s.toStage l (.walk work slots offers)).cueAt c.slot = some c := h.cue
  have hone : buildUnit l s = walkOne l b work c.slot slots offers s := by
    have hstage := h.stage
    cases work with
    | nil => simp only [buildUnit, h.build, hstage]
    | cons w ws => simp only [buildUnit, h.build, hstage]
  rw [hone]
  simp only [walkOne, hcue, hread, h.pos, hwalk]
  cases o <;> rfl

/-- The unit's end, from the state that the walk leaves. -/
theorem Walking.walked {v : State} {e : Cue} {k : Option OfferKind} {ps : List Part}
    (hwalk : walkCue r p c.slot (s.toStage l (.walk work slots offers)) = (v, k.map c.offer))
    (hat : ∀ j, v.cueAt j = if j = c.slot then some e else s.cueAt j)
    (hlane : v.lane l = (s.toStage l (.walk work slots offers)).lane l)
    (hkeep : Keeps (.lane l :: ps) s v) :
    ∃ t, Walked l s b c work slots offers t e k
      ∧ (∀ a n, t.audCount a n = v.audCount a n) ∧ (∀ x, t.cond x = v.cond x)
      ∧ ChangesOnly (.lane l :: ps) s t := by
  have hunit := h.unit hwalk
  have hstage : v.lane l = { s.lane l with build := some { b with stage := .walk work slots offers } } :=
    hlane.trans (toStage_lane h.build _)
  have hself := (hat c.slot).trans (if_pos rfl)
  have hothers (j : Nat) (hj : j ≠ c.slot) := (hat j).trans (if_neg hj)
  cases k with
  | none =>
    refine ⟨_, ⟨⟨h.exec hunit, hstage.trans ?_⟩, hself, hothers⟩, fun _ _ => rfl, fun _ => rfl,
      hkeep.changesOnly⟩
    simp
  | some k =>
    refine ⟨_, ⟨⟨h.exec hunit, ?_⟩, hself, hothers⟩, fun _ _ => rfl, fun _ => rfl,
      (hkeep.trans ((toStage_keeps v l _).mono (by simp))).changesOnly⟩
    refine (toStage_lane (u := v) (b := { b with stage := .walk work slots offers }) ?_ _).trans ?_
    · rw [hstage]
    · rw [hstage]
      rfl

/-! ### A cue that neither ends nor is retired -/

/-- The state in which the walk reaches the cue. -/
def Walking.start (_ : Walking l s b f work c slots offers r p) : State :=
  s.toStage l (.walk work slots offers)

theorem Walking.start_keeps : Keeps [.lane l] s h.start := toStage_keeps s l _

theorem Walking.start_cue : h.start.cueAt c.slot = some c := h.cue

/-- The phase pass only shows the cue, or leaves it. -/
theorem Walking.shows (hends : endsAt p c = false) (hstays : retiresAt s p c = false) :
    phasePass p c.slot h.start = h.start.recast c (shownCue s p c) := by
  have hretires : retiresAt h.start p c = false := hstays
  have hmissed : missedAt h.start p c = false :=
    Bool.eq_false_iff.2 fun hm => Bool.eq_false_iff.1 hretires ((missedAt_iff p _ c).1 hm).1
  have haged : agedCue h.start p c = shownCue s p c := by
    unfold agedCue
    rw [hends]
    rfl
  rw [phasePass_eq p h.start_cue, hretires, agedState, haged]
  simp [stopsAs, dropsAt, hends, hmissed, tellPass]

/-- The unit at a cue that stays in the table: the phase pass, the launch test, the offer. -/
theorem Walking.passedAs {u v : State} {d e : Cue} {k : Option OfferKind} {ps : List Part}
    (hpass : phasePass p c.slot h.start = u) (hd : u.cueAt c.slot = some d)
    (hlaunch : launchTest r.rate p u d = v)
    (hat : ∀ j, v.cueAt j = if j = c.slot then some e else s.cueAt j)
    (hoffer : offerOf (d.delivery == .sending) e = k.map c.offer)
    (hlane : v.lane l = h.start.lane l) (hkeep : Keeps (.lane l :: ps) s v) :
    ∃ t, Walked l s b c work slots offers t e k
      ∧ (∀ a n, t.audCount a n = v.audCount a n) ∧ (∀ x, t.cond x = v.cond x)
      ∧ ChangesOnly (.lane l :: ps) s t := by
  refine h.walked ?_ hat hlane hkeep
  refine (walkCue_stays hpass hd).trans ?_
  rw [hlaunch, hat, if_pos rfl, Option.bind_some, hoffer]

/-- The cue as the launch test leaves it, from the cue as the phase pass leaves it. -/
theorem Walking.staysAs {v : State} {e : Cue} {k : Option OfferKind} {ps : List Part}
    (hends : endsAt p c = false) (hstays : retiresAt s p c = false)
    (hlaunch : launchTest r.rate p (h.start.recast c (shownCue s p c)) (shownCue s p c) = v)
    (hat : ∀ j, v.cueAt j = if j = c.slot then some e else s.cueAt j)
    (hoffer : offerOf (c.delivery == .sending) e = k.map c.offer)
    (hlanes : v.lanes = h.start.lanes) (hkeep : Keeps (.lane l :: ps) s v) :
    ∃ t, Walked l s b c work slots offers t e k
      ∧ (∀ a n, t.audCount a n = v.audCount a n) ∧ (∀ x, t.cond x = v.cond x)
      ∧ ChangesOnly (.lane l :: ps) s t := by
  obtain ⟨hslot, -, -, -, -, hdelivery⟩ := shownCue_fields s p c
  refine h.passedAs (h.shows hends hstays) ?_ hlaunch hat ?_ (State.lane_congr hlanes l) hkeep
  · rw [cueAt_recast h.start_cue hslot, if_pos rfl]
  · rw [hdelivery]
    exact hoffer

end

end Sys2Proof.Machine
end


section
/-! SUPPORT. The walk at a cue that stays in its phases: held back, launched, or late (R74 to R77). -/

namespace Sys2Proof.Machine

theorem lateDrop_keeps (s : State) (a : Aud) :
    Keeps [.audCounter a .lateDropped, .cond .cueLate] s (s.lateDrop a) :=
  ((countAud_keeps _ _ _).mono (by simp)).trans ((latch_keeps _ _ _).mono (by simp))

section

variable {l : LaneId} {s : State} {b : Build} {f : Frame} {work : List (Aud × Track)} {c : Cue}
  {slots : List Nat} {offers : List Offer} {r : Reading} {p : Nat}
  (h : Walking l s b f work c slots offers r p)

include h

/-- The walk leaves a cue as `e`, changing nothing else of the Cue Table, and offers it as `k`. -/
def Leaves (_ : Walking l s b f work c slots offers r p) (e : Cue) (k : Option OfferKind) : Prop :=
  ∃ t, Walked l s b c work slots offers t e k ∧ ChangesOnly [.lane l, .cues] s t

omit h in
theorem leadPos_congr {t : State} {d : Cue} (hset : ∀ k, t.setting k = s.setting k)
    (hkind : d.kind = c.kind) (hdeclared : d.declared = c.declared) (rate : Nat) :
    leadPos t rate d = leadPos s rate c := by
  unfold leadPos leadMs
  rw [hkind, hdeclared, hset, hset, hset]

variable (hends : endsAt p c = false) (hstays : retiresAt s p c = false)

theorem Walking.shown_keeps : Keeps [.lane l, .cues] s (h.start.recast c (shownCue s p c)) :=
  (h.start_keeps.mono (by simp)).trans ((recast_keeps _ _ _).mono (by simp))

theorem Walking.shown_cueAt (j : Nat) : (h.start.recast c (shownCue s p c)).cueAt j
    = if j = c.slot then some (shownCue s p c) else s.cueAt j :=
  cueAt_recast h.start_cue (shownCue_fields s p c).1 j

omit h in
/-- What the launch test asks of a cue that differs in phase and flags alone. -/
theorem launch_of {u : State} {d : Cue} (hset : ∀ k, u.setting k = s.setting k)
    (hlist : u.listeners c.aud c.track = s.listeners c.aud c.track)
    (hd : d = { c with
      phase := d.phase, repeatDue := d.repeatDue, relaunch := d.relaunch, underrun := d.underrun }) :
    (¬(c.delivery = .waiting ∧ c.inP ≤ p + leadPos s r.rate c) → launchTest r.rate p u d = u)
      ∧ (c.delivery = .waiting ∧ c.inP ≤ p + leadPos s r.rate c → launchTest r.rate p u d =
        if s.listeners c.aud c.track = 0 then u.putCue { d with delivery := .sent, relaunch := false }
        else if c.outP ≤ p then (u.putCue { d with delivery := .sent, relaunch := false }).lateDrop c.aud
        else if c.kind = .caption ∧ c.fill < c.declared then u
        else u.putCue { d with delivery := .sending, off := 0 }) := by
  have hfields : d.kind = c.kind ∧ d.declared = c.declared ∧ d.inP = c.inP ∧ d.delivery = c.delivery
      ∧ d.aud = c.aud ∧ d.track = c.track ∧ d.outP = c.outP ∧ d.fill = c.fill := by
    rw [hd]
    exact ⟨rfl, rfl, rfl, rfl, rfl, rfl, rfl, rfl⟩
  obtain ⟨hkind, hdeclared, hin, hdelivery, haud, htrack, hout, hfill⟩ := hfields
  have hdue : (d.delivery = .waiting ∧ d.inP ≤ p + leadPos u r.rate d)
      ↔ (c.delivery = .waiting ∧ c.inP ≤ p + leadPos s r.rate c) := by
    rw [leadPos_congr hset hkind hdeclared r.rate, hin, hdelivery]
  refine ⟨fun hno => launchTest_notDue (mt hdue.1 hno), fun hyes => ?_⟩
  rw [launchTest_due (hdue.2 hyes), haud, htrack, hlist, hout, hkind, hfill, hdeclared]

theorem Walking.launch :
    let u := h.start.recast c (shownCue s p c)
    let d := shownCue s p c
    (¬(c.delivery = .waiting ∧ c.inP ≤ p + leadPos s r.rate c) → launchTest r.rate p u d = u)
      ∧ (c.delivery = .waiting ∧ c.inP ≤ p + leadPos s r.rate c → launchTest r.rate p u d =
        if s.listeners c.aud c.track = 0 then u.putCue { d with delivery := .sent, relaunch := false }
        else if c.outP ≤ p then (u.putCue { d with delivery := .sent, relaunch := false }).lateDrop c.aud
        else if c.kind = .caption ∧ c.fill < c.declared then u
        else u.putCue { d with delivery := .sending, off := 0 }) := by
  refine launch_of (fun k => h.shown_keeps (.setting k) (by simp)) ?_ ?_
  · refine State.listeners_congr ?_ _ _
    rw [recast_directory]
    rfl
  · unfold shownCue
    split <;> rfl

theorem Walking.put_cueAt {e : Cue} (hslot : e.slot = c.slot) (j : Nat) :
    ((h.start.recast c (shownCue s p c)).putCue e).cueAt j
      = if j = c.slot then some e else s.cueAt j := by
  have hslot' := (shownCue_fields s p c).1
  have hself : (h.start.recast c (shownCue s p c)).cueAt (shownCue s p c).slot = some (shownCue s p c) := by
    rw [h.shown_cueAt, hslot', if_pos rfl]
  rw [cueAt_putCue hself (hslot.trans hslot'.symm), hslot', h.shown_cueAt]
  split <;> rfl

include hends hstays

theorem Walking.leaves_unlaunched {k : Option OfferKind}
    (hlaunch : launchTest r.rate p (h.start.recast c (shownCue s p c)) (shownCue s p c)
      = h.start.recast c (shownCue s p c))
    (hoffer : offerOf (c.delivery == .sending) (shownCue s p c) = k.map c.offer) :
    Leaves h (shownCue s p c) k := by
  obtain ⟨t, hwalked, -, -, hchanges⟩ := h.staysAs hends hstays hlaunch h.shown_cueAt hoffer
    (recast_same _ _ _).1 h.shown_keeps
  exact ⟨t, hwalked, hchanges⟩

theorem Walking.leaves_put {k : Option OfferKind} {e : Cue} (hslot : e.slot = c.slot)
    (hlaunch : launchTest r.rate p (h.start.recast c (shownCue s p c)) (shownCue s p c)
      = (h.start.recast c (shownCue s p c)).putCue e)
    (hoffer : offerOf (c.delivery == .sending) e = k.map c.offer) : Leaves h e k := by
  obtain ⟨t, hwalked, -, -, hchanges⟩ := h.staysAs hends hstays hlaunch (h.put_cueAt hslot) hoffer
    ((recast_same _ _ _).1 : _ = h.start.lanes)
    (h.shown_keeps.trans ((putCue_keeps _ _).mono (by simp)))
  exact ⟨t, hwalked, hchanges⟩

/-- The launch test drops the cue late (R76). -/
theorem Walking.leaves_dropped {e : Cue} (hslot : e.slot = c.slot)
    (hlaunch : launchTest r.rate p (h.start.recast c (shownCue s p c)) (shownCue s p c)
      = ((h.start.recast c (shownCue s p c)).putCue e).lateDrop c.aud)
    (hoffer : offerOf (c.delivery == .sending) e = none) :
    ∃ t, Walked l s b c work slots offers t e none
      ∧ t.audCount c.aud .lateDropped = bump (s.audCount c.aud .lateDropped)
      ∧ t.cond .cueLate = ⟨true, .aud c.aud⟩
      ∧ ChangesOnly [.lane l, .cues, .audCounter c.aud .lateDropped, .cond .cueLate] s t := by
  let u := (h.start.recast c (shownCue s p c)).putCue e
  have hkeep : Keeps [.lane l, .cues] s u := h.shown_keeps.trans ((putCue_keeps _ _).mono (by simp))
  have hcount : u.audCount c.aud .lateDropped = s.audCount c.aud .lateDropped :=
    hkeep (.audCounter c.aud .lateDropped) (by simp)
  obtain ⟨t, hwalked, hcounts, hconds, hchanges⟩ := h.staysAs (k := none)
    (ps := [.cues, .audCounter c.aud .lateDropped, .cond .cueLate]) hends hstays hlaunch
    (fun j => h.put_cueAt hslot j) hoffer ((recast_same _ _ _).1 : _ = h.start.lanes)
    ((hkeep.mono (by simp)).trans ((lateDrop_keeps u c.aud).mono (by simp)))
  refine ⟨t, hwalked, (hcounts _ _).trans ?_, (hconds _).trans ?_, hchanges⟩
  · rw [← hcount]
    exact (tellPass_lateDropped false true c.aud u c.aud).trans (if_pos ⟨rfl, rfl⟩)
  · exact tellPass_cueLate false true c.aud u

omit h hends hstays in
/-- A cue that is not SENDING and owes no repeat makes no offer (R77). -/
theorem offerOf_none {e : Cue} (was : Bool) (hdelivery : e.delivery ≠ .sending)
    (hrepeat : e.repeatDue = false) : offerOf was e = none := by
  cases hk : e.kind with
  | caption => simp [offerOf_caption was hk, hdelivery, hrepeat]
  | clip => simp [offerOf_clip was hk, hdelivery]

/-- The walk at a cue that neither ends nor is retired: by the first row of R76's table that applies. -/
theorem Walking.walk_stays :
    let d := shownCue s p c
    let n := s.listeners c.aud c.track
    let lead := leadPos s r.rate c
    (c.delivery = .sending → c.kind = .caption → Leaves h d (some .caption))
    ∧ (c.delivery = .sending → c.kind = .clip →
        Leaves h d (if c.off < c.fill then some .continuing else none))
    ∧ (c.delivery = .sent →
        Leaves h d (if c.kind = .caption ∧ d.phase = .showing ∧ d.repeatDue = true
          then some .captionRepeat else none))
    ∧ (c.delivery = .waiting → c.repeatDue = false →
        (p + lead < c.inP → Leaves h d none)
        ∧ (c.inP ≤ p + lead →
            (n = 0 → Leaves h { d with delivery := .sent, relaunch := false } none)
            ∧ (n ≠ 0 → c.outP ≤ p →
                ∃ t, Walked l s b c work slots offers t { d with delivery := .sent, relaunch := false } none
                  ∧ t.audCount c.aud .lateDropped = bump (s.audCount c.aud .lateDropped)
                  ∧ t.cond .cueLate = ⟨true, .aud c.aud⟩
                  ∧ ChangesOnly [.lane l, .cues, .audCounter c.aud .lateDropped, .cond .cueLate] s t)
            ∧ (n ≠ 0 → p < c.outP → c.kind = .caption → c.fill < c.declared → Leaves h d none)
            ∧ (n ≠ 0 → p < c.outP → c.kind = .caption → c.declared ≤ c.fill →
                Leaves h { d with delivery := .sending, off := 0 } (some .caption))
            ∧ (n ≠ 0 → p < c.outP → c.kind = .clip →
                Leaves h { d with delivery := .sending, off := 0 }
                  (if 0 < c.fill then some .firstSegment else none)))) := by
  intro d n lead
  obtain ⟨hslot, haud, htrack, hout, hkind, hdelivery⟩ := shownCue_fields s p c
  have hsame : d.inP = c.inP ∧ d.num = c.num ∧ d.fill = c.fill ∧ d.off = c.off := by
    unfold d shownCue
    split <;> exact ⟨rfl, rfl, rfl, rfl⟩
  obtain ⟨hin, hnum, hfill, hoff⟩ := hsame
  have hoffer (k : OfferKind) : d.offer k = c.offer k := by
    simp only [Cue.offer, d, hslot, haud, htrack, hin, hnum]
  have hrepeats (hwaiting : c.delivery = .waiting) (hrepeat : c.repeatDue = false) : d.repeatDue = false := by
    unfold d shownCue repeatOwed
    split <;> simp [hwaiting, hrepeat]
  obtain ⟨hidle, hdue⟩ := h.launch
  refine ⟨fun hsending hk => ?_, fun hsending hk => ?_, fun hsent => ?_, fun hwaiting hrepeat =>
    ⟨fun hearly => ?_, fun hlate => ?_⟩⟩
  · refine h.leaves_unlaunched hends hstays (hidle (by simp [hsending])) ?_
    rw [offerOf_caption _ (hkind.trans hk), if_pos (hdelivery.trans hsending), hoffer]
    rfl
  · refine h.leaves_unlaunched hends hstays (hidle (by simp [hsending])) ?_
    rw [offerOf_clip _ (hkind.trans hk), hdelivery, hoff, hfill, hoffer, hsending]
    by_cases hleft : c.off < c.fill
    · simp only [if_pos hleft, if_pos (And.intro trivial hleft)]
      rfl
    · simp only [hleft, and_false, if_false]
      rfl
  · refine h.leaves_unlaunched hends hstays (hidle (by simp [hsent])) ?_
    have hno : ¬(shownCue s p c).delivery = .sending := by simp [hdelivery, hsent]
    cases hk : c.kind with
    | caption =>
      rw [offerOf_caption _ (hkind.trans hk), if_neg hno, hoffer]
      by_cases howed : (shownCue s p c).phase = .showing ∧ (shownCue s p c).repeatDue = true
      · rw [if_pos howed, if_pos ⟨rfl, howed⟩]
        rfl
      · rw [if_neg howed, if_neg fun hyes => howed hyes.2]
        rfl
    | clip => simp [offerOf_clip _ (hkind.trans hk), hno]
  · exact h.leaves_unlaunched hends hstays (hidle fun hyes => Nat.not_le.2 hearly hyes.2)
      (offerOf_none _ (by simp [hdelivery, hwaiting]) (hrepeats hwaiting hrepeat))
  · have hlaunch := hdue ⟨hwaiting, hlate⟩
    refine ⟨fun hn => ?_, fun hn hpast => ?_, fun hn hnext hk hshort => ?_, fun hn hnext hk hwhole => ?_,
      fun hn hnext hk => ?_⟩
    · rw [if_pos hn] at hlaunch
      exact h.leaves_put hends hstays hslot hlaunch (offerOf_none _ (by simp) (hrepeats hwaiting hrepeat))
    · rw [if_neg hn, if_pos hpast] at hlaunch
      exact h.leaves_dropped hends hstays hslot hlaunch (offerOf_none _ (by simp) (hrepeats hwaiting hrepeat))
    · rw [if_neg hn, if_neg (Nat.not_le.2 hnext), if_pos ⟨hk, hshort⟩] at hlaunch
      exact h.leaves_unlaunched hends hstays hlaunch (offerOf_none _ (by simp [hdelivery, hwaiting]) (hrepeats hwaiting hrepeat))
    · rw [if_neg hn, if_neg (Nat.not_le.2 hnext), if_neg fun hno => Nat.not_lt.2 hwhole hno.2] at hlaunch
      refine h.leaves_put hends hstays hslot hlaunch ?_
      have hk' : ({ d with delivery := .sending, off := 0 } : Cue).kind = .caption := hkind.trans hk
      refine (offerOf_caption _ hk').trans ((if_pos rfl).trans ?_)
      exact congrArg some (hoffer .caption)
    · rw [if_neg hn, if_neg (Nat.not_le.2 hnext), if_neg (by simp [hk])] at hlaunch
      refine h.leaves_put hends hstays hslot hlaunch ?_
      have hk' : ({ d with delivery := .sending, off := 0 } : Cue).kind = .clip := hkind.trans hk
      refine (offerOf_clip _ hk').trans ?_
      rw [hwaiting]
      have hfirst : ({ d with delivery := .sending, off := 0 } : Cue).offer .firstSegment
          = c.offer .firstSegment := hoffer .firstSegment
      by_cases hleft : 0 < c.fill
      · rw [if_pos hleft]
        exact (if_pos ⟨rfl, hfill.symm ▸ hleft⟩).trans (congrArg some hfirst)
      · rw [if_neg hleft]
        exact if_neg fun hyes => hleft (hfill ▸ hyes.2)

end

end Sys2Proof.Machine
end


section
/-! SUPPORT. The walk at a cue that the pass takes into RETAINED (R71 to R73, R76). -/

namespace Sys2Proof.Machine

theorem retainedCue_fields (c : Cue) :
    (retainedCue c).slot = c.slot ∧ (retainedCue c).phase = .retained ∧ (retainedCue c).repeatDue = false
      ∧ (retainedCue c).aud = c.aud := by
  unfold retainedCue
  split <;> exact ⟨rfl, rfl, rfl, rfl⟩

theorem retainedCue_of_sending {c : Cue} (h : c.delivery = .sending) : retainedCue c = { c with
    phase := .retained, repeatDue := false, delivery := .sent, relaunch := false
    underrun := c.underrun || c.kind == .clip } := if_pos h

theorem retainedCue_of_idle {c : Cue} (h : c.delivery ≠ .sending) :
    retainedCue c = { c with phase := .retained, repeatDue := false } := if_neg h

/-- An underrun is counted and latched (R72). -/
theorem tellUnderrun_keeps (s : State) (a : Aud) :
    Keeps [.audCounter a .underruns, .cond .clipUnderrun] s (tellPass true false a s) :=
  ((countAud_keeps _ _ _).mono (by simp)).trans ((latch_keeps _ _ _).mono (by simp))

section

variable {l : LaneId} {s : State} {b : Build} {f : Frame} {work : List (Aud × Track)} {c : Cue}
  {slots : List Nat} {offers : List Offer} {r : Reading} {p : Nat}
  (h : Walking l s b f work c slots offers r p)

include h

/-- The cue of the walk, RETAINED, and nothing else. -/
def Walking.retainedState (h : Walking l s b f work c slots offers r p) : State :=
  h.start.recast c (retainedCue c)

theorem Walking.retained_keeps : Keeps [.lane l, .cues] s h.retainedState :=
  (h.start_keeps.mono (by simp)).trans ((recast_keeps _ _ _).mono (by simp))

theorem Walking.retained_cueAt (j : Nat) :
    h.retainedState.cueAt j = if j = c.slot then some (retainedCue c) else s.cueAt j :=
  cueAt_recast h.start_cue (retainedCue_fields c).1 j

theorem Walking.retained_lanes : h.retainedState.lanes = h.start.lanes := (recast_same _ _ _).1

theorem Walking.retained_putCue {e : Cue} (hslot : e.slot = c.slot) (j : Nat) :
    (h.retainedState.putCue e).cueAt j = if j = c.slot then some e else s.cueAt j := by
  have hslot' := (retainedCue_fields c).1
  have hself : h.retainedState.cueAt (retainedCue c).slot = some (retainedCue c) := by
    rw [h.retained_cueAt, hslot', if_pos rfl]
  rw [cueAt_putCue hself (hslot.trans hslot'.symm), hslot', h.retained_cueAt]
  split <;> rfl

variable (hends : endsAt p c = true) (hstays : retiresAt s p c = false)

include hends hstays

theorem Walking.ended : phasePass p c.slot h.start
    = tellPass (stopsAs .clip p c) (stopsAs .caption p c) c.aud h.retainedState := by
  have hretires : retiresAt h.start p c = false := hstays
  have hmissed : missedAt h.start p c = false :=
    Bool.eq_false_iff.2 fun hm => Bool.eq_false_iff.1 hretires ((missedAt_iff p _ c).1 hm).1
  have haged : agedCue h.start p c = retainedCue c := by
    unfold agedCue
    rw [hends]
    rfl
  rw [phasePass_eq p h.start_cue, hretires, agedState, haged, dropsAt, hmissed, Bool.or_false]
  rfl

theorem Walking.ended_idle (hidle : c.delivery ≠ .sending) :
    phasePass p c.slot h.start = h.retainedState := by
  rw [h.ended hends hstays]
  simp [stopsAs, hidle, tellPass]

theorem Walking.ends_underrun (hsending : c.delivery = .sending) (hk : c.kind = .clip) :
    ∃ t, Walked l s b c work slots offers t { c with
        phase := .retained, repeatDue := false, delivery := .sent, relaunch := false, underrun := true } none
      ∧ (t.audCount c.aud .underruns = bump (s.audCount c.aud .underruns)
        ∧ t.cond .clipUnderrun = ⟨true, .aud c.aud⟩)
      ∧ ChangesOnly [.lane l, .cues, .audCounter c.aud .underruns, .cond .clipUnderrun] s t := by
  have hcue : retainedCue c = { c with
      phase := .retained, repeatDue := false, delivery := .sent, relaunch := false, underrun := true } := by
    rw [retainedCue_of_sending hsending, hk]
    simp
  have hpass : phasePass p c.slot h.start = tellPass true false c.aud h.retainedState := by
    have hcaption : (CueKind.clip == CueKind.caption) = false := rfl
    rw [h.ended hends hstays]
    simp [stopsAs, hends, hsending, hk, hcaption]
  have hat (j : Nat) : (tellPass true false c.aud h.retainedState).cueAt j
      = if j = c.slot then some (retainedCue c) else s.cueAt j := h.retained_cueAt j
  have hcount : h.retainedState.audCount c.aud .underruns = s.audCount c.aud .underruns :=
    h.retained_keeps (.audCounter c.aud .underruns) (by simp)
  rw [← hcue]
  obtain ⟨t, hwalked, hcounts, hconds, hchanges⟩ := h.passedAs (k := none)
    (ps := [.cues, .audCounter c.aud .underruns, .cond .clipUnderrun]) hpass
    ((hat c.slot).trans (if_pos rfl)) (launchTest_notDue (by simp [hcue])) hat
    (offerOf_none _ (by simp [hcue]) (by simp [hcue]))
    (State.lane_congr h.retained_lanes l)
    ((h.retained_keeps.mono (by simp)).trans ((tellUnderrun_keeps _ _).mono (by simp)))
  refine ⟨t, hwalked, ⟨(hcounts _ _).trans ?_, (hconds _).trans (tellPass_clipUnderrun ..)⟩, hchanges⟩
  rw [← hcount]
  exact (tellPass_underruns true false c.aud _ c.aud).trans (if_pos ⟨rfl, rfl⟩)

omit hends hstays in
/-- A cue dropped late as it ends, by the pass or by the launch test. -/
theorem Walking.endsDropped {u : State} {d e : Cue} (hpass : phasePass p c.slot h.start = u)
    (hd : u.cueAt c.slot = some d) {w : State}
    (hlaunch : launchTest r.rate p u d = w.lateDrop c.aud)
    (hat : ∀ j, w.cueAt j = if j = c.slot then some e else s.cueAt j)
    (hoffer : offerOf (d.delivery == .sending) e = none) (hlanes : w.lanes = h.start.lanes)
    (hkeep : Keeps [.lane l, .cues] s w) :
    ∃ t, Walked l s b c work slots offers t e none
      ∧ (t.audCount c.aud .lateDropped = bump (s.audCount c.aud .lateDropped)
        ∧ t.cond .cueLate = ⟨true, .aud c.aud⟩)
      ∧ ChangesOnly [.lane l, .cues, .audCounter c.aud .lateDropped, .cond .cueLate] s t := by
  have hcount : w.audCount c.aud .lateDropped = s.audCount c.aud .lateDropped :=
    hkeep (.audCounter c.aud .lateDropped) (by simp)
  obtain ⟨t, hwalked, hcounts, hconds, hchanges⟩ := h.passedAs (k := none)
    (ps := [.cues, .audCounter c.aud .lateDropped, .cond .cueLate]) hpass hd hlaunch hat hoffer
    (State.lane_congr hlanes l) ((hkeep.mono (by simp)).trans ((lateDrop_keeps w c.aud).mono (by simp)))
  refine ⟨t, hwalked, ⟨(hcounts _ _).trans ?_, (hconds _).trans (tellPass_cueLate false true c.aud w)⟩,
    hchanges⟩
  rw [← hcount]
  exact (tellPass_lateDropped false true c.aud w c.aud).trans (if_pos ⟨rfl, rfl⟩)

theorem Walking.ends_stopped (hsending : c.delivery = .sending) (hk : c.kind = .caption) :
    ∃ t, Walked l s b c work slots offers t { c with
        phase := .retained, repeatDue := false, delivery := .sent, relaunch := false } none
      ∧ (t.audCount c.aud .lateDropped = bump (s.audCount c.aud .lateDropped)
        ∧ t.cond .cueLate = ⟨true, .aud c.aud⟩)
      ∧ ChangesOnly [.lane l, .cues, .audCounter c.aud .lateDropped, .cond .cueLate] s t := by
  have hclip : (CueKind.caption == CueKind.clip) = false := rfl
  have hcue : retainedCue c = { c with
      phase := .retained, repeatDue := false, delivery := .sent, relaunch := false } := by
    rw [retainedCue_of_sending hsending, hk, hclip, Bool.or_false]
  have hpass : phasePass p c.slot h.start = h.retainedState.lateDrop c.aud := by
    rw [h.ended hends hstays]
    simp [stopsAs, hends, hsending, hk, hclip, tellPass]
  rw [← hcue]
  exact h.endsDropped hpass ((h.retained_cueAt c.slot).trans (if_pos rfl))
    (launchTest_notDue (by simp [hcue])) h.retained_cueAt (offerOf_none _ (by simp [hcue]) (by simp [hcue]))
    h.retained_lanes h.retained_keeps

omit hstays in
/-- The launch test of a cue that was not SENDING as it ended. -/
theorem Walking.ends_launch (hidle : c.delivery ≠ .sending) :
    (¬(c.delivery = .waiting ∧ c.inP ≤ p + leadPos s r.rate c) →
        launchTest r.rate p h.retainedState (retainedCue c) = h.retainedState)
      ∧ (c.delivery = .waiting ∧ c.inP ≤ p + leadPos s r.rate c →
        launchTest r.rate p h.retainedState (retainedCue c)
          = if s.listeners c.aud c.track = 0 then
              h.retainedState.putCue { retainedCue c with delivery := .sent, relaunch := false }
            else (h.retainedState.putCue
              { retainedCue c with delivery := .sent, relaunch := false }).lateDrop c.aud) := by
  have hpast : c.outP ≤ p := by
    simp only [endsAt, Bool.and_eq_true, decide_eq_true_eq] at hends
    exact hends.1.2
  have hlist : h.retainedState.listeners c.aud c.track = s.listeners c.aud c.track :=
    State.listeners_congr (recast_directory h.start c (retainedCue c)) _ _
  obtain ⟨hno, hyes⟩ := launch_of (r := r) (p := p) (fun k => h.retained_keeps (.setting k) (by simp)) hlist
    (d := retainedCue c) (by rw [retainedCue_of_idle hidle])
  refine ⟨hno, fun hdue => (hyes hdue).trans ?_⟩
  rw [if_pos hpast]

/-- What the walk makes of a cue that ends and is not yet retired. -/
theorem Walking.walk_ends :
    let n := s.listeners c.aud c.track
    let lead := leadPos s r.rate c
    let d : Cue := { c with phase := .retained, repeatDue := false }
    let dropped (t : State) : Prop := t.audCount c.aud .lateDropped = bump (s.audCount c.aud .lateDropped)
      ∧ t.cond .cueLate = ⟨true, .aud c.aud⟩
    (c.delivery = .sending ∧ c.kind = .caption ∨ c.delivery = .waiting ∧ c.inP ≤ p + lead ∧ n ≠ 0 →
        ∃ t, Walked l s b c work slots offers t { d with delivery := .sent, relaunch := false } none
          ∧ dropped t
          ∧ ChangesOnly [.lane l, .cues, .audCounter c.aud .lateDropped, .cond .cueLate] s t)
      ∧ (c.delivery = .waiting → c.inP ≤ p + lead → n = 0 →
        ∃ t, Walked l s b c work slots offers t { d with delivery := .sent, relaunch := false } none
          ∧ ChangesOnly [.lane l, .cues] s t)
      ∧ (c.delivery = .sent ∨ c.delivery = .waiting ∧ p + lead < c.inP →
        ∃ t, Walked l s b c work slots offers t d none ∧ ChangesOnly [.lane l, .cues] s t) := by
  intro n lead d dropped
  have hself (j : Nat) := h.retained_putCue (e := { d with delivery := .sent, relaunch := false }) rfl j
  have hput : Keeps [.lane l, .cues] s
      (h.retainedState.putCue { d with delivery := .sent, relaunch := false }) :=
    h.retained_keeps.trans ((putCue_keeps _ _).mono (by simp))
  have hat := (h.retained_cueAt c.slot).trans (if_pos rfl)
  refine ⟨?_, fun hwaiting hdue hn => ?_, fun hlast => ?_⟩
  · rintro (⟨hsending, hk⟩ | ⟨hwaiting, hdue, hn⟩)
    · exact h.ends_stopped hends hstays hsending hk
    · have hidle : c.delivery ≠ .sending := by simp [hwaiting]
      have hlaunch := (h.ends_launch hends hidle).2 ⟨hwaiting, hdue⟩
      rw [if_neg hn, retainedCue_of_idle hidle] at hlaunch
      rw [retainedCue_of_idle hidle] at hat
      exact h.endsDropped (h.ended_idle hends hstays hidle) hat hlaunch hself
        (offerOf_none _ (by simp) rfl) h.retained_lanes hput
  · have hidle : c.delivery ≠ .sending := by simp [hwaiting]
    have hlaunch := (h.ends_launch hends hidle).2 ⟨hwaiting, hdue⟩
    rw [if_pos hn, retainedCue_of_idle hidle] at hlaunch
    rw [retainedCue_of_idle hidle] at hat
    obtain ⟨t, hwalked, -, -, hchanges⟩ := h.passedAs (k := none) (ps := [.cues])
      (h.ended_idle hends hstays hidle) hat hlaunch hself (offerOf_none _ (by simp) rfl)
      (State.lane_congr h.retained_lanes l) hput
    exact ⟨t, hwalked, hchanges⟩
  · have hidle : c.delivery ≠ .sending := by
      obtain hsent | ⟨hwaiting, -⟩ := hlast
      · simp [hsent]
      · simp [hwaiting]
    have hlaunch := (h.ends_launch hends hidle).1 fun ⟨hwaiting, hdue⟩ => by
      obtain hsent | ⟨-, hearly⟩ := hlast
      · simp [hsent] at hwaiting
      · exact Nat.not_le.2 hearly hdue
    have hall := h.retained_cueAt
    rw [retainedCue_of_idle hidle] at hlaunch hat hall
    obtain ⟨t, hwalked, -, -, hchanges⟩ := h.passedAs (k := none) (ps := [.cues])
      (h.ended_idle hends hstays hidle) hat hlaunch hall (offerOf_none _ (by simpa using hidle) rfl)
      (State.lane_congr h.retained_lanes l) h.retained_keeps
    exact ⟨t, hwalked, hchanges⟩

end

end Sys2Proof.Machine
end


section
/-! SUPPORT. The walk at a cue that the pass retires (R66, R71, R73). -/

namespace Sys2Proof.Machine

/-- A cue record written back stands in the way of no other slot's. -/
theorem putCue_cues_filter (s : State) (d : Cue) :
    (s.putCue d).table.cues.filter (fun y => y.slot != d.slot)
      = s.table.cues.filter fun y => y.slot != d.slot := by
  unfold State.putCue
  dsimp only
  induction s.table.cues with
  | nil => rfl
  | cons c cs ih =>
    by_cases hc : c.slot = d.slot
    · simpa [hc] using ih
    · simpa [hc] using ih

theorem recast_cues_filter (s : State) {c d : Cue} (h : d.slot = c.slot) :
    (s.recast c d).table.cues.filter (fun y => y.slot != c.slot)
      = s.table.cues.filter fun y => y.slot != c.slot := by
  unfold State.recast
  split
  · rfl
  · rw [← h]
    exact putCue_cues_filter s d

/-- A retired cue's record, blocks, lineup and count, and POOL_LOW (R12, R48, R50, R51, R66). -/
theorem retire_facts {s : State} {c : Cue} (hopen : s.isOpen c.aud = true) :
    (s.retire c).table.cues = s.table.cues.filter (fun y => y.slot != c.slot)
      ∧ (s.retire c).table.free = s.table.free ++ c.blocks
      ∧ ((s.retire c).cond .poolLow).on
          = decide ((s.retire c).table.free.length < (s.retire c).setting .poolLowMark)
      ∧ (∀ u, (s.retire c).track? c.aud u = (s.track? c.aud u).map fun w =>
          if u = c.track then { w with lineup := w.lineup.filter fun k => k != c.slot } else w)
      ∧ (s.retire c).cueCount c.aud = s.cueCount c.aud - 1 := by
  have htable : (s.retire c).table = (s.freeCue c).table := by simp [State.retire]
  have hdir : (s.retire c).directory = (s.freeCue c).directory := by simp [State.retire]
  have hsettings : (s.retire c).settings = (s.freeCue c).settings := by simp [State.retire]
  have hstatus : (s.retire c).status = (s.freeCue c).status := by simp [State.retire]
  obtain ⟨hcount, -, -⟩ := freeCue_show hopen
  refine ⟨by rw [htable, State.freeCue_table], by rw [htable, State.freeCue_table], ?_, fun u => ?_, ?_⟩
  · rw [State.cond, hstatus, htable, State.setting, hsettings, ← State.cond, ← State.setting,
      State.freeCue_eq, poolLow_judgePool]
    simp [State.setting]
  · have hshow : (s.retire c).theShow? c.aud = (outOfTable c s).theShow? c.aud := by
      rw [State.theShow?, hdir, State.freeCue_directory, State.theShow?]
    rw [State.track?, hshow, ← State.track?]
    exact outOfTable_track? s c u
  · rw [State.cueCount_congr hdir, hcount]

/-- What the pass has done to a cue as it comes to retire it. -/
structure AgedCue (l : LaneId) (s : State) (p : Nat) (c : Cue) (u : State) (d : Cue) : Prop where
  slot : d.slot = c.slot
  aud : d.aud = c.aud
  track : d.track = c.track
  num : d.num = c.num
  blocks : d.blocks = c.blocks
  cues : u.table.cues.filter (fun y => y.slot != c.slot) = s.table.cues.filter fun y => y.slot != c.slot
  free : u.table.free = s.table.free
  directory : u.directory = s.directory
  underruns : u.audCount c.aud .underruns = if stopsAs .clip p c = true
    then bump (s.audCount c.aud .underruns) else s.audCount c.aud .underruns
  clipUnderrun : u.cond .clipUnderrun
    = if stopsAs .clip p c = true then ⟨true, .aud c.aud⟩ else s.cond .clipUnderrun
  lateDropped : u.audCount c.aud .lateDropped = if dropsAt s p c = true
    then bump (s.audCount c.aud .lateDropped) else s.audCount c.aud .lateDropped
  cueLate : u.cond .cueLate = if dropsAt s p c = true then ⟨true, .aud c.aud⟩ else s.cond .cueLate
  keeps : Keeps [.lane l, .cues, .audCounter c.aud .underruns, .cond .clipUnderrun,
    .audCounter c.aud .lateDropped, .cond .cueLate] s u

/-- What a cue's retirement by the pass leaves (R12, R48, R50, R51, R66, R73). -/
structure Retired (l : LaneId) (s : State) (p : Nat) (c : Cue) (x : Lane) (t : State) : Prop where
  cues : t.table.cues = s.table.cues.filter fun y => y.slot != c.slot
  free : t.table.free = s.table.free ++ c.blocks
  poolLow : (t.cond .poolLow).on = decide (t.table.free.length < s.setting .poolLowMark)
  tracks : ∀ u, t.track? c.aud u = (s.track? c.aud u).map fun w =>
    if u = c.track then { w with lineup := w.lineup.filter fun k => k != c.slot } else w
  laneOf : t.laneOf? c.aud = s.laneOf? c.aud
  cueCount : t.cueCount c.aud = s.cueCount c.aud - 1
  lane : t.lane l = { x.lessSlots fun k => k == c.slot with
    repairs := x.repairs.map fun e => if e.names c.aud c.track c.num then e.turnGone else e }
  underruns : t.audCount c.aud .underruns = if stopsAs .clip p c = true
    then bump (s.audCount c.aud .underruns) else s.audCount c.aud .underruns
  clipUnderrun : t.cond .clipUnderrun
    = if stopsAs .clip p c = true then ⟨true, .aud c.aud⟩ else s.cond .clipUnderrun
  lateDropped : t.audCount c.aud .lateDropped = if dropsAt s p c = true
    then bump (s.audCount c.aud .lateDropped) else s.audCount c.aud .lateDropped
  cueLate : t.cond .cueLate = if dropsAt s p c = true then ⟨true, .aud c.aud⟩ else s.cond .cueLate
  keeps : Keeps [.lane l, .cues, .freeBlocks, .show_ c.aud, .cond .poolLow, .cond .cueLate,
    .cond .clipUnderrun, .audCounter c.aud .underruns, .audCounter c.aud .lateDropped] s t

theorem AgedCue.retired {l : LaneId} {s u : State} {p : Nat} {c d : Cue} (h : AgedCue l s p c u d)
    (hopen : s.laneOf? c.aud = some l) : Retired l s p c (u.lane l) (u.retire d) := by
  have hlaneOf : u.laneOf? c.aud = s.laneOf? c.aud := State.laneOf?_congr h.directory _
  have hopen' : u.laneOf? d.aud = some l := by
    rw [h.aud]
    exact hlaneOf.trans hopen
  have hisOpen : u.isOpen d.aud = true := by
    rw [State.isOpen_eq_laneOf?, hopen']
    rfl
  obtain ⟨hcues, hfree, hpool, htracks, hcount⟩ := retire_facts hisOpen
  have hgone := retire_changes hopen'
  have hlane := lane_retire hopen'
  have hgoneLaneOf := retire_laneOf? u d c.aud
  rw [h.aud] at hgone htracks hcount
  rw [h.slot] at hcues htracks hlane
  rw [h.track] at htracks
  rw [h.aud, h.track, h.num] at hlane
  rw [h.blocks] at hfree
  have hmark : (u.retire d).setting .poolLowMark = s.setting .poolLowMark :=
    Eq.trans (hgone (.setting .poolLowMark) (by simp)) (h.keeps (.setting .poolLowMark) (by simp))
  rw [hmark] at hpool
  exact {
    cues := hcues.trans h.cues
    free := hfree.trans (congrArg (· ++ c.blocks) h.free)
    poolLow := hpool
    tracks := fun v => (htracks v).trans (by rw [State.track?_congr h.directory])
    laneOf := hgoneLaneOf.trans hlaneOf
    cueCount := hcount.trans (congrArg (· - 1) (State.cueCount_congr h.directory _))
    lane := hlane
    underruns := Eq.trans (hgone (.audCounter c.aud .underruns) (by simp)) h.underruns
    clipUnderrun := Eq.trans (hgone (.cond .clipUnderrun) (by simp)) h.clipUnderrun
    lateDropped := Eq.trans (hgone (.audCounter c.aud .lateDropped) (by simp)) h.lateDropped
    cueLate := Eq.trans (hgone (.cond .cueLate) (by simp)) h.cueLate
    keeps := (h.keeps.mono (by simp)).trans (hgone.mono (by simp)) }

section

variable {l : LaneId} {s : State} {b : Build} {f : Frame} {work : List (Aud × Track)} {c : Cue}
  {slots : List Nat} {offers : List Offer} {r : Reading} {p : Nat}
  (h : Walking l s b f work c slots offers r p)

include h

/-- The unit at a cue that the pass retires. -/
theorem Walking.retires (hretires : retiresAt s p c = true) :
    exec (.buildProgress l) s
      = .next (settle ((agedState h.start p c).retire (agedCue h.start p c))) := by
  have hpass : phasePass p c.slot h.start = (agedState h.start p c).retire (agedCue h.start p c) :=
    (phasePass_eq p h.start_cue).trans (if_pos hretires)
  have hgone : ((agedState h.start p c).retire (agedCue h.start p c)).cueAt c.slot = none := by
    rw [cueAt_retire, (agedCue_fields h.start p c).1, if_pos rfl]
  have hwalk : walkCue r p c.slot (s.toStage l (.walk work slots offers))
      = ((agedState h.start p c).retire (agedCue h.start p c), none) := by
    unfold walkCue
    dsimp only
    rw [show s.toStage l (.walk work slots offers) = h.start from rfl, hpass, hgone]
  exact h.exec (h.unit hwalk)

theorem Walking.agedAt : AgedCue l s p c (agedState h.start p c) (agedCue h.start p c) := by
  obtain ⟨hslot, haud, htrack, hnum, -, -, -, hblocks, -⟩ := agedCue_fields h.start p c
  obtain ⟨hunder, hdrop, hclip, hlate⟩ := agedState_told p h.start c
  have htable : (agedState h.start p c).table = (h.start.recast c (agedCue h.start p c)).table := by
    simp [agedState]
  refine ⟨hslot, haud, htrack, hnum, hblocks, ?_, ?_, agedState_directory p h.start c,
    (hunder c.aud).trans (if_congr (and_iff_right rfl) rfl rfl), hclip,
    (hdrop c.aud).trans (if_congr (and_iff_right rfl) rfl rfl), hlate,
    (h.start_keeps.mono (by simp)).trans ((agedState_keeps p h.start c).mono (by simp))⟩
  · rw [htable, recast_cues_filter _ hslot]
    rfl
  · rw [htable, State.recast]
    split <;> rfl

/-- What the walk makes of a cue that the pass retires. -/
theorem Walking.walk_retires (hretires : retiresAt s p c = true) (hopen : s.laneOf? c.aud = some l) :
    ∃ t, exec (.buildProgress l) s = .next (settle t)
      ∧ t.lane l = { s.lane l with
          repairs := (s.lane l).repairs.map fun e =>
            if e.names c.aud c.track c.num then e.turnGone else e
          build := some { b with
            stage := .walk work (slots.filter fun k => k != c.slot)
              (offers.filter fun o => o.slot != c.slot) } }
      ∧ ∃ x, Retired l s p c x t := by
  have hexec := h.retires hretires
  have hretired := h.agedAt.retired hopen
  have hlane : (agedState h.start p c).lane l
      = { s.lane l with build := some { b with stage := .walk work slots offers } } :=
    (agedState_lane p h.start c l).trans (toStage_lane h.build _)
  rw [hlane] at hretired
  generalize (agedState h.start p c).retire (agedCue h.start p c) = t at *
  refine ⟨t, hexec, hretired.lane.trans ?_, _, hretired⟩
  simp [Lane.lessSlots, Lane.modBuild, stageKeeps, bne]

end

end Sys2Proof.Machine
end


section
/-! SUPPORT. The repair reserve and the order of the offers (R104, R105, R124). -/

namespace Sys2Proof.Machine

/-! ### The order of the offers (R105) -/

theorem listLt_trans : ∀ {xs ys zs : List Nat}, listLt xs ys = true → listLt ys zs = true →
    listLt xs zs = true
  | [], [], _, h, _ => by simp [listLt] at h
  | [], _ :: _, [], _, h => by simp [listLt] at h
  | [], _ :: _, _ :: _, _, _ => rfl
  | _ :: _, [], _, h, _ => by simp [listLt] at h
  | _ :: _, _ :: _, [], _, h => by simp [listLt] at h
  | x :: xs, y :: ys, z :: zs, hxy, hyz => by
    simp only [listLt, Bool.or_eq_true, decide_eq_true_eq, Bool.and_eq_true, beq_iff_eq] at hxy hyz ⊢
    obtain hxy | ⟨rfl, hxy⟩ := hxy
    · obtain hyz | ⟨rfl, -⟩ := hyz
      · exact .inl (hxy.trans hyz)
      · exact .inl hxy
    · obtain hyz | ⟨rfl, hyz⟩ := hyz
      · exact .inl hyz
      · exact .inr ⟨rfl, listLt_trans hxy hyz⟩

theorem listLt_irrefl (xs : List Nat) : ¬listLt xs xs = true := by
  induction xs with
  | nil => simp [listLt]
  | cons x xs ih => simpa [listLt] using ih

theorem insertOffer_perm (o : Offer) (os : List Offer) : (insertOffer o os).Perm (o :: os) := by
  induction os with
  | nil => exact .refl _
  | cons x xs ih =>
    unfold insertOffer
    split
    · exact .refl _
    · exact (ih.cons x).trans (.swap o x xs)

theorem sortOffers_perm (os : List Offer) : (sortOffers os).Perm os := by
  induction os with
  | nil => exact .refl _
  | cons o os ih => exact (insertOffer_perm o _).trans (ih.cons o)

/-- No later offer has a key before an earlier one's. -/
def OffersSorted (os : List Offer) : Prop := os.Pairwise fun o o' => ¬listLt o'.key o.key = true

theorem OffersSorted.insert {os : List Offer} (h : OffersSorted os) (o : Offer) :
    OffersSorted (insertOffer o os) := by
  induction os with
  | nil => exact List.pairwise_singleton _ _
  | cons x xs ih =>
    obtain ⟨hx, hxs⟩ := List.pairwise_cons.1 h
    unfold insertOffer
    split
    · next hlt =>
      refine List.pairwise_cons.2 ⟨fun y hy hyo => ?_, h⟩
      obtain rfl | hy := List.mem_cons.1 hy
      · exact listLt_irrefl _ (listLt_trans hlt hyo)
      · exact hx y hy (listLt_trans hyo hlt)
    · next hlt =>
      refine List.pairwise_cons.2 ⟨fun y hy => ?_, ih hxs⟩
      obtain rfl | hy := List.mem_cons.1 ((insertOffer_perm o xs).mem_iff.1 hy)
      · exact hlt
      · exact hx y hy

theorem sortOffers_sorted (os : List Offer) : OffersSorted (sortOffers os) := by
  induction os with
  | nil => exact List.Pairwise.nil
  | cons o os ih => exact ih.insert o

/-- The group of an offer: the continuing segments come first (R105). -/
def Offer.group (o : Offer) : Nat := if o.kind = .continuing then 0 else 1

/-- The order of section 4: group, in-point, auditorium, track, cue number (R105). -/
theorem key_lt_iff (o o' : Offer) : listLt o.key o'.key = true ↔
    o.group < o'.group ∨ o.group = o'.group ∧ (o.inP < o'.inP ∨ o.inP = o'.inP
      ∧ (o.aud < o'.aud ∨ o.aud = o'.aud ∧ (o.track < o'.track ∨ o.track = o'.track
        ∧ o.num < o'.num))) := by
  simp only [Offer.key, listLt, Offer.group, Bool.or_eq_true, Bool.and_eq_true, decide_eq_true_eq,
    beq_iff_eq, Bool.or_false, Bool.and_false, Fin.val_fin_lt, Fin.val_inj]

/-! ### The reserve (R104, R124) -/

/-- The natural size of an entry's section, by R124's table. -/
def naturalSize (s : State) (b : Build) (e : Repair) : Nat :=
  if e.state = .holding then 0
  else match b.posOf e.aud, e.kind, s.findCue e.aud e.track e.num with
    | some _, .gone, _ => 8
    | some p, .content, some c =>
      if c.outP ≤ p then 0
      else match c.kind with
        | .caption => if c.fill < c.declared then 0 else 20 + c.declared
        | .clip => if c.fill ≤ e.off then 0
            else 20 + min (s.setting .repairSegmentMax) (c.fill - e.off)
    | _, _, _ => 0

theorem naturalSize_eq (s : State) (b : Build) (e : Repair) :
    naturalSize s b e = (repairAct s b e).size := by
  unfold naturalSize repairAct
  by_cases hh : e.state = .holding
  · rw [if_pos hh, if_pos hh]
    rfl
  · rw [if_neg hh, if_neg hh]
    cases b.posOf e.aud with
    | none => rfl
    | some p =>
      cases e.kind with
      | gone => rfl
      | content =>
        cases s.findCue e.aud e.track e.num with
        | none => rfl
        | some c =>
          dsimp only
          by_cases hp : c.outP ≤ p
          · rw [if_pos hp, if_pos hp]
            rfl
          · rw [if_neg hp, if_neg hp]
            cases c.kind with
            | caption => dsimp only; split <;> rfl
            | clip => dsimp only; split <;> rfl

theorem Building.reserve {l : LaneId} {s : State} {b : Build} {f : Frame} {offers : List Offer}
    (h : Building l s b f) (hst : b.stage = .reserve offers) :
    let kept := min (s.setting .repairFloor) ((s.lane l).repairs.map (naturalSize s b)).sum
    ∃ t os, Passes l s b t (s.lane l) (.content os (4000 - f.size - kept) kept) ∧ os.Perm offers
      ∧ OffersSorted os ∧ ChangesOnly [.lane l] s t := by
  intro kept
  have hkept : min (s.setting .repairFloor) (repairTotal s l b) = kept := by
    unfold kept repairTotal
    rw [show naturalSize s b = fun e => (repairAct s b e).size from funext (naturalSize_eq s b)]
  have hused : (s.lane l).usedBytes b.buf = f.size := by
    unfold Lane.usedBytes
    rw [h.buf]
  have hunit : buildUnit l s
      = s.toStage l (.content (sortOffers offers) (4000 - f.size - kept) kept) := by
    simp only [buildUnit, h.build, hst, reserveStep, hkept, hused, Config.frameBytes]
  obtain ⟨t, hpasses, hchanges⟩ := h.moves hunit
  exact ⟨t, _, hpasses, sortOffers_perm offers, sortOffers_sorted offers, hchanges⟩

end Sys2Proof.Machine
end


section
/-! SUPPORT. Step 6 takes one offer (R77 to R82, R105). -/

namespace Sys2Proof.Machine

/-- Whether an offer's kind and its cue still agree (R77, R80). -/
theorem qualifies_iff (k : OfferKind) (c : Cue) : qualifies k c = true
    ↔ k = .caption ∧ c.kind = .caption ∧ c.delivery = .sending
      ∨ k = .captionRepeat ∧ c.kind = .caption ∧ c.phase = .showing ∧ c.repeatDue = true
      ∨ (k = .continuing ∨ k = .firstSegment) ∧ c.kind = .clip ∧ c.delivery = .sending ∧ c.off < c.fill := by
  cases k <;> simp [qualifies, and_assoc]

/-- The room a clip's section has: its natural length, or what it is shortened to (R105, R106). -/
theorem fitClip_some {natural room n : Nat} (h : 20 + natural ≤ room ∧ n = natural
      ∨ room < 20 + natural ∧ 16 ≤ natural ∧ 36 ≤ room ∧ n = room - 20) :
    fitClip natural room = some n := by
  unfold fitClip
  obtain ⟨hfits, rfl⟩ | ⟨hover, hnatural, hroom, rfl⟩ := h
  · exact if_pos hfits
  · rw [if_neg (Nat.not_le.2 hover), if_pos ⟨hnatural, hroom⟩]

theorem fitClip_none {natural room : Nat} (h : room < 20 + natural ∧ (natural < 16 ∨ room < 36)) :
    fitClip natural room = none := by
  unfold fitClip
  obtain ⟨hover, hshort⟩ := h
  rw [if_neg (Nat.not_le.2 hover), if_neg]
  omega

/-! ### Lateness and completion (R78, R81, R82) -/

/-- A late placement is counted and latched (R82). -/
def tellLate (late : Bool) (a : Aud) (s : State) : State :=
  if late then (s.countAud a .late).latch .cueLate (.aud a) else s

theorem judgeLate_eq (p : Nat) (s : State) (c : Cue) :
    judgeLate p s c = (tellLate (decide (c.inP ≤ p) && !c.relaunch) c.aud s,
      { c with late := c.late || (decide (c.inP ≤ p) && !c.relaunch) }) := by
  unfold judgeLate tellLate
  by_cases h : c.inP ≤ p ∧ c.relaunch = false
  · rw [if_pos h]
    simp [h.1, h.2]
  · rw [if_neg h]
    have hno : (decide (c.inP ≤ p) && !c.relaunch) = false := by simpa using h
    rw [hno, Bool.or_false]
    rfl

theorem tellLate_keeps (late : Bool) (a : Aud) (s : State) :
    Keeps [.audCounter a .late, .cond .cueLate] s (tellLate late a s) :=
  keeps_ite (fun _ => ((countAud_keeps _ _ _).mono (by simp)).trans ((latch_keeps _ _ _).mono (by simp)))
    fun _ => .refl _ _

/-- What is told of a placement that is late, or is not (R82). -/
def LateTold (late : Bool) (a : Aud) (s t : State) : Prop :=
  if late then t.audCount a .late = bump (s.audCount a .late) ∧ t.cond .cueLate = ⟨true, .aud a⟩
  else t.audCount a .late = s.audCount a .late ∧ t.cond .cueLate = s.cond .cueLate

theorem lateTold_tellLate (late : Bool) (a : Aud) (s : State) : LateTold late a s (tellLate late a s) := by
  cases late with
  | false => exact ⟨rfl, rfl⟩
  | true =>
    refine ⟨(State.audCount_countAud s a a .late .late).trans (if_pos ⟨rfl, rfl⟩), ?_⟩
    exact State.cond_withCond_self _ _ _

@[simp] theorem tellLate_frame (late : Bool) (a : Aud) (s : State) :
    (tellLate late a s).table = s.table ∧ (tellLate late a s).directory = s.directory
      ∧ (tellLate late a s).lanes = s.lanes := by
  cases late <;> exact ⟨rfl, rfl, rfl⟩

/-- A track's last completed cue number is set, and nothing else of the show (R78). -/
def Completed (c : Cue) (s t : State) : Prop :=
  (∀ u, t.track? c.aud u = (s.track? c.aud u).map fun w =>
      if u = c.track then { w with lastDone := some c.num } else w)
    ∧ t.laneOf? c.aud = s.laneOf? c.aud ∧ t.cueCount c.aud = s.cueCount c.aud

theorem completed_modTrack (s : State) (c : Cue) :
    Completed c s (s.modTrack c.aud c.track fun r => { r with lastDone := some c.num }) := by
  refine ⟨fun u => ?_, State.laneOf?_modTrack .., State.cueCount_modTrack ..⟩
  rw [State.track?_modTrack]
  by_cases hu : u = c.track
  · subst hu
    simp
  · simp [hu]

theorem Completed.of_directory {c : Cue} {s s' t : State} (h : Completed c s' t)
    (hdir : s'.directory = s.directory) : Completed c s t := by
  obtain ⟨htracks, hlane, hcount⟩ := h
  refine ⟨fun u => (htracks u).trans (by rw [State.track?_congr hdir]),
    hlane.trans (State.laneOf?_congr hdir _), hcount.trans (State.cueCount_congr hdir _)⟩

/-! ### The unit -/

/-- Step 6 at one offer of a cue that stands (R105). -/
structure Offering (l : LaneId) (s : State) (b : Build) (f : Frame) (o : Offer) (os : List Offer)
    (allowance kept : Nat) (c : Cue) (p : Nat) : Prop extends Building l s b f where
  stage : b.stage = .content (o :: os) allowance kept
  cue : s.cueAt o.slot = some c
  pos : b.posOf o.aud = some p

section

variable {l : LaneId} {s : State} {b : Build} {f : Frame} {o : Offer} {os : List Offer}
  {allowance kept : Nat} {c : Cue} {p : Nat} (h : Offering l s b f o os allowance kept c p)

include h

theorem Offering.slot : c.slot = o.slot := slot_of_cueAt h.cue

theorem Offering.skipped (hnone : placeOffer p allowance o c s = none) :
    Moves l s b (.content os allowance kept) := by
  refine h.moves ?_
  simp only [buildUnit, h.build, h.stage, offerOne, h.cue, h.pos, hnone]

/-- An offer is placed, with what the placement did outside the lane. -/
theorem Offering.placed {s' : State} {sec : Section} {ps : List Part}
    (hplace : placeOffer p allowance o c s = some (s', sec)) (hlanes : s'.lanes = s.lanes)
    (hkeep : Keeps (.lane l :: ps) s s') :
    ∃ t, Places l s b f t (s.lane l) sec (.content os (allowance - sec.size) kept)
      ∧ (∀ k, t.cueAt k = s'.cueAt k) ∧ (∀ d, Completed d s s' → Completed d s t)
      ∧ (∀ late a, LateTold late a s s' → LateTold late a s t) ∧ ChangesOnly (.lane l :: ps) s t := by
  have hunit : buildUnit l s
      = (s'.addSection l b.buf sec).toStage l (.content os (allowance - sec.size) kept) := by
    simp only [buildUnit, h.build, h.stage, offerOne, h.cue, h.pos, hplace]
  have hlane : s'.lane l = s.lane l := State.lane_congr hlanes l
  have hbuf : (s'.lane l).buf b.buf = .building f := by rw [hlane, h.buf]
  have hadded : ((s'.addSection l b.buf sec).lane l).build = some b := by
    rw [addSection_lane hbuf, Lane.build_withBuf, hlane, h.build]
  have hkeeps := ((addSection_keeps s' l b.buf sec).trans
    (toStage_keeps _ l (.content os (allowance - sec.size) kept)))
  have hdir : ((s'.addSection l b.buf sec).toStage l (.content os (allowance - sec.size) kept)).directory
      = s'.directory := by simp
  have htable : ((s'.addSection l b.buf sec).toStage l (.content os (allowance - sec.size) kept)).table
      = s'.table := by simp
  have hstaged := toStage_lane hadded (.content os (allowance - sec.size) kept)
  rw [addSection_lane hbuf, hlane] at hstaged
  have hexec := h.exec hunit
  generalize (s'.addSection l b.buf sec).toStage l (.content os (allowance - sec.size) kept) = v at *
  refine ⟨_, ⟨hexec, hstaged⟩, fun k => cueAt_congr htable k, fun d hd => ?_, fun late a htold => ?_,
    (hkeep.trans (hkeeps.mono (by simp))).changesOnly⟩
  · obtain ⟨htracks, hlane, hcount⟩ := hd
    exact ⟨fun u => (State.track?_congr hdir _ u).trans (htracks u),
      (State.laneOf?_congr hdir _).trans hlane, (State.cueCount_congr hdir _).trans hcount⟩
  · have hcount : v.audCount a .late = s'.audCount a .late := hkeeps (.audCounter a .late) (by simp)
    have hcond : v.cond .cueLate = s'.cond .cueLate := hkeeps (.cond .cueLate) (by simp)
    unfold LateTold at htold ⊢
    split
    · next hlate =>
      rw [if_pos hlate] at htold
      exact ⟨hcount.trans htold.1, hcond.trans htold.2⟩
    · next hlate =>
      rw [if_neg hlate] at htold
      exact ⟨hcount.trans htold.1, hcond.trans htold.2⟩

end

end Sys2Proof.Machine
end


section
/-! SUPPORT. Step 6's placements: captions, repeats and segments (R78 to R81). -/

namespace Sys2Proof.Machine

/-- The cue that a complete airing leaves (R78, R81). -/
def airedCue (c : Cue) : Cue := { c with delivery := .sent, air := bumpAir c.air, relaunch := false }

section

variable {s w : State} {c e : Cue}

theorem completeAiring_cueAt (hc : w.cueAt c.slot = some c) (hslot : e.slot = c.slot) (k : Nat) :
    (completeAiring w e).cueAt k = if k = c.slot then some (airedCue e) else w.cueAt k := by
  refine (cueAt_congr (t := completeAiring w e) (s := w.putCue (airedCue e)) ?_ k).trans
    (cueAt_putCue (c' := airedCue e) hc hslot k)
  simp [completeAiring, airedCue]

theorem completeAiring_keeps (w : State) (e : Cue) : Keeps [.cues, .show_ e.aud] w (completeAiring w e) :=
  ((putCue_keeps _ _).mono (by simp)).trans ((modTrack_keeps _ _ _ _).mono (by simp))

theorem completeAiring_lanes (w : State) (e : Cue) : (completeAiring w e).lanes = w.lanes := by
  simp [completeAiring]

theorem completed_completeAiring (hdir : w.directory = s.directory) (haud : e.aud = c.aud)
    (htrack : e.track = c.track) (hnum : e.num = c.num) : Completed c s (completeAiring w e) := by
  unfold completeAiring
  rw [haud, htrack, hnum]
  exact (completed_modTrack _ c).of_directory hdir

theorem LateTold.after {late : Bool} {a : Aud} {t : State} {ps : List Part} (h : LateTold late a s w)
    (hkeep : Keeps ps w t) (hcount : Part.audCounter a .late ∉ ps) (hcond : Part.cond .cueLate ∉ ps) :
    LateTold late a s t := by
  have hcounts : t.audCount a .late = w.audCount a .late := hkeep _ hcount
  have hconds : t.cond .cueLate = w.cond .cueLate := hkeep _ hcond
  unfold LateTold at h ⊢
  split
  · next hlate =>
    rw [if_pos hlate] at h
    exact ⟨hcounts.trans h.1, hconds.trans h.2⟩
  · next hlate =>
    rw [if_neg hlate] at h
    exact ⟨hcounts.trans h.1, hconds.trans h.2⟩

end

section

variable {l : LaneId} {s : State} {b : Build} {f : Frame} {o : Offer} {os : List Offer}
  {allowance kept : Nat} {c : Cue} {p : Nat} (h : Offering l s b f o os allowance kept c p)

include h

theorem Offering.unqualified (hno : ¬qualifies o.kind c = true) : Moves l s b (.content os allowance kept) :=
  h.skipped (if_neg hno)

theorem Offering.noRoom (hk : o.kind = .caption ∨ o.kind = .captionRepeat)
    (hroom : allowance < 20 + c.declared) : Moves l s b (.content os allowance kept) := by
  refine h.skipped ?_
  have hno := Nat.not_le.2 hroom
  unfold placeOffer
  obtain hk | hk := hk
  · simp only [hk, if_neg hno, ite_self]
  · simp only [hk, if_neg hno, ite_self]

/-- A completed airing at an offer. -/
theorem Offering.completes {late : Bool} {e : Cue} {sec : Section}
    (hplace : placeOffer p allowance o c s = some (completeAiring (tellLate late c.aud s) e, sec))
    (hslot : e.slot = c.slot) (haud : e.aud = c.aud) (htrack : e.track = c.track) (hnum : e.num = c.num) :
    ∃ t, Places l s b f t (s.lane l) sec (.content os (allowance - sec.size) kept)
      ∧ t.cueAt o.slot = some (airedCue e) ∧ (∀ j, j ≠ o.slot → t.cueAt j = s.cueAt j)
      ∧ Completed c s t ∧ LateTold late c.aud s t
      ∧ ChangesOnly [.lane l, .cues, .show_ c.aud, .audCounter c.aud .late, .cond .cueLate] s t := by
  let w := tellLate late c.aud s
  have hw : w.cueAt c.slot = some c := by
    rw [cueAt_congr (by simp [w] : w.table = s.table), h.slot]
    exact h.cue
  have hat := completeAiring_cueAt hw hslot
  have hkeep := completeAiring_keeps w e
  rw [haud] at hkeep
  have hcompleted : Completed c s (completeAiring w e) :=
    completed_completeAiring (by simp [w]) haud htrack hnum
  have htold : LateTold late c.aud s (completeAiring w e) :=
    (lateTold_tellLate late c.aud s).after hkeep (by simp) (by simp)
  obtain ⟨t, hplaces, hcues, hcomplete, hlate, hchanges⟩ := h.placed
    (ps := [.cues, .show_ c.aud, .audCounter c.aud .late, .cond .cueLate]) hplace
    ((completeAiring_lanes w e).trans (by simp [w]))
    (((tellLate_keeps late c.aud s).mono (by simp)).trans (hkeep.mono (by simp)))
  have hslot' := h.slot
  refine ⟨t, hplaces, ?_, fun j hj => ?_, hcomplete c hcompleted, hlate late c.aud htold, hchanges⟩
  · rw [hcues, hat, if_pos hslot'.symm]
  · rw [hcues, hat, if_neg (by rw [hslot']; exact hj), cueAt_congr (by simp [w] : w.table = s.table)]

/-- A caption's first airing (R78, R82). -/
theorem Offering.caption (hk : o.kind = .caption) (hq : qualifies o.kind c = true)
    (hroom : 20 + c.declared ≤ allowance) :
    let late : Bool := decide (c.inP ≤ p) && !c.relaunch
    let whole := readPayload c.blocks s.table.payload 0 c.declared
    ∃ t, Places l s b f t (s.lane l)
        (.caption c.head false (c.late || late) c.relaunch (c.attrs.getD defaultAttrs) (bumpAir c.air) whole)
        (.content os (allowance - (20 + whole.length)) kept)
      ∧ t.cueAt o.slot = some { c with
          delivery := .sent, off := min c.declared c.fill, air := bumpAir c.air
          relaunch := false, late := c.late || late }
      ∧ (∀ j, j ≠ o.slot → t.cueAt j = s.cueAt j) ∧ Completed c s t ∧ LateTold late c.aud s t
      ∧ ChangesOnly [.lane l, .cues, .show_ c.aud, .audCounter c.aud .late, .cond .cueLate] s t := by
  intro late whole
  refine h.completes (late := late) (e := ({ c with late := c.late || late } : Cue).captionPlaced)
    ?_ rfl rfl rfl rfl
  unfold placeOffer
  rw [if_pos hq]
  simp only [hk, if_pos hroom, placeCaption, judgeLate_eq]
  rfl

/-- A caption's repeat (R79). -/
theorem Offering.captionRepeat (hk : o.kind = .captionRepeat) (hq : qualifies o.kind c = true)
    (hroom : 20 + c.declared ≤ allowance) :
    let whole := readPayload c.blocks s.table.payload 0 c.declared
    ∃ t, Places l s b f t (s.lane l)
        (.caption c.head true c.late c.relaunch (c.attrs.getD defaultAttrs) (bumpAir c.air) whole)
        (.content os (allowance - (20 + whole.length)) kept)
      ∧ t.cueAt o.slot = some { c with
          off := min c.declared c.fill, repeatDue := false, air := bumpAir c.air }
      ∧ (∀ j, j ≠ o.slot → t.cueAt j = s.cueAt j) ∧ ChangesOnly [.lane l, .cues] s t := by
  intro whole
  have hslot := h.slot
  let e : Cue := { c.captionPlaced with repeatDue := false, air := bumpAir c.air }
  have hplace : placeOffer p allowance o c s = some (s.putCue e,
      .caption c.head true c.late c.relaunch (c.attrs.getD defaultAttrs) (bumpAir c.air) whole) := by
    unfold placeOffer
    rw [if_pos hq]
    simp only [hk, if_pos hroom, placeRepeat]
    rfl
  have hc : s.cueAt c.slot = some c := by
    rw [hslot]
    exact h.cue
  have hat := cueAt_putCue (c' := e) hc rfl
  obtain ⟨t, hplaces, hcues, -, -, hchanges⟩ := h.placed (ps := [.cues]) hplace rfl
    ((putCue_keeps s e).mono (by simp))
  refine ⟨t, hplaces, ?_, fun j hj => ?_, hchanges⟩
  · rw [hcues, hat, if_pos hslot.symm]
    rfl
  · rw [hcues, hat, if_neg (by rw [hslot]; exact hj)]

omit h in
/-- The late flag that a segment's placement judges: at its first byte alone (R82). -/
theorem placeSegment_eq (p n : Nat) (s : State) (c : Cue) :
    let late : Bool := decide (c.off = 0) && (decide (c.inP ≤ p) && !c.relaunch)
    let e : Cue := { c with off := c.off + n, late := c.late || late }
    placeSegment p n s c =
      (if c.off + n = c.declared then completeAiring (tellLate late c.aud s) e
        else (tellLate late c.aud s).putCue e,
        .segment c.head (c.late || late) c.relaunch c.off (readPayload c.blocks s.table.payload c.off n)) := by
  intro late e
  have hjudged : (if c.off = 0 then judgeLate p s c else (s, c))
      = (tellLate late c.aud s, { c with late := c.late || late }) := by
    unfold late
    by_cases h0 : c.off = 0
    · rw [if_pos h0, judgeLate_eq]
      simp [h0]
    · rw [if_neg h0]
      simp [h0, tellLate]
  unfold placeSegment
  rw [hjudged]

/-- A segment's placement (R80, R81). -/
theorem Offering.segment (hk : o.kind = .continuing ∨ o.kind = .firstSegment)
    (hq : qualifies o.kind c = true) :
    let natural := min (s.setting .segmentMax) (c.fill - c.off)
    let late : Bool := decide (c.off = 0) && (decide (c.inP ≤ p) && !c.relaunch)
    let payload (n : Nat) := readPayload c.blocks s.table.payload c.off n
    (fitClip natural allowance = none → Moves l s b (.content os allowance kept))
    ∧ ∀ n, fitClip natural allowance = some n →
      ∃ t, Places l s b f t (s.lane l) (.segment c.head (c.late || late) c.relaunch c.off (payload n))
            (.content os (allowance - (20 + (payload n).length)) kept)
        ∧ (∀ j, j ≠ o.slot → t.cueAt j = s.cueAt j) ∧ LateTold late c.aud s t
        ∧ (c.off + n ≠ c.declared →
            t.cueAt o.slot = some { c with off := c.off + n, late := c.late || late }
            ∧ ChangesOnly [.lane l, .cues, .audCounter c.aud .late, .cond .cueLate] s t)
        ∧ (c.off + n = c.declared →
            t.cueAt o.slot = some { c with
              off := c.declared, late := c.late || late, delivery := .sent, air := bumpAir c.air,
              relaunch := false }
            ∧ Completed c s t
            ∧ ChangesOnly
                [.lane l, .cues, .show_ c.aud, .audCounter c.aud .late, .cond .cueLate] s t) := by
  intro natural late payload
  have hplace : placeOffer p allowance o c s
      = (fitClip natural allowance).map fun n => placeSegment p n s c := by
    unfold placeOffer
    rw [if_pos hq]
    obtain hk | hk := hk <;> rw [hk]
  refine ⟨fun hnone => h.skipped (by rw [hplace, hnone]; rfl), fun n hn => ?_⟩
  rw [hn, Option.map_some, placeSegment_eq] at hplace
  by_cases hdone : c.off + n = c.declared
  · rw [if_pos hdone] at hplace
    obtain ⟨t, hplaces, hself, hothers, hcompleted, hlate, hchanges⟩ :=
      h.completes (late := late) hplace rfl rfl rfl rfl
    refine ⟨t, hplaces, hothers, hlate, fun hno => absurd hdone hno, fun _ => ⟨?_, hcompleted, hchanges⟩⟩
    rw [hself, ← hdone]
    rfl
  · rw [if_neg hdone] at hplace
    let w := tellLate late c.aud s
    let e : Cue := { c with off := c.off + n, late := c.late || late }
    have hslot := h.slot
    have hw : w.cueAt c.slot = some c := by
      rw [cueAt_congr (by simp [w] : w.table = s.table), hslot]
      exact h.cue
    have hat := cueAt_putCue (c' := e) hw rfl
    obtain ⟨t, hplaces, hcues, -, hlate, hchanges⟩ := h.placed
      (ps := [.cues, .audCounter c.aud .late, .cond .cueLate]) hplace
      ((tellLate_frame late c.aud s).2.2 : (w.putCue e).lanes = s.lanes)
      (((tellLate_keeps late c.aud s).mono (by simp)).trans ((putCue_keeps w e).mono (by simp)))
    refine ⟨t, hplaces, fun j hj => ?_, hlate late c.aud ?_, fun _ => ⟨?_, hchanges⟩,
      fun hyes => absurd hyes hdone⟩
    · rw [hcues, hat, if_neg (by rw [hslot]; exact hj), cueAt_congr (by simp [w] : w.table = s.table)]
    · exact (lateTold_tellLate late c.aud s).after (putCue_keeps w e) (by simp) (by simp)
    · rw [hcues, hat, if_pos hslot.symm]

end

end Sys2Proof.Machine
end


section
/-! SUPPORT. Step 7 takes one entry of the Repair Queue (R124 to R129). -/

namespace Sys2Proof.Machine

/-! ### The row of R124's table -/

section

variable {s : State} {b : Build} {e : Repair}

theorem repairAct_holding (h : e.state = .holding) : repairAct s b e = .holding := if_pos h

theorem repairAct_unpositioned (h : e.state ≠ .holding) (hpos : b.posOf e.aud = none) :
    repairAct s b e = .idle := by
  unfold repairAct
  rw [if_neg h, hpos]

theorem repairAct_gone {p : Nat} (h : e.state ≠ .holding) (hpos : b.posOf e.aud = some p)
    (hk : e.kind = .gone) : repairAct s b e = .gone := by
  unfold repairAct
  rw [if_neg h, hpos]
  dsimp only
  rw [hk]

theorem repairAct_content {p : Nat} {c : Cue} (h : e.state ≠ .holding) (hpos : b.posOf e.aud = some p)
    (hk : e.kind = .content) (hc : s.findCue e.aud e.track e.num = some c) :
    (c.outP ≤ p → repairAct s b e = .expired)
    ∧ (p < c.outP → c.kind = .caption →
        repairAct s b e = if c.fill < c.declared then .idle else .caption c)
    ∧ (p < c.outP → c.kind = .clip → repairAct s b e = if c.fill ≤ e.off then .idle
        else .clip c (min (s.setting .repairSegmentMax) (c.fill - e.off))) := by
  unfold repairAct
  rw [if_neg h, hpos]
  dsimp only
  rw [hk]
  dsimp only
  rw [hc]
  dsimp only
  refine ⟨fun hp => if_pos hp, fun hp hkind => ?_, fun hp hkind => ?_⟩
  · rw [if_neg (Nat.not_le.2 hp), hkind]
  · rw [if_neg (Nat.not_le.2 hp), hkind]

end

/-! ### The queue (R120, R128) -/

/-- A lane's queue with the entry at a place replaced or removed. -/
def Lane.putRepair (x : Lane) (k : Nat) (e : Option Repair) : Lane :=
  { x with repairs := e.elim (x.repairs.eraseIdx k) fun e => x.repairs.set k e }

theorem putRepair_eq (s : State) (l : LaneId) (k : Nat) (e : Option Repair) :
    s.putRepair l k e = s.withLane l ((s.lane l).putRepair k e) := by
  cases e <;> rfl

/-- Step 7 at one entry of the queue. -/
structure Repairing (l : LaneId) (s : State) (b : Build) (f : Frame) (passed room : Nat) (e : Repair) :
    Prop extends Building l s b f where
  stage : b.stage = .repairs passed room
  entry : (s.lane l).repairs[passed]? = some e

section

variable {l : LaneId} {s : State} {b : Build} {f : Frame} {passed room : Nat} {e : Repair}
  (h : Repairing l s b f passed room e)

include h

theorem Repairing.unit : buildUnit l s = repairOne l b passed room e s := by
  simp only [buildUnit, h.build, h.stage, h.entry]

/-- An entry that places nothing is left. -/
theorem Repairing.left (hskip : repairOne l b passed room e s = s.toStage l (.repairs (passed + 1) room)) :
    Moves l s b (.repairs (passed + 1) room) := h.moves (h.unit.trans hskip)

theorem Repairing.holding (hstate : e.state = .holding) :
    ∃ t, (e.hold ≤ 1 → Passes l s b t ((s.lane l).putRepair passed none) (.repairs passed room))
      ∧ (1 < e.hold → Passes l s b t ((s.lane l).putRepair passed (some { e with hold := e.hold - 1 }))
          (.repairs (passed + 1) room))
      ∧ ChangesOnly [.lane l] s t := by
  have hact := repairAct_holding (s := s) (b := b) hstate
  have hlane (x : Option Repair) (st : Stage) :
      ((s.putRepair l passed x).toStage l st).lane l
        = { (s.lane l).putRepair passed x with build := some { b with stage := st } } := by
    rw [putRepair_eq, toStage_lane (b := b) (by rw [State.lane_withLane_self]; exact h.build),
      State.lane_withLane_self]
  have hkeep (x : Option Repair) (st : Stage) :
      Keeps [.lane l] s ((s.putRepair l passed x).toStage l st) := by
    rw [putRepair_eq]
    exact (withLane_keeps _ _ _).trans (toStage_keeps _ _ _)
  by_cases hlast : e.hold ≤ 1
  · have hunit : buildUnit l s = (s.putRepair l passed none).toStage l (.repairs passed room) := by
      rw [h.unit]
      simp only [repairOne, hact, if_pos hlast]
    exact ⟨_, fun _ => ⟨h.exec hunit, hlane _ _⟩, fun hno => absurd hlast (Nat.not_le.2 hno),
      (hkeep _ _).changesOnly⟩
  · have hunit : buildUnit l s = (s.putRepair l passed (some { e with hold := e.hold - 1 })).toStage l
        (.repairs (passed + 1) room) := by
      rw [h.unit]
      simp only [repairOne, hact, if_neg hlast]
    exact ⟨_, fun hno => absurd hno hlast, fun _ => ⟨h.exec hunit, hlane _ _⟩, (hkeep _ _).changesOnly⟩

/-- An entry past its deadline is removed and counted (R129). -/
theorem Repairing.expires (hact : repairAct s b e = .expired) :
    ∃ t, Passes l s b t ((s.lane l).putRepair passed none) (.repairs passed room)
      ∧ t.audCount e.aud .repairsLate = bump (s.audCount e.aud .repairsLate)
      ∧ ChangesOnly [.lane l, .audCounter e.aud .repairsLate] s t := by
  let u := s.countAud e.aud .repairsLate
  have hunit : buildUnit l s
      = (u.withLane l ((s.lane l).putRepair passed none)).toStage l (.repairs passed room) := by
    rw [h.unit]
    simp only [repairOne, hact]
    rfl
  refine ⟨_, ⟨h.exec hunit, ?_⟩, ?_, ?_⟩
  · refine (toStage_lane (b := b) ?_ _).trans ?_
    · rw [State.lane_withLane_self]
      exact h.build
    · rw [State.lane_withLane_self]
  · exact (State.audCount_countAud s e.aud e.aud .repairsLate .repairsLate).trans (if_pos ⟨rfl, rfl⟩)
  · exact (((countAud_keeps _ _ _).mono (by simp)).trans (((withLane_keeps _ _ _).mono (by simp)).trans
      ((toStage_keeps _ _ _).mono (by simp)))).changesOnly

/-- A section is placed for an entry (R125, R128). -/
theorem Repairing.placed {sec : Section} {answered : Bool} {x : Option Repair}
    (hone : repairOne l b passed room e s = repairPlaced l b passed room sec e.aud answered x s) :
    ∃ t, Places l s b f t ((s.lane l).putRepair passed x) sec
        (.repairs (if x.isSome then passed + 1 else passed) (room - sec.size))
      ∧ (answered = true → t.audCount e.aud .repairsAnswered = bump (s.audCount e.aud .repairsAnswered)
        ∧ ChangesOnly [.lane l, .audCounter e.aud .repairsAnswered] s t)
      ∧ (answered = false → ChangesOnly [.lane l] s t) := by
  let st : Stage := .repairs (if x.isSome then passed + 1 else passed) (room - sec.size)
  let u := s.addSection l b.buf sec
  let v := if answered then u.countAud e.aud .repairsAnswered else u
  have hunit : buildUnit l s = (v.withLane l ((v.lane l).putRepair passed x)).toStage l st := by
    rw [h.unit, hone, ← putRepair_eq]
    rfl
  have hv : v.lane l = u.lane l := by
    unfold v
    split <;> rfl
  have hadd : Keeps [.lane l] s u := addSection_keeps s l b.buf sec
  have hend : Keeps [.lane l] v ((v.withLane l ((v.lane l).putRepair passed x)).toStage l st) :=
    (withLane_keeps _ _ _).trans (toStage_keeps _ _ _)
  have hbuild : ((u.lane l).putRepair passed x).build = some b := h.added_build sec
  have hlane : ((v.withLane l ((v.lane l).putRepair passed x)).toStage l st).lane l
      = { (u.lane l).putRepair passed x with build := some { b with stage := st } } := by
    rw [hv, toStage_lane (b := b) (by rw [State.lane_withLane_self]; exact hbuild),
      State.lane_withLane_self]
  have hadded : u.lane l = _ := addSection_lane h.buf sec
  rw [hadded] at hlane
  have hexec := h.exec hunit
  refine ⟨_, ⟨hexec, Eq.trans hlane ?_⟩, fun hyes => ?_, fun hno => ?_⟩
  · cases b.buf <;> rfl
  · have hcounted : v = u.countAud e.aud .repairsAnswered := if_pos hyes
    have hcount : v.audCount e.aud .repairsAnswered = bump (s.audCount e.aud .repairsAnswered) := by
      rw [hcounted, State.audCount_countAud, if_pos ⟨rfl, rfl⟩]
      exact congrArg bump (hadd (.audCounter e.aud .repairsAnswered) (by simp))
    have hkeep : Keeps [.lane l, .audCounter e.aud .repairsAnswered] s v := by
      rw [hcounted]
      exact (hadd.mono (by simp)).trans ((countAud_keeps _ _ _).mono (by simp))
    exact ⟨Eq.trans (hend (.audCounter e.aud .repairsAnswered) (by simp)) hcount,
      (hkeep.trans (hend.mono (by simp))).changesOnly⟩
  · have hcounted : v = u := if_neg (by simp [hno])
    rw [hcounted] at hend ⊢
    exact (hadd.trans hend).changesOnly

/-- An entry is answered: its section is placed, and it is HOLDING, or removed at once (R128). -/
def Repairing.Served (_ : Repairing l s b f passed room e) (sec : Section) : Prop :=
  ∃ t, (s.setting .holdFrames = 0 →
      Places l s b f t ((s.lane l).putRepair passed none) sec (.repairs passed (room - sec.size)))
    ∧ (s.setting .holdFrames ≠ 0 →
        Places l s b f t ((s.lane l).putRepair passed
            (some { e with state := .holding, hold := s.setting .holdFrames, off := 0 }))
          sec (.repairs (passed + 1) (room - sec.size)))
    ∧ t.audCount e.aud .repairsAnswered = bump (s.audCount e.aud .repairsAnswered)
    ∧ ChangesOnly [.lane l, .audCounter e.aud .repairsAnswered] s t

theorem Repairing.served {sec : Section} (hone : repairOne l b passed room e s
    = repairPlaced l b passed room sec e.aud true (doneRepair s e) s) : h.Served sec := by
  obtain ⟨t, hplaces, hanswered, -⟩ := h.placed hone
  obtain ⟨hcount, hchanges⟩ := hanswered rfl
  refine ⟨t, fun hzero => ?_, fun hsome => ?_, hcount, hchanges⟩
  · have hdone : doneRepair s e = none := if_pos hzero
    rw [hdone] at hplaces
    exact hplaces
  · have hdone : doneRepair s e
        = some { e with state := .holding, hold := s.setting .holdFrames, off := 0 } := if_neg hsome
    rw [hdone] at hplaces
    exact hplaces

omit h in
/-- The room of an entry whose auditorium has jumped is none (R88; log entry 14). -/
theorem roomOf_lt {n : Nat} (hn : 0 < n) (hno : e.aud ∈ b.jumped ∨ room < n) :
    ¬n ≤ (if b.jumped.contains e.aud then 0 else room) := by
  obtain hjumped | hroom := hno
  · rw [if_pos (List.contains_iff_mem.2 hjumped)]
    omega
  · split <;> omega

omit h in
theorem roomOf_stays (hno : e.aud ∉ b.jumped) :
    (if b.jumped.contains e.aud then 0 else room) = room :=
  if_neg (mt List.contains_iff_mem.1 hno)

theorem Repairing.idles (hact : repairAct s b e = .idle) : Moves l s b (.repairs (passed + 1) room) :=
  h.left (by simp only [repairOne, hact])

theorem Repairing.gone (hact : repairAct s b e = .gone) :
    (e.aud ∉ b.jumped → 8 ≤ room → h.Served (.gone e.aud e.track e.num e.rev e.asks))
      ∧ (e.aud ∈ b.jumped ∨ room < 8 → Moves l s b (.repairs (passed + 1) room)) := by
  refine ⟨fun hjumped hroom => h.served ?_, fun hno => h.left ?_⟩
  · simp only [repairOne, hact, roomOf_stays hjumped, if_pos hroom]
  · simp only [repairOne, hact, if_neg (roomOf_lt (by omega) hno)]

theorem Repairing.caption {c : Cue} (hact : repairAct s b e = .caption c) :
    (e.aud ∈ b.jumped ∨ room < 20 + c.declared → Moves l s b (.repairs (passed + 1) room))
      ∧ (e.aud ∉ b.jumped → 20 + c.declared ≤ room →
        h.Served (repairSection s e c (some (c.attrs.getD defaultAttrs)) c.declared)) := by
  refine ⟨fun hno => h.left ?_, fun hjumped hroom => h.served ?_⟩
  · simp only [repairOne, hact, if_neg (roomOf_lt (by omega) hno)]
  · simp only [repairOne, hact, roomOf_stays hjumped, if_pos hroom]

theorem Repairing.clip {c : Cue} {natural : Nat} (hact : repairAct s b e = .clip c natural) :
    (e.aud ∈ b.jumped ∨ fitClip natural room = none → Moves l s b (.repairs (passed + 1) room))
      ∧ (e.aud ∉ b.jumped → ∀ n, fitClip natural room = some n →
        (e.off + n = c.declared → h.Served (repairSection s e c none n))
        ∧ (e.off + n ≠ c.declared →
            ∃ t, Places l s b f t
                ((s.lane l).putRepair passed (some { e with state := .sending, off := e.off + n }))
                (repairSection s e c none n)
                (.repairs (passed + 1) (room - (repairSection s e c none n).size))
              ∧ ChangesOnly [.lane l] s t)) := by
  refine ⟨fun hno => h.left ?_, fun hjumped n hn => ⟨fun hdone => h.served ?_, fun hdone => ?_⟩⟩
  · have hnone : fitClip natural (if b.jumped.contains e.aud then 0 else room) = none := by
      by_cases hjumped : e.aud ∈ b.jumped
      · rw [if_pos (List.contains_iff_mem.2 hjumped), fitClip, if_neg (by omega), if_neg (by omega)]
      · rw [roomOf_stays hjumped]
        exact hno.resolve_left hjumped
    simp only [repairOne, hact, hnone]
  · simp only [repairOne, hact, roomOf_stays hjumped, hn, hdone, decide_true, servedClip, if_true]
  · have hone : repairOne l b passed room e s = repairPlaced l b passed room (repairSection s e c none n)
        e.aud false (some { e with state := .sending, off := e.off + n }) s := by
      simp only [repairOne, hact, roomOf_stays hjumped, hn, hdone, decide_false, servedClip, if_false]
    obtain ⟨t, hplaces, -, hchanges⟩ := h.placed hone
    exact ⟨t, hplaces, hchanges rfl⟩

end

end Sys2Proof.Machine
end


section
/-! PROOFS. One unit of a build (O55). -/

namespace Sys2Proof.Machine

theorem endsAt_eq (p : Nat) (c : Cue) : endsAt p c = true
    ↔ c.phase ≠ .retained ∧ c.outP ≤ p ∧ (c.phase = .showing ∨ c.inP ≤ p) := by
  simp [endsAt, and_assoc]

theorem shownCue_eq (s : State) (p : Nat) (c : Cue) :
    shownCue s p c = if c.phase = .ahead ∧ c.inP ≤ p
      then { c with
        phase := .showing
        repeatDue := if c.kind = .caption ∧ s.setting .captionRepeat = 1 ∧ c.delivery = .sent
            ∧ 0 < s.listeners c.aud c.track then true else c.repeatDue }
      else c := by
  have howed : (c.repeatDue || repeatOwed s c) = if c.kind = .caption ∧ s.setting .captionRepeat = 1
      ∧ c.delivery = .sent ∧ 0 < s.listeners c.aud c.track then true else c.repeatDue := by
    split
    · next h =>
      obtain ⟨hk, hset, hsent, hsome⟩ := h
      simp [repeatOwed, hk, hset, hsent, hsome]
    · next h =>
      have hno : repeatOwed s c = false := by
        rw [Bool.eq_false_iff]
        intro hyes
        simp only [repeatOwed, Bool.and_eq_true, beq_iff_eq, decide_eq_true_eq, and_assoc] at hyes
        exact h hyes
      rw [hno, Bool.or_false]
  unfold shownCue
  rw [howed]

theorem Walked.becomes {l : LaneId} {s : State} {b : Build} {c : Cue} {work : List (Aud × Track)}
    {slots : List Nat} {offers : List Offer} {t : State} {e : Cue}
    (h : Walked l s b c work slots offers t e none) :
    Passes l s b t (s.lane l) (.walk work slots offers) ∧ t.cueAt c.slot = some e
      ∧ ∀ j, j ≠ c.slot → t.cueAt j = s.cueAt j := by
  unfold Walked at h
  rwa [Option.map_none, Option.toList_none, List.append_nil] at h

/-- Settles O55. -/
theorem buildProgressPlacesOneSection : Obligations.BuildProgressPlacesOneSection := by
  intro l s b f hphase hbuild hbuf x passes places moves due fits fitsNot position once others completed
    judged
  have h : Building l s b f := ⟨hphase, hbuild, hbuf⟩
  have hdue (every : Nat) (i : RxIdx) : mayAnnounce s l b.number every i = true ↔ due every i :=
    mayAnnounce_iff
  refine ⟨fun a left hst => h.stamp hst, fun hst => h.stampsDone hst,
    fun passed placed n hst hn hroom => h.notice hst hn hroom, fun passed placed hst hend => h.noticesDone hst hend,
    fun chosen every cap hst => h.selected hst, fun i left chosen every cap hst => ?_,
    fun i left every hst => ?_, fun i sec left every hst hi => h.announcing_left hst hi,
    fun every hst => h.walk_opens hst, fun a u work offers hst => h.walk_track hst,
    fun offers hst => h.walk_done hst, fun i sec left every r hst hi hr => h.announcing_stays hst hi hr,
    fun work slot slots offers c a r p hst hc hread hp hnot hnot' => ?_,
    fun work slot slots offers c a r p hst hc hread hp => ?_, fun offers hst => ?_,
    fun o os allowance kept c p hst hc hp => ?_, fun allowance kept hst => ?_,
    fun passed room hst hnone => ?_, fun passed room e hst he => ?_⟩
  · obtain ⟨hfull, hyes, hno⟩ := h.select hst
    exact ⟨hfull, fun hroom hd => hyes hroom ((hdue every i).2 hd),
      fun hroom hd => hno hroom (mt (hdue every i).1 hd)⟩
  · obtain ⟨hyes, hno⟩ := h.announce hst
    refine ⟨fun r hd hr => ?_, fun hd => hno (mt (hdue every i).1 hd)⟩
    have hmoves := hyes r ((hdue every i).2 hd) hr
    unfold announceOf at hmoves
    rw [State.index_of_rx? hr] at hmoves
    exact hmoves
  · obtain rfl : c.slot = slot := slot_of_cueAt hc
    have hw : Walking l s b f work c slots offers r p := ⟨h, hst, hc, ⟨a, hread⟩, hp⟩
    have hends : endsAt p c = false := by
      rw [Bool.eq_false_iff]
      intro hyes
      obtain ⟨hphase, hout, -⟩ := (endsAt_eq p c).1 hyes
      exact Nat.not_le.2 (hnot hphase) hout
    have hstays : retiresAt s p c = false := by
      by_cases hphase : c.phase = .retained
      · simp [retiresAt, Nat.not_le.2 (hnot' hphase)]
      · simp [retiresAt, hends, hphase]
    have hwalk := hw.walk_stays hends hstays
    rw [shownCue_eq, leadPos_eq] at hwalk
    exact hwalk
  · obtain rfl : c.slot = slot := slot_of_cueAt hc
    have hw : Walking l s b f work c slots offers r p := ⟨h, hst, hc, ⟨a, hread⟩, hp⟩
    intro n ends lead d becomes dropped underran
    have hiff : endsAt p c = true ↔ ends := endsAt_eq p c
    refine ⟨fun hended hmark => ?_, fun hgone hmark hopen => ?_⟩
    · have hstays : retiresAt s p c = false := by simp [retiresAt, Nat.not_le.2 hmark]
      have hends := hiff.2 hended
      have hwalk := hw.walk_ends hends hstays
      rw [leadPos_eq] at hwalk
      obtain ⟨hdropped, hunattended, hlast⟩ := hwalk
      refine ⟨fun hsending hk => ?_, fun hcase => ?_, fun hwaiting hin hn => ?_, fun hcase => ?_⟩
      · obtain ⟨t, hwalked, hunder, hchanges⟩ := hw.ends_underrun hends hstays hsending hk
        exact ⟨t, hwalked.becomes, hunder, hchanges⟩
      · obtain ⟨t, hwalked, hdrop, hchanges⟩ := hdropped hcase
        exact ⟨t, hwalked.becomes, hdrop, hchanges⟩
      · obtain ⟨t, hwalked, hchanges⟩ := hunattended hwaiting hin hn
        exact ⟨t, hwalked.becomes, hchanges⟩
      · obtain ⟨t, hwalked, hchanges⟩ := hlast hcase
        exact ⟨t, hwalked.becomes, hchanges⟩
    · have hretires : retiresAt s p c = true := by
        simp [retiresAt, hmark, (hgone.imp_left hiff.2).symm]
      obtain ⟨t, hexec, hlane, y, hretired⟩ := hw.walk_retires hretires ((openOn_iff s c.aud l).1 hopen)
      have hclip : stopsAs .clip p c = true ↔ ends ∧ c.delivery = .sending ∧ c.kind = .clip := by
        simp [stopsAs, ← hiff, and_assoc, and_comm (a := c.kind = _)]
      have hdrop : dropsAt s p c = true
          ↔ ends ∧ c.delivery = .sending ∧ c.kind = .caption ∨ c.delivery = .waiting ∧ n ≠ 0 := by
        simp [dropsAt, missedAt_iff, hretires, stopsAs, ← hiff, and_assoc, and_comm (a := c.kind = _),
          Nat.pos_iff_ne_zero, n]
      obtain ⟨hcues, hfree, hpool, htracks, hlaneOf, hcount, -, hunder, hunderrun, hlateDrop, hcueLate,
        hkeep⟩ := hretired
      refine ⟨_, hexec, hcues, hfree, hpool, htracks, hlaneOf, hcount, ?_, fun hyes => ?_, fun hno => ?_,
        fun hyes => ?_, fun hno => ?_, hkeep.changesOnly⟩
      · have hturn : (fun e : Repair => if e.names c.aud c.track c.num then e.turnGone else e)
            = fun e => if e.aud = c.aud ∧ e.track = c.track ∧ e.num = c.num
              then { e with kind := .gone, state := .waiting, off := 0, hold := 0 } else e := by
          funext e
          exact if_congr (by simp [Repair.names, and_assoc]) rfl rfl
        rw [hturn] at hlane
        exact hlane
      · exact ⟨hunder.trans (if_pos (hclip.2 hyes)), hunderrun.trans (if_pos (hclip.2 hyes))⟩
      · exact ⟨hunder.trans (if_neg (mt hclip.1 hno)), hunderrun.trans (if_neg (mt hclip.1 hno))⟩
      · exact ⟨hlateDrop.trans (if_pos (hdrop.2 hyes)), hcueLate.trans (if_pos (hdrop.2 hyes))⟩
      · exact ⟨hlateDrop.trans (if_neg (mt hdrop.1 hno)), hcueLate.trans (if_neg (mt hdrop.1 hno))⟩
  · obtain ⟨t, os, hpasses, hperm, hsorted, hchanges⟩ := h.reserve hst
    refine ⟨t, os, hpasses, hperm, hsorted.imp fun {o o'} hno hlt => hno ((key_lt_iff o' o).2 hlt), hchanges⟩
  · have ho : Offering l s b f o os allowance kept c p := ⟨h, hst, hc, hp⟩
    have hfits (natural n : Nat) (hn : fits natural allowance n) := fitClip_some hn
    refine ⟨fun hno => ho.unqualified (mt (qualifies_iff o.kind c).1 hno), fun hk hkind hsending hroom => ?_,
      fun hk hkind hphase hrepeat hroom => ?_, fun hk hroom => ho.noRoom hk hroom,
      fun hk hkind hsending hleft => ?_⟩
    · exact ho.caption hk ((qualifies_iff o.kind c).2 (.inl ⟨hk, hkind, hsending⟩)) hroom
    · exact ho.captionRepeat hk
        ((qualifies_iff o.kind c).2 (.inr (.inl ⟨hk, hkind, hphase, hrepeat⟩))) hroom
    · obtain ⟨hskips, hplaces⟩ := ho.segment hk
        ((qualifies_iff o.kind c).2 (.inr (.inr ⟨hk, hkind, hsending, hleft⟩)))
      exact ⟨fun hno => hskips (fitClip_none hno), fun n hn => hplaces n (fitClip_some hn)⟩
  · exact h.moves (by simp only [buildUnit, h.build, hst])
  · have hend : (s.lane l).repairs[passed]? = none := hnone
    exact h.moves (by simp only [buildUnit, h.build, hst, hend])
  · have hr : Repairing l s b f passed room e := ⟨h, hst, he⟩
    refine ⟨fun hholding => hr.holding hholding,
      fun hactive hpos => hr.idles (repairAct_unpositioned hactive hpos), fun p hactive hpos =>
      ⟨fun hk hjumped hroom => ?_, fun hk hno => ?_, fun c hk hc => ?_⟩⟩
    · exact (hr.gone (repairAct_gone hactive hpos hk)).1 hjumped hroom
    · exact (hr.gone (repairAct_gone hactive hpos hk)).2 hno
    · obtain ⟨hexpired, hcaption, hclip⟩ := repairAct_content hactive hpos hk hc
      refine ⟨fun hpast => hr.expires (hexpired hpast), fun hnext hkind => ⟨fun hno => ?_,
        fun hwhole hjumped hroom hoff => ?_⟩, fun hnext hkind => ⟨fun hno => ?_,
        fun hleft hjumped n hn => ?_⟩⟩
      · have hact := hcaption hnext hkind
        by_cases hshort : c.fill < c.declared
        · rw [if_pos hshort] at hact
          exact hr.idles hact
        · rw [if_neg hshort] at hact
          exact (hr.caption hact).1 (hno.resolve_left hshort)
      · have hact := hcaption hnext hkind
        rw [if_neg (Nat.not_lt.2 hwhole)] at hact
        exact (hr.caption hact).2 hjumped hroom
      · have hact := hclip hnext hkind
        by_cases hnone : c.fill ≤ e.off
        · rw [if_pos hnone] at hact
          exact hr.idles hact
        · rw [if_neg hnone] at hact
          exact (hr.clip hact).1 ((hno.resolve_left hnone).imp_right fitClip_none)
      · have hact := hclip hnext hkind
        rw [if_neg (Nat.not_le.2 hleft)] at hact
        exact (hr.clip hact).2 hjumped n (fitClip_some hn)

end Sys2Proof.Machine
end
